-- ==== Sys2Proof/Word.lean ====
section
/-! DEFINITION. The plainest word types of the PL-480. Counts, indexes and register values are `Nat`; a byte of
memory and a digest on the wire are bit vectors or little-endian byte lists. -/
namespace Sys2Proof

/-- One byte of memory (every multi-byte quantity of the manual is little-endian). -/
abbrev Byte := BitVec 8

/-- A run of bytes, lowest address first, each as a number below 256. -/
abbrev Bytes := List Nat

/-- Camp 0-15 (R20). -/
abbrev Camp := Fin 16
/-- Stream slot of a camp: 0 FWD, 1 BWD, 2 UPD, 3 GEN (R12, R20). -/
abbrev Slot := Fin 4
/-- A stream slot of the module: camp * 4 + slot below 64, and 64 + host camp * 4 + context for a guest context (R474). -/
abbrev SlotKey := Fin 128
/-- Breaker engine 0-127 (R20). -/
abbrev Engine := Fin 128
/-- Peg core 0-63 (R20). -/
abbrev PegCore := Fin 64
/-- Pitch 0-8; 0 is the Warden's control pitch (R20). -/
abbrev Pitch := Fin 9
/-- Tideway port TW00-TW35 (R20). -/
abbrev TwPort := Fin 36
/-- Host port HE0 or HE1 (R20). -/
abbrev HePort := Fin 2
/-- Guyline GL00-GL31 (R20). -/
abbrev Guyline := Fin 32
/-- Physical pseudo-channel 0-511: stack * 64 + pseudo-channel (R20, R36). -/
abbrev PseudoCh := Fin 512
/-- Shelf or Cliff die 0-1 (R18). -/
abbrev Die := Fin 2
/-- Device ID of a Tideway fabric (R40). -/
abbrev DevId := Fin 4096

end Sys2Proof
end

