-- ==== Sys2Proof/Config.lean ====
section
/-! DEFINITION. What the manual leaves open as a value, or fixes per part: opaque constants without a body, so that
nothing can be proved of their values. -/
namespace Sys2Proof.Config

/-- The stream of free values: entry `n` is the `n`-th value drawn (log 2). -/
opaque free : Nat → Nat

/-- The 192 body bytes of a logbook entry whose fields R450 names without their places: kind and fields to a number. -/
opaque logBody : Nat → List Nat → Nat

/-- Ed448 (RFC 8032): the public key of a 57-byte seed, 57 bytes as a number. -/
opaque ed448Public (seed : Nat) : Nat

/-- Ed448 (RFC 8032): the signature of a seed over a context and a message, 114 bytes as a number. -/
opaque ed448Sign (seed : Nat) (context message : Bytes) : Nat

/-- The unique device secret in the fuses (R443), 64 bytes as a number. -/
opaque deviceSecret : Nat

/-- Byte `i` of what a tenant vector program leaves in its operands, for the draw `n` that stands for its run (R261). -/
opaque tenantByte (n i : Nat) : Nat

/-- TENSOR of an update-rounding draw (R230): the manual does not say how a VPROG learns it, so it is an open function of the job and of
where the row of the master lies in memory. -/
opaque updateTensor (job addr : Nat) : Nat

/-- The row within the whole tensor of the master's row at an address (R230), open likewise. -/
opaque updateRow (job addr : Nat) : Nat

/-- The step that an update runs for (R230, R241), which no descriptor names: an open function of the job and its last committed step. -/
opaque updateStep (job committed : Nat) : Nat

/-- The calibrated coefficients of the governor's estimate (R395, R398, R399), in 1/65,536 mW for one count: of each class of activity, of
Runnel activity at its Margin class, and of one enabled lane group in a ramp-class cycle, its multipliers suppressed. -/
opaque activityWeight (kind : Nat) : Nat
/-- See `activityWeight`. -/
opaque runnelWeight : Nat
/-- See `activityWeight`. -/
opaque suppressedWeight : Nat

/-- A camp's idle floor F_c in mW, calibrated at manufacture and held in fuses (R395). -/
opaque idleFloor (camp : Nat) : Nat

/-- The owner's Ed448 public key written at manufacture (R431, R525), 57 bytes as a number. -/
opaque ownerKey : Nat

/-- Byte `off` of firmware slot `slot` as manufactured (R489): the manual does not give the image that a module ships with. -/
opaque flashByte (slot off : Nat) : Nat

/-- The Grinmio root public key in the boot ROM (R491), 57 bytes as a number. -/
opaque rootKey : Nat

/-- The digest of the boot ROM (R452). -/
opaque romDigest : Nat

/-- The digest of SEC_FUSE, given as a word, and the configuration fuses (R452). -/
opaque fuseDigest (fuses : Nat) : Nat

/-- X448 (R373, RFC 7748): a private key and a point's coordinate give a coordinate; 5 is the base point's. -/
opaque x448 (secret point : Nat) : Nat

/-- Whether an Ed448 signature verifies (R490, RFC 8032): key, context, message, signature. -/
opaque ed448Verify (key : Nat) (context message : Bytes) (signature : Nat) : Bool

/-- The module serial (R454), 64 bits. -/
opaque serial : Nat

/-- The Grinmio root's signature in the identity key's certificate, written at manufacture (R453), over the bytes before it. -/
opaque certificateSign (bytes : Bytes) : Nat

/-- The MAC address of HE0 (R365). -/
opaque macAddress : Nat

end Sys2Proof.Config
end

