-- ==== Sys2Proof/Machine/Codes.lean ====
section
/-! DEFINITION. The fault and event codes of R9, as the last table of each chapter lists them, with the severity that
the table gives each (R10). -/
namespace Sys2Proof.Machine.Code

/-! R76 -/
def FINE_SCALE_RESERVED : Nat := 0x0101
def Q4T_HEADER_INVALID : Nat := 0x0102
def Q4T_MISMATCH : Nat := 0x0103
def COARSE_SCALE_INVALID : Nat := 0x0104
def CLIP_BOUNDS_INVALID : Nat := 0x0105
def POISON_CONSUMED : Nat := 0x0106
def CNV_COUNTER_SAT : Nat := 0x0107
def MX_FORMAT_INVALID : Nat := 0x0108
/-! R107 -/
def LADDER_SITE_DOWN : Nat := 0x0110
def LADDER_SITE_UP : Nat := 0x0111
def LADDER_FLOOR : Nat := 0x0112
def LADDER_STEP_STALE : Nat := 0x0113
def LADDER_SITE_INVALID : Nat := 0x0114
def SITE_RECORD_INVALID : Nat := 0x0115
def ROT_SEED_ABSENT : Nat := 0x0116
def ROT_SHAPE_INVALID : Nat := 0x0117
def LAD_COUNTER_SAT : Nat := 0x0118
/-! R162 -/
def DATUM_LOSS : Nat := 0x0120
def DATUM_SETTING_INVALID : Nat := 0x0121
def DTM_COUNTER_SAT : Nat := 0x0122
/-! R220 -/
def ACT_TABLE_INVALID : Nat := 0x0130
def ROW_SETTING_INVALID : Nat := 0x0131
/-! R141 -/
def FEED_STALL : Nat := 0x0201
def DRAIN_STALL : Nat := 0x0202
def ENGINE_WATCHDOG : Nat := 0x0203
def PATH_INVALID : Nat := 0x0204
def PLOT_INVALID : Nat := 0x0205
def MARGIN_DENIED : Nat := 0x0206
def BRK_COUNTER_SAT : Nat := 0x0207
/-! R193 -/
def STASH_EXHAUSTED : Nat := 0x0301
def STASH_NOT_KEPT : Nat := 0x0302
def STASH_ENTRY_ABSENT : Nat := 0x0303
def CHAIN_TABLE_INVALID : Nat := 0x0304
def CHAIN_LIST_INVALID : Nat := 0x0305
def STREAM_WAIT_TIMEOUT : Nat := 0x0306
def STREAM_SETTING_INVALID : Nat := 0x0307
def STREAM_CAMP_FENCED : Nat := 0x0308
def STREAM_COUNTER_SAT : Nat := 0x0309
def STREAM_FORCED_ABORT : Nat := 0x030A
/-! R220 -/
def GS_HEADER_INVALID : Nat := 0x0320
def GS_ORDER_STALE : Nat := 0x0321
def GS_FROZEN : Nat := 0x0322
def GS_DIRTY : Nat := 0x0323
def GS_COUNTER_SAT : Nat := 0x0324
/-! R241 -/
def COMMIT_ABORT : Nat := 0x0340
def COMMIT_IN_DOUBT : Nat := 0x0341
def COMMIT_SETTING_INVALID : Nat := 0x0342
def UPD_SETTING_INVALID : Nat := 0x0343
def UPD_NONFINITE : Nat := 0x0344
def COMMIT_RESOLVED : Nat := 0x0345
def CMT_COUNTER_SAT : Nat := 0x0346
/-! R276 -/
def DESC_TYPE_INVALID : Nat := 0x0360
def DESC_RESERVED_SET : Nat := 0x0361
def DESC_FIELD_INVALID : Nat := 0x0362
def DESC_RECORD_INVALID : Nat := 0x0363
def DESC_WATCHDOG : Nat := 0x0364
def GATHER_INDEX_RANGE : Nat := 0x0365
/-! R306 -/
def TALLY_OVERFLOW : Nat := 0x0401
def TALLY_UNDERFLOW : Nat := 0x0402
def TALLY_RESIDUE : Nat := 0x0403
def TALLY_TOUCH_FULL : Nat := 0x0404
def TALLY_LIMIT_INVALID : Nat := 0x0405
def TALLY_UNREACHABLE : Nat := 0x0406
def BARRIER_OVERRUN : Nat := 0x0407
def BARRIER_NOT_MEMBER : Nat := 0x0408
def SIGNAL_AHEAD : Nat := 0x0409
def SIGNAL_REFUSED : Nat := 0x040A
def HAND_SET : Nat := 0x040B
def SYNC_COUNTER_SAT : Nat := 0x040C
/-! R336 -/
def ADDRESS_RESERVED : Nat := 0x0501
def MEM_UNCORRECTABLE : Nat := 0x0502
def MEM_POISONED : Nat := 0x0503
def MEM_TIMEOUT : Nat := 0x0504
def MEM_REFORM : Nat := 0x0505
def MEM_OWNER_MISMATCH : Nat := 0x0506
def MEM_PAGE_RETIRED : Nat := 0x0507
def MEM_RETIRE_FULL : Nat := 0x0508
def HBM_PIN_MARKED : Nat := 0x0509
def HBM_CHANNEL_RETRAIN : Nat := 0x050A
def HBM_CHANNEL_DEAD : Nat := 0x050B
def MEM_REFORM_BEGIN : Nat := 0x050C
def MEM_REFORM_DONE : Nat := 0x050D
def MEM_PAGE_WITHDRAWN : Nat := 0x050E
def SHF_BANK_FENCED : Nat := 0x050F
def TG_MISMATCH : Nat := 0x0510
def MEM_COUNTER_SAT : Nat := 0x0511
def COVE_WRITE_REFUSED : Nat := 0x0512
/-! R364 -/
def FABRIC_TIMEOUT : Nat := 0x0601
def FABRIC_NO_ROUTE : Nat := 0x0602
def FABRIC_HOP_LIMIT : Nat := 0x0603
def FABRIC_CONTROL_REFUSED : Nat := 0x0604
def FABRIC_LINK_DOWN : Nat := 0x0605
def FABRIC_AUTH_FAIL : Nat := 0x0606
def FABRIC_BUSY : Nat := 0x0607
def LINK_RETRAIN : Nat := 0x0608
def LINK_NARROWED : Nat := 0x0609
def PORT_DOWN : Nat := 0x060A
def PORT_RESTORED : Nat := 0x060B
def COLL_MISMATCH : Nat := 0x060C
def COLL_ABORTED : Nat := 0x060D
def COLL_SETTING_INVALID : Nat := 0x060E
def TWY_COUNTER_SAT : Nat := 0x060F
/-! R394 -/
def MBX_FORMAT_INVALID : Nat := 0x0701
def MBX_OPCODE_INVALID : Nat := 0x0702
def MBX_NOT_PERMITTED : Nat := 0x0703
def MBX_NOT_AVAILABLE : Nat := 0x0704
def MBX_SEQ_STALE : Nat := 0x0705
def MBX_BUSY : Nat := 0x0706
def MBX_QUEUE_FULL : Nat := 0x0707
def MBX_SESSION_LIMIT : Nat := 0x0708
def MBX_STATE_CONFLICT : Nat := 0x0709
def MBX_JOB_INVALID : Nat := 0x070A
def MBX_WINDOW_INVALID : Nat := 0x070B
def MBX_AUTH_FAIL : Nat := 0x070C
def MBX_SESSION_ENDED : Nat := 0x070D
def HOST_LINK_DOWN : Nat := 0x070E
def HOST_LINK_UP : Nat := 0x070F
def ROCE_ACCESS_REFUSED : Nat := 0x0710
def MBX_COUNTER_SAT : Nat := 0x0711
/-! R428 -/
def COOLANT_STOP : Nat := 0x0801
def COOLANT_RESUMED : Nat := 0x0802
def FLOW_GLITCH : Nat := 0x0803
def THERMAL_TRIP : Nat := 0x0804
def THERMAL_RETURN : Nat := 0x0805
def THERMAL_STEP : Nat := 0x0806
def MODULE_LIMIT : Nat := 0x0807
def POLICY_HELD : Nat := 0x0808
def THROTTLE_PEER : Nat := 0x0809
def REPEAT_BROKEN : Nat := 0x080A
def DZISIA_RESTART : Nat := 0x080B
def LANTERN_RESTART : Nat := 0x080C
def POWER_STATE_CHANGED : Nat := 0x080D
def SENSOR_FAULT : Nat := 0x080E
def PWR_COUNTER_SAT : Nat := 0x080F
/-! R457 -/
def SEC_SEALED : Nat := 0x0901
def SEC_FUSE_EXHAUSTED : Nat := 0x0902
def SEC_CRED_INVALID : Nat := 0x0903
def SEC_LOG_UNAVAILABLE : Nat := 0x0904
def SEC_LOG_CHECKPOINT : Nat := 0x0905
def SEC_LOG_WRAPPED : Nat := 0x0906
def SEC_OWNER_CHANGED : Nat := 0x0907
def SEC_PITCH_ASSIGNED : Nat := 0x0908
def SEC_PITCH_RELEASED : Nat := 0x0909
def SEC_PITCH_FORCED : Nat := 0x090A
def SEC_DEBUG_UNLOCKED : Nat := 0x090B
def SEC_COUNTER_SAT : Nat := 0x090C
/-! R488 -/
def RESIDUE_MISMATCH : Nat := 0x0A01
def DUP_MISMATCH : Nat := 0x0A02
def CROSSING_PARITY : Nat := 0x0A03
def UNIT_FENCED : Nat := 0x0A04
def FENCE_DONE : Nat := 0x0A05
def UNIT_RETURNED : Nat := 0x0A06
def UNIT_STATE_SKEW : Nat := 0x0A07
def CAMP_MOVED : Nat := 0x0A08
def MOVE_FAILED : Nat := 0x0A09
def HEARTBEAT_MISSED : Nat := 0x0A0A
def SELFTEST_FAIL : Nat := 0x0A0B
def DIGEST_MISMATCH : Nat := 0x0A0C
def SPINDRIFT_KEY_ABSENT : Nat := 0x0A0D
def FENCE_UNIT_INVALID : Nat := 0x0A0E
def REL_COUNTER_SAT : Nat := 0x0A0F
/-! R508 -/
def START_DONE : Nat := 0x0B01
def START_FAILED : Nat := 0x0B02
def START_HELD : Nat := 0x0B03
def BIVOUAC_ENTERED : Nat := 0x0B04
def BIVOUAC_LEFT : Nat := 0x0B05
def IMAGE_INVALID : Nat := 0x0B06
def IMAGE_BELOW_FLOOR : Nat := 0x0B07
def FW_SLOT_BUSY : Nat := 0x0B08
def FW_NOT_VERIFIED : Nat := 0x0B09
def HANDOFF_DONE : Nat := 0x0B0A
def HANDOFF_FAILED : Nat := 0x0B0B
def FLOOR_RAISED : Nat := 0x0B0C
def STU_COUNTER_SAT : Nat := 0x0B0D

/-- The codes of severity 0. -/
def infoCodes : List Nat := [
  CNV_COUNTER_SAT, LADDER_SITE_UP, LAD_COUNTER_SAT, DTM_COUNTER_SAT, BRK_COUNTER_SAT, STREAM_COUNTER_SAT,
  GS_COUNTER_SAT, CMT_COUNTER_SAT, SYNC_COUNTER_SAT, MEM_COUNTER_SAT, FABRIC_BUSY, TWY_COUNTER_SAT,
  MBX_SESSION_ENDED, MBX_COUNTER_SAT, FLOW_GLITCH, THERMAL_STEP, POLICY_HELD, POWER_STATE_CHANGED,
  PWR_COUNTER_SAT, SEC_LOG_CHECKPOINT, SEC_PITCH_ASSIGNED, SEC_PITCH_RELEASED, SEC_COUNTER_SAT,
  REL_COUNTER_SAT, START_DONE, STU_COUNTER_SAT]

/-- The codes of severity 1. -/
def noticeCodes : List Nat := [
  POISON_CONSUMED, LADDER_SITE_DOWN, LADDER_FLOOR, DATUM_LOSS, MARGIN_DENIED, STASH_NOT_KEPT,
  STREAM_FORCED_ABORT, UPD_NONFINITE, COMMIT_RESOLVED, GATHER_INDEX_RANGE, HAND_SET, MEM_PAGE_RETIRED,
  MEM_RETIRE_FULL, HBM_CHANNEL_RETRAIN, MEM_REFORM_DONE, TG_MISMATCH, LINK_RETRAIN, PORT_RESTORED, MBX_BUSY,
  MBX_QUEUE_FULL, MBX_AUTH_FAIL, HOST_LINK_UP, ROCE_ACCESS_REFUSED, COOLANT_RESUMED, THERMAL_RETURN,
  MODULE_LIMIT, THROTTLE_PEER, REPEAT_BROKEN, LANTERN_RESTART, SEC_LOG_WRAPPED, SEC_OWNER_CHANGED,
  SEC_DEBUG_UNLOCKED, RESIDUE_MISMATCH, DUP_MISMATCH, CROSSING_PARITY, UNIT_RETURNED, UNIT_STATE_SKEW,
  START_HELD, BIVOUAC_LEFT, HANDOFF_DONE, FLOOR_RAISED]

/-- The codes of severity 2. -/
def degradedCodes : List Nat := [
  STREAM_CAMP_FENCED, HBM_PIN_MARKED, HBM_CHANNEL_DEAD, MEM_REFORM_BEGIN, MEM_PAGE_WITHDRAWN,
  SHF_BANK_FENCED, LINK_NARROWED, PORT_DOWN, HOST_LINK_DOWN, THERMAL_TRIP, DZISIA_RESTART, SENSOR_FAULT,
  SEC_PITCH_FORCED, FENCE_DONE, CAMP_MOVED, HEARTBEAT_MISSED, SELFTEST_FAIL, DIGEST_MISMATCH, HANDOFF_FAILED]

/-- The codes of severity 4. -/
def stopCodes : List Nat := [
  COOLANT_STOP]

/-- The severity of a code (R10): 0 Info, 1 Notice, 2 Degraded, 3 Fault, 4 Stop. THERMAL_TRIP reads 2 here, the value for
an engine; the package trip, which is 4, gives its own. -/
def severity (code : Nat) : Nat :=
  if code ∈ infoCodes then 0
  else if code ∈ noticeCodes then 1
  else if code ∈ degradedCodes then 2
  else if code ∈ stopCodes then 4
  else 3

end Sys2Proof.Machine.Code
end

