-- ==== Sys2Proof/Syntax.lean ====
section
/-! DEFINITION. The commands and happenings of the PL-480 as a block: one constructor of `Instr` per row of the
spec's table, over operand types of the model's own. -/
namespace Sys2Proof

/-- How a frame reaches a host port (R365, R366): as an untagged frame of one whole IPv6 packet, or as one that the port discards. -/
inductive FrameForm where
  | plain
  | vlan
  | badCheck
  | fragment
  | ipv4
  deriving DecidableEq, Repr

/-- A DZMP request as it arrives at a host port (R369-R372): the port, its frame, the source address and UDP port, the UDP destination port
and payload length, the header's low 64 bits and its other fields, the length LEN, and whether the authentication tag and the body's form
are good (the body is given as it is once deciphered, log 7). -/
structure Req where
  port : HePort
  frame : FrameForm
  source : BitVec 128
  udp : BitVec 16
  dport : BitVec 16
  bytes : Nat
  head : BitVec 64
  session : BitVec 32
  ctr : BitVec 64
  seq : BitVec 32
  tod : BitVec 64
  len : Nat
  tagOk : Bool
  bodyOk : Bool
  deriving DecidableEq, Repr

/-- The body of an OPEN request (R373); `sigOk` tells whether SIG verifies under the key that CRED names. -/
structure OpenBody where
  role : Nat
  pitch : Nat
  cred : Nat
  hostKx : Nat
  nonce : Nat
  initSeq : BitVec 32
  sigOk : Bool
  deriving DecidableEq, Repr

/-- What the memory gives back for one codeword or line: the symbol positions that the decoder finds in error (for a Shelf line, one
position per wrong bit), and, when what it returns is not what was stored, the bits that it turns (R311). -/
structure ReadErr where
  positions : List Nat
  escaped : Option (BitVec 512)
  deriving DecidableEq, Repr

/-- A codeword or line without an error. -/
def ReadErr.clean : ReadErr := { positions := [], escaped := none }

/-- A mailbox command with its request body (R383), OPEN aside. -/
inductive Cmd where
  | close
  | ping (body : Bytes)
  | unlisted (opcode : Nat)
  | memRead (addr len : Nat) (lines : List (Option ReadErr))
  | memWrite (addr : Nat) (data : Bytes)
  | winOpen (addr len access peer : Nat)
  | winClose (rkey : Nat)
  | jobStart (addr : Nat)
  | jobSeed (seed nonce : Nat)
  | jobEnd (force : Bool)
  | jobStatus
  | streamStart (camp : Camp) (slot : Slot) (record : Nat)
  | streamResume (camp : Camp) (slot : Slot) (skip : Bool)
  | streamAbort (camp : Camp) (slot : Slot)
  | streamStatus (camp : Camp) (slot : Slot)
  | stashFree (mbatch : Option Nat)
  | tallyRead (camp : Camp) (first count : Nat)
  | tallySet (camp : Camp) (tally : Fin 1024) (count limit : Option (BitVec 32))
  | guySet (guy : Guyline) (camp : Option Camp)
  | fence (loc : BitVec 32)
  | unfence (loc : BitVec 32)
  | unitState (loc : BitVec 32)
  | commitStatus
  | commitSettle (step attempt : Nat) (commit : Bool)
  | regRead (addrs : List Nat)
  | regWrite (pairs : List (Nat × Nat))
  | eventRead (index : BitVec 64)
  | telemRead (selector argument : Nat)
  | portCmd (port : Fin 38) (action : Fin 3)
  | powerState (target : Nat)
  | hbmTest (enter : Bool) (settings : List (PseudoCh × Nat × Nat × Nat × Nat))
  | logRead (seq : BitVec 64)
  | logCheckpoint
  | attest (nonce : Nat)
  | fwStage (slot : Fin 2) (offset : Nat) (data : Bytes)
  | fwVerify (slot : Fin 2) (readable : Bool)
  | fwActivate (slot : Fin 2) (raise : Bool)
  | fwStatus
  deriving DecidableEq, Repr

/-- Whose register write a row reports: the mailbox session, and the time of day that its request supplied. -/
structure Actor where
  session : Nat
  tod : Nat
  deriving DecidableEq, Repr

/-- What a line access at a controller asks (R315, R329): a read, or a write of the bytes that `mask` names. -/
inductive LineOp where
  | read
  | write (mask : BitVec 64) (data : BitVec 512)
  deriving DecidableEq, Repr

/-- For whom a line is accessed (R315): nobody that the model follows, a descriptor in flight, or a Peg core's load or store. -/
inductive Requester where
  | other
  | descriptor (k : SlotKey) (chain : Bool) (n : Fin 32)
  | load (core : PegCore)
  | store (core : PegCore)
  deriving DecidableEq, Repr

/-- A Tideway packet (R344): its header's fields, the virtual lane it travels on, and its payload in clear. -/
structure Packet where
  kind : Nat
  subtype : Nat
  pitch : Nat
  job : Nat
  src : Nat
  dst : Nat
  addr : Nat
  seqn : Nat
  tag : Nat
  status : Nat
  etype : Nat
  hops : Nat
  iv : Nat
  vl : Nat
  body : Bytes
  deriving DecidableEq, Repr

/-- What an engine reports of the cycles that a happening took (R120, R121, R134, R140, R161, R406): advances, those of them in Datum
passes, frozen cycles in all and by cause, stalls of the Runnel path, cycles of held work, whether the held count had been still before,
the lane slots that were dry (lane, cycles), and whether the array stands frozen by a feed or a requantisation as the happening ends. -/
structure Cycles where
  adv : Nat
  datum : Nat
  total : Nat
  feedA : Nat
  feedB : Nat
  req : Nat
  drain : Nat
  rnl : Nat
  rnlStall : Nat
  held : Nat
  policyNew : Bool
  lanes : List (Nat × Nat)
  frozen : Bool
  deriving DecidableEq, Repr

/-- A report of no cycles. -/
def Cycles.none : Cycles :=
  { adv := 0, datum := 0, total := 0, feedA := 0, feedB := 0, req := 0, drain := 0, rnl := 0, rnlStall := 0, held := 0, policyNew := false
    lanes := [], frozen := false }

/-- How the checks of a block end (R458-R461): passed; failed against a lane, at a cell, with the sub-cause and tile of R488; failed
against the engine, as a residue or as a duplicated part; or a cell's partial of the block's element `elem` in tile or chunk `index` came
out wrong by `err`, and its residue decides. `recent` tells whether the unit's strike before this one lies in the window of R462. -/
inductive BlockCheck where
  | pass
  | lane (lane cell : Fin 256) (sub index : Nat) (recent : Bool)
  | engine (dup : Bool) (sub index : Nat) (recent : Bool)
  | upset (lane cell : Fin 256) (elem index : Nat) (err : Int) (recent : Bool)
  deriving DecidableEq, Repr

/-- How often the two output converters disagreed over an element (R461). -/
inductive ConvCheck where
  | agree
  | once
  | twice (recent : Bool)
  deriving DecidableEq, Repr

/-- What stalls a feed (R123, R134): a lane slot, a column slot, or the Runnel path's weights. -/
inductive StallSlot where
  | lane (l : Fin 256)
  | column
  | runnel
  deriving DecidableEq, Repr

/-- What the self-test of an engine gives (R468): a pass, failures in some lanes, or failure as a whole. -/
inductive TestResult where
  | pass
  | lanes (l : List (Fin 256))
  | fail
  deriving DecidableEq, Repr

/-- A self-test that ends (R468, R473): of one engine, or of a camp's island and its eight engines in order. -/
inductive SelfTest where
  | engine (e : Engine) (r : TestResult)
  | camp (c : Camp) (island : Bool) (r : List TestResult)
  deriving DecidableEq, Repr

/-- What training and self-test at start find (R494): pseudo-channels that fail, pins found bad, Shelf banks that fail their march test,
engines that do not pass, camps whose island fails, the lanes good of each enabled Tideway port, and of the two host ports. -/
structure Training where
  dead : List PseudoCh
  pins : List (PseudoCh × Fin 36)
  banks : List (Die × Fin 1024)
  engines : List (Engine × TestResult)
  islands : List Camp
  ports : List (TwPort × BitVec 8)
  he0 : BitVec 4
  he1 : BitVec 4
  deriving DecidableEq, Repr

/-- What a neighbour discovery or router message brings (R366, RFC 4861, RFC 4862): a solicitation of an address, an advertisement of a
neighbour's link-layer address, or a router advertisement of a prefix for address configuration. -/
inductive NdMessage where
  | solicit (source target : BitVec 128)
  | advertise (target : BitVec 128) (mac : BitVec 48)
  | router (pfx : BitVec 64)
  deriving DecidableEq, Repr

/-- An RDMA packet at a host port (R386): where it came in and from, its queue pair, its rkey and address, whether it carries a
congestion-experienced mark. -/
structure Rdma where
  port : HePort
  frame : FrameForm
  source : BitVec 128
  qp : Nat
  rkey : Nat
  addr : Nat
  congested : Bool
  deriving DecidableEq, Repr

/-- A crossing entry that fails parity (R30, R463): the engine or camp at the sending side (neither for another unit), how often the entry was
refused before, whether the unit's strike before this one lies in the window of R462, the descriptor whose request it is. -/
structure Crossing where
  engine : Option Engine
  camp : Option Camp
  refused : Fin 4
  recent : Bool
  entry : Option (SlotKey × Bool × Fin 32)
  deriving DecidableEq, Repr

/-- An agent's activity in one governor window (R395, R398, R399): the counts of each class of activity, those of the Runnel path, and the
ramp-class cycles of the engines that worked for it, each counted by the lane groups that it had enabled. -/
structure Activity where
  counts : List Nat
  runnel : Nat
  ramp : Nat
  deriving DecidableEq, Repr

/-- An engine's own cycles in one governor window (R397, R398): the position of the first in its run of 256, how many there were, and
which of them, counted from the first, were ramp-class or lead cycles. -/
structure EngineRun where
  first : Fin 256
  cycles : Nat
  special : List Nat
  deriving DecidableEq, Repr

/-- The requests that a fence's handshake empties out of the crossings of the unit (R32, R470), each as the flight that made it: slot,
whether in a chain list, entry. -/
abbrev Caught := List (SlotKey × Bool × Fin 32)

/-- The commands and happenings of the block, one constructor per row of the spec's table, each performed whole by one
step. The operands are the model's own: the table gives none. A default stands for what most happenings of the row leave out. -/
inductive Instr where
  /-- OPEN (R373). A signed OPEN request opens a session for a role and pitch and derives its keys. -/
  | openSession (r : Req) (body : OpenBody)
  /-- CLOSE (R375). A CLOSE request ends its session and closes the session's windows. -/
  | close (r : Req)
  /-- PING (R383). A PING request is answered with its own body. -/
  | ping (r : Req) (body : Bytes)
  /-- UNLISTED_OPCODE_REQUEST (R383). A request with an unlisted opcode is answered with MBX_OPCODE_INVALID. -/
  | unlistedOpcodeRequest (r : Req) (opcode : Nat)
  /-- MEM_READ (R385). MEM_READ performs one read through the session pitch's translation and ownership. -/
  | memRead (r : Req) (addr len : Nat) (lines : List (Option ReadErr) := [])
  /-- MEM_WRITE (R385). MEM_WRITE performs one write through the session pitch's translation and ownership. -/
  | memWrite (r : Req) (addr : Nat) (data : Bytes)
  /-- WIN_OPEN (R386). WIN_OPEN opens a RoCEv2 window with its own queue pair and rkey. -/
  | winOpen (r : Req) (addr len access peer : Nat)
  /-- WIN_CLOSE (R386). WIN_CLOSE closes a RoCEv2 window. -/
  | winClose (r : Req) (rkey : Nat)
  /-- JOB_START (R387). JOB_START reads the job parameter block, configures the pitch and places the Groundsheet. -/
  | jobStart (r : Req) (addr : Nat)
  /-- JOB_SEED (R443). JOB_SEED installs ROT_SEED and derives the pitch's fabric and Spindrift keys. -/
  | jobSeed (r : Req) (seed nonce : Nat)
  /-- JOB_END (R387). JOB_END ends the pitch's job, with a forced abort of its slots when FORCE is 1. -/
  | jobEnd (r : Req) (force : Bool)
  /-- JOB_STATUS (R383). JOB_STATUS returns the job number, the commit step and the slot states. -/
  | jobStatus (r : Req)
  /-- STREAM_START (R388). STREAM_START submits a start record to a slot's queue. -/
  | streamStart (r : Req) (camp : Camp) (slot : Slot) (record : Nat)
  /-- STREAM_RESUME (R173). STREAM_RESUME takes a HALTED slot on by RESUME_RETRY or RESUME_SKIP. -/
  | streamResume (r : Req) (camp : Camp) (slot : Slot) (skip : Bool)
  /-- STREAM_ABORT (R388). STREAM_ABORT aborts a halted slot, or applies the forced abort to a slot that is
  running, blocked or halting. -/
  | streamAbort (r : Req) (camp : Camp) (slot : Slot)
  /-- STREAM_STATUS (R383). STREAM_STATUS returns a slot's status, position and halt registers. -/
  | streamStatus (r : Req) (camp : Camp) (slot : Slot)
  /-- STASH_FREE (R182). STASH_FREE frees every Stash entry of a micro-batch or of the whole job. -/
  | stashFree (r : Req) (mbatch : Option Nat)
  /-- TALLY_READ (R383). TALLY_READ returns a run of tally words. -/
  | tallyRead (r : Req) (camp : Camp) (first count : Nat)
  /-- TALLY_SET (R389). TALLY_SET hand-sets a tally's COUNT or LIMIT, last in its vector cycle. -/
  | tallySet (r : Req) (camp : Camp) (tally : Fin 1024) (count limit : Option (BitVec 32))
  /-- GUY_SET (R389). GUY_SET hand-sets a camp's guyline latch, or every latch, for round GEN. -/
  | guySet (r : Req) (guy : Guyline) (camp : Option Camp)
  /-- FENCE (R390). FENCE asks firmware to fence the named unit by the handshake. -/
  | fence (r : Req) (loc : BitVec 32)
  /-- UNFENCE (R473). UNFENCE sets a unit's latch to RETURNING and starts its self-test. -/
  | unfence (r : Req) (loc : BitVec 32)
  /-- UNIT_STATE (R472). UNIT_STATE reports a unit's latch state and firmware record. -/
  | unitState (r : Req) (loc : BitVec 32)
  /-- COMMIT_STATUS (R383). COMMIT_STATUS returns CMT_STATUS. -/
  | commitStatus (r : Req)
  /-- COMMIT_SETTLE (R238). COMMIT_SETTLE lets the host settle an undecided attempt as a decision with CAUSE 6. -/
  | commitSettle (r : Req) (step attempt : Nat) (commit : Bool)
  /-- REG_READ (R384). REG_READ returns the control-space registers that the session may see. -/
  | regRead (r : Req) (addrs : List Nat)
  /-- REG_WRITE (R384). REG_WRITE writes 1 to 32 register fields that the session's role may write. -/
  | regWrite (r : Req) (pairs : List (Nat × Nat))
  /-- REGISTER_WRITE (R36). A write to a control-space register that has no row of its own takes effect or is
  refused. -/
  | registerWrite (a : Actor) (addr value : Nat)
  /-- EVENT_READ (R391). EVENT_READ returns event records from a ring index onward. -/
  | eventRead (r : Req) (index : BitVec 64)
  /-- TELEM_READ (R425). TELEM_READ returns telemetry for a selector. -/
  | telemRead (r : Req) (selector argument : Nat)
  /-- PORT_CMD (R343). PORT_CMD retrains, holds down or releases a Tideway or host port. -/
  | portCmd (r : Req) (port : Fin 38) (action : Fin 3)
  /-- POWER_STATE (R418). POWER_STATE moves the module to ACTIVE, DOZE or STANDBY. -/
  | powerState (r : Req) (target : Nat)
  /-- HBM_TEST (R327). HBM_TEST enters or leaves the HBM test state and sets the pattern settings. -/
  | hbmTest (r : Req) (enter : Bool) (settings : List (PseudoCh × Nat × Nat × Nat × Nat))
  /-- LOG_READ (R449). LOG_READ returns up to 15 logbook entries, redacted where the session may not read the
  body. -/
  | logRead (r : Req) (seq : BitVec 64)
  /-- LOG_CHECKPOINT (R448). LOG_CHECKPOINT makes the security block write a signed checkpoint entry. -/
  | logCheckpoint (r : Req)
  /-- ATTEST (R454). ATTEST returns a signed attestation report and the identity certificate. -/
  | attest (r : Req) (nonce : Nat)
  /-- FW_STAGE (R502). FW_STAGE writes image data into a slot and marks the slot staged. -/
  | fwStage (r : Req) (slot : Fin 2) (offset : Nat) (data : Bytes)
  /-- FW_VERIFY (R502). FW_VERIFY checks the image in a slot by R491. -/
  | fwVerify (r : Req) (slot : Fin 2) (readable : Bool)
  /-- FW_ACTIVATE (R504). FW_ACTIVATE starts a live hand-off in service, or leaves Bivouac mode from a verified
  slot. -/
  | fwActivate (r : Req) (slot : Fin 2) (raise : Bool)
  /-- FW_STATUS (R503). FW_STATUS returns the slot records and the rollback floor. -/
  | fwStatus (r : Req)
  /-- ASSIGN (R433). ACTION ASSIGN assigns a free pitch, draws its HBM key, zeroes its resources and builds its
  translation. -/
  | assign (a : Actor) (p : Fin 8)
  /-- APPLY (R434). ACTION APPLY applies a new layout to an assigned, unsealed pitch. -/
  | apply (a : Actor) (p : Fin 8)
  /-- SEAL (R433). ACTION SEAL makes an assigned pitch sealed. -/
  | seal (a : Actor) (p : Fin 8)
  /-- RELEASE (R435). ACTION RELEASE ends the pitch's jobs and sessions, destroys its keys and frees its
  resources. -/
  | release (a : Actor) (p : Fin 8)
  /-- FORCE_RELEASE (R433). ACTION FORCE_RELEASE burns UNSEALS and then releases a sealed pitch. -/
  | forceRelease (a : Actor) (p : Fin 8)
  /-- OWNER_TRANSFER (R431). SEC_OWNER_CTL.ACTION 1 transfers ownership to the key in SEC_OWNER_NEXT. -/
  | ownerTransfer (a : Actor)
  /-- DEBUG_UNLOCK (R440). Setting SEC_DEBUG_FLAGS.UNLOCK unlocks debug reading for one Steward credential. -/
  | debugUnlock (a : Actor)
  /-- DEBUG_LOCK (R441). Clearing SEC_DEBUG_FLAGS.UNLOCK ends a debug unlock. -/
  | debugLock (a : Actor)
  /-- SEC_TENANT_KEY_WRITE (R434). A write to an assigned pitch's tenant key ends every session of that pitch. -/
  | secTenantKeyWrite (a : Actor) (p : Fin 8) (key : BitVec 456)
  /-- SEC_FAB0_KEY_WRITE (R443). A write of pitch 0's fabric key installs it unless its digest was installed
  before. -/
  | secFab0KeyWrite (a : Actor) (key : BitVec 256)
  /-- SAT_BIT_CLEAR (R14). Writing 1 to a SAT bit clears the bit and its statistics counter. -/
  | satBitClear (a : Actor) (addr value : Nat)
  /-- GUY_CFG_WRITE (R290). A write of GUY_CFG_n sets the guyline's configuration and resets its state record. -/
  | guyCfgWrite (a : Actor) (guy : Guyline) (value : BitVec 32)
  /-- HBM_TG_GO (R327). Setting GO in HBM_TG_CFG starts a generator run while HBM is in test. -/
  | hbmTgGo (a : Actor) (n : PseudoCh) (pattern : Fin 4) (checkOnly : Bool)
  /-- LNT_WDOG_KICK (R423). A Dzisia pair's write of LNT_WDOG_KICK restarts its watchdog. -/
  | lntWdogKick (a : Actor) (pair : Fin 2)
  /-- HOST_LINK_DOWN (R368). A host port goes down and sessions continue on the other port. -/
  | hostLinkDown (port : HePort)
  /-- HOST_LINK_UP (R394). A host port comes up. -/
  | hostLinkUp (port : HePort) (lanes : Fin 16)
  /-- LLDP_TRANSMIT (R367). Each host port sends LLDP every 30 s. -/
  | lldpTransmit
  /-- LLDP_RECEIVE (R367). A received LLDP frame replaces the port's kept neighbour TLVs. -/
  | lldpReceive (port : HePort) (tlvs : Bytes) (frame : FrameForm := .plain)
  /-- ICMPV6_ECHO (R366). An ICMPv6 echo request is answered. -/
  | icmpv6Echo (port : HePort) (source : BitVec 128) (body : Bytes) (frame : FrameForm := .plain)
  /-- NEIGHBOUR_DISCOVERY (R366). Neighbour discovery and router advertisement messages update the port's
  addresses. -/
  | neighbourDiscovery (port : HePort) (m : NdMessage) (frame : FrameForm := .plain)
  /-- RDMA_WRITE (R386). An RDMA WRITE into an open window passes translation and ownership and is performed. -/
  | rdmaWrite (p : Rdma) (data : Bytes)
  /-- RDMA_READ (R386). An RDMA READ from an open window is served. -/
  | rdmaRead (p : Rdma) (len : Nat)
  /-- ROCE_UNSUPPORTED_OPERATION (R386). A SEND, atomic or unreliable-transport packet is refused with a
  remote-operation NAK. -/
  | roceUnsupportedOperation (p : Rdma)
  /-- SESSION_IDLE_TIMEOUT (R375). A session without an authenticated request for IDLE_S seconds ends. -/
  | sessionIdleTimeout (n : Nat)
  /-- LANTERN_CLAIM (R380). The Lantern claims a request unclaimed for 8 µs, or held by hand-off or restart, and
  answers it. -/
  | lanternClaim (r : Req) (opcode : Nat)
  /-- PL_SIG (R296). pl.sig adds an amount to a local or remote tally. -/
  | plSig (core : PegCore) (rs1 rs2 : BitVec 64)
  /-- PL_WAIT (R279). pl.wait joins the tally's wait queue and blocks until served. -/
  | plWait (core : PegCore) (rd : Fin 32) (rs1 rs2 : BitVec 64)
  /-- PL_TRYWAIT (R279). pl.trywait makes one attempt to subtract from a tally. -/
  | plTrywait (core : PegCore) (rd : Fin 32) (rs1 rs2 : BitVec 64)
  /-- PL_TAKE (R279). pl.take subtracts an amount from a tally at once. -/
  | plTake (core : PegCore) (rs1 rs2 : BitVec 64)
  /-- PL_TREAD (R272). pl.tread reads a tally's count. -/
  | plTread (core : PegCore) (rd : Fin 32) (rs1 : BitVec 64)
  /-- PL_BAR (R287). pl.bar arrives at a guyline and blocks until its round releases. -/
  | plBar (core : PegCore) (rd : Fin 32) (rs1 : BitVec 64)
  /-- PL_WFENCE (R274). pl.wfence blocks until the core's earlier stores and remote atomics toward a target are
  acknowledged. -/
  | plWfence (core : PegCore) (rd : Fin 32) (rs1 : BitVec 64)
  /-- PL_START (R275). pl.start submits a start record to a slot's queue. -/
  | plStart (core : PegCore) (rd : Fin 32) (rs1 rs2 : BitVec 64)
  /-- PL_SSTAT (R272). pl.sstat returns a slot's status and position. -/
  | plSstat (core : PegCore) (rd : Fin 32) (rs1 : BitVec 64)
  /-- PL_BF16 (R272). pl.bf16 converts an FP32 value to BF16 bits. -/
  | plBf16 (core : PegCore) (rd : Fin 32) (rs1 : BitVec 64)
  /-- PL_E2M1 (R272). pl.e2m1 converts a quotient to an E2M1 code. -/
  | plE2m1 (core : PegCore) (rd : Fin 32) (rs1 rs2 : BitVec 64)
  /-- PL_SPD (R272). pl.spd returns half of a Spindrift output under the tenant stream. -/
  | plSpd (core : PegCore) (rd : Fin 32) (high : Bool) (rs1 rs2 : BitVec 64)
  /-- XPEG_ILLEGAL_INSTRUCTION (R271). An unlisted encoding in the Xpeg opcodes raises an illegal-instruction
  exception. -/
  | xpegIllegalInstruction (core : PegCore) (word : BitVec 32)
  /-- PEG_BLOCK_TIMEOUT (R274). A blocked pl.wait, pl.bar or pl.wfence gives up after 2^WAIT_LOG2 vector cycles; xpegwait as the core
  last wrote it, and the vector cycles blocked. -/
  | pegBlockTimeout (core : PegCore) (waitLog : BitVec 5 := 30) (cycles : BitVec 32 := 0x40000000)
  /-- PEG_BLOCK_INTERRUPT (R274). A pending enabled interrupt ends a blocked Xpeg instruction. -/
  | pegBlockInterrupt (core : PegCore)
  /-- TALLY_LIMIT_STORE (R278). A 4-byte store to a tally's LIMIT takes effect or is refused. -/
  | tallyLimitStore (core : PegCore) (addr : BitVec 48) (value : BitVec 32)
  /-- STREAM_TAKE_RECORD (R167). An idle slot takes the oldest queued start record and starts fetching. -/
  | streamTakeRecord (k : SlotKey)
  /-- MATMUL (R251). A MATMUL issues: its checks run, its site record advances and its blocks are dealt to
  engines. -/
  | matmul (k : SlotKey)
  /-- QUANTISE (R257). A QUANTISE writes the tiles and coarse scale of a Q4T record from a plain source. -/
  | quantise (k : SlotKey)
  /-- CONVERT (R258). A CONVERT converts between Q4T, MXFP4 and plain formats. -/
  | convert (k : SlotKey)
  /-- VPROG (R259). A VPROG runs a built-in or tenant program on the vector engine. -/
  | vprog (k : SlotKey)
  /-- DMA_COPY (R262). A DMA_COPY copies rows between local or remote addresses. -/
  | dmaCopy (k : SlotKey)
  /-- DMA_REDUCE (R263). A DMA_REDUCE adds rows at their destination, point to point or as a reduce-scatter. -/
  | dmaReduce (k : SlotKey)
  /-- GATHER (R264). A GATHER gathers indexed rows, an all-gather or a broadcast. -/
  | gather (k : SlotKey)
  /-- SIGNAL (R265). A SIGNAL adds its amount to a tally once every earlier descriptor has completed. -/
  | signal (k : SlotKey)
  /-- WAIT (R265). A WAIT joins its tally's queue and blocks the slot until served. -/
  | wait (k : SlotKey)
  /-- TAKE (R265). A TAKE subtracts its amount from a tally at once. -/
  | take (k : SlotKey)
  /-- BARRIER (R266). A BARRIER arrives at a guyline and blocks the slot until its round releases. -/
  | barrier (k : SlotKey)
  /-- STASH_PUT (R178). A STASH_PUT writes its part of a block input into the Stash entry of its key. -/
  | stashPut (k : SlotKey)
  /-- STASH_GET (R182). A STASH_GET reads its part of an entry, or runs the recompute chain for a NOT_KEPT entry. -/
  | stashGet (k : SlotKey)
  /-- DIGEST (R465). A DIGEST writes a tree digest or an audit beacon. -/
  | digest (k : SlotKey)
  /-- COMMIT (R235). A COMMIT issues; when every camp has issued it the device votes. -/
  | commit (k : SlotKey)
  /-- FENCE_POINT (R270). A FENCE_POINT records the stream's resume point and acknowledges a pending camp fence. -/
  | fencePoint (k : SlotKey)
  /-- NOP (R244). A NOP issues and completes. -/
  | nop (k : SlotKey)
  /-- END (R171). END checks the touched tallies, signals the end tally and returns the slot to idle. -/
  | endStream (k : SlotKey)
  /-- DESCRIPTOR_COMPLETE (R168). A descriptor completes or faults, with its completion signal and site update. -/
  | descriptorComplete (k : SlotKey) (chain : Bool) (n : Fin 32)
  /-- DESC_WATCHDOG (R247). A non-engine descriptor's watchdog expires and the descriptor ends. -/
  | descWatchdog (k : SlotKey) (chain : Bool) (n : Fin 32)
  /-- STREAM_WAIT_TIMEOUT (R169). A slot blocked on one descriptor beyond its limit halts. -/
  | streamWaitTimeout (k : SlotKey)
  /-- FORCED_ABORT_COMPLETE (R175). A forced abort completes once every issued write and add is acknowledged. -/
  | forcedAbortComplete (k : SlotKey)
  /-- STASH_PUT_ACKNOWLEDGED (R182). A put's writes are acknowledged and gets blocked on it may proceed. -/
  | stashPutAcknowledged (k : SlotKey) (n : Fin 32)
  /-- CHAIN_LIST_DONE (R184). A chain list completes; the next runs or the get completes. -/
  | chainListDone (k : SlotKey)
  /-- GS_ADD_RETRY (R205). A held add descriptor retries its start each vector cycle until it runs. -/
  | gsAddRetry (k : SlotKey) (chain : Bool) (n : Fin 32)
  /-- PANEL_READY (R99). The feeder finishes quantising a panel and settles its own and pair rungs. -/
  | panelReady (e : Engine) (plot : Fin 17) (ofB : Bool) (p j : Nat) (keep : Bool) (cyc : Cycles)
  /-- AMAX_PREPASS_DONE (R89). An amax pre-pass completes and sets PRE_VALID. -/
  | amaxPrepassDone (e : Engine) (k : SlotKey) (chain : Bool) (n : Fin 32)
  /-- BLOCK_END (R112). A block's last accumulation ends, its checks run and its banks switch. -/
  | blockEnd (e : Engine) (plot : Fin 17) (check : BlockCheck) (cyc : Cycles)
  /-- DRAIN_BANK_DONE (R112). The drain finishes writing a bank, which is set to +0 and released. -/
  | drainBankDone (e : Engine) (conv : ConvCheck) (cyc : Cycles)
  /-- WRITE_ACKNOWLEDGED (R113). Every write of a descriptor is acknowledged and the engine posts its completion. -/
  | writeAcknowledged (k : SlotKey) (chain : Bool) (n : Fin 32)
  /-- ARRAY_PARK (R122). An array frozen for PARK_AFTER cycles ramps down and parks. -/
  | arrayPark (e : Engine)
  /-- ARRAY_UNPARK (R122). A parked array's freeze clears and it ramps up. -/
  | arrayUnpark (e : Engine)
  /-- RAMP_DOWN_DONE (R125). A ramp-down completes and the array is idle or parked. -/
  | rampDownDone (e : Engine)
  /-- FEED_STALL (R123). A slot or Runnel stream frozen for 65,536 cycles ends the busy descriptors. -/
  | feedStall (e : Engine) (stall : StallSlot) (cycles : BitVec 32) (recent : Bool) (cyc : Cycles := .none)
  /-- DRAIN_STALL (R123). A drain frozen for 65,536 cycles ends the busy descriptors. -/
  | drainStall (e : Engine) (cycles : BitVec 32) (recent : Bool) (cyc : Cycles := .none)
  /-- ENGINE_WATCHDOG (R123). A descriptor's watchdog expires on an engine and that descriptor ends. -/
  | engineWatchdog (e : Engine) (k : SlotKey) (chain : Bool) (n : Fin 32) (cycles : BitVec 32) (cyc : Cycles := .none)
  /-- MARGIN_OK (R126). The supply reports the Runnel margin reached and the Runnel path starts. -/
  | marginOk (e : Engine)
  /-- MARGIN_DENIED (R127). The margin is not granted within 4,096 cycles and the Runnel work runs on the array. -/
  | marginDenied (e : Engine)
  /-- MARGIN_RELEASE (R126). After 2,048 cycles with no Runnel descriptor queued the engine releases the margin. -/
  | marginRelease (e : Engine)
  /-- REMOTE_SIGNAL (R298). A remote SIGNAL arrives and is applied, parked or refused. -/
  | remoteSignal (pkt : Packet) (tagOk : Bool)
  /-- PARKED_SIGNAL_APPLY (R298). A parked signal is applied in the cycle SETTLED reaches its WM. -/
  | parkedSignalApply
  /-- SIGNAL_AHEAD (R300). A signal not applied within 200 µs is discarded with an error completion. -/
  | signalAhead (n : Nat)
  /-- GUYLINE_RELEASE (R288). The root finds the AND of a round's latches true and releases the round. -/
  | guylineRelease (guy : Guyline) (slack : BitVec 16)
  /-- FABRIC_ARRIVE (R292). The root device receives ARRIVE and releases the fabric round when all have arrived. -/
  | fabricArrive (pkt : Packet) (tagOk : Bool) (slack : BitVec 16)
  /-- FABRIC_RELEASE (R292). A device receives RELEASE for its round and releases its local round. -/
  | fabricRelease (pkt : Packet) (tagOk : Bool) (slack : BitVec 16)
  /-- FABRIC_ARRIVE_RESEND (R294). ARRIVE is resent every RESEND interval until RELEASE arrives. -/
  | fabricArriveResend (guy : Guyline)
  /-- LONG_WAITER (R302). An agent blocked 2,048 cycles becomes a long waiter and its share is lent. -/
  | longWaiter (peg : Bool) (n : SlotKey)
  /-- VOTE_READY (R236). The leader receives VOTE_READY and decides COMMIT when all have arrived. -/
  | voteReady (pkt : Packet) (tagOk : Bool)
  /-- VOTE_ABORT (R236). The leader receives VOTE_ABORT and decides ABORT. -/
  | voteAbort (pkt : Packet) (tagOk : Bool)
  /-- DECIDE_COMMIT (R236). A participant applies COMMIT, flips BANK and acknowledges. -/
  | decideCommit (pkt : Packet) (tagOk : Bool)
  /-- DECIDE_ABORT (R236). A participant applies ABORT and acknowledges. -/
  | decideAbort (pkt : Packet) (tagOk : Bool)
  /-- DECIDE_ACK (R236). The leader receives an acknowledgement and may apply COMMIT. -/
  | decideAck (pkt : Packet) (tagOk : Bool)
  /-- QUERY (R237). A participant answers a QUERY with a STATE_REPLY, voting ABORT if it has not voted. -/
  | query (pkt : Packet) (tagOk : Bool)
  /-- STATE_REPLY (R237). A querying participant settles its state from a STATE_REPLY. -/
  | stateReply (pkt : Packet) (tagOk : Bool)
  /-- VOTE_TIMEOUT (R236). VOTE_TO passes without every vote and the leader decides ABORT. -/
  | voteTimeout (p : Pitch)
  /-- DECIDE_RESEND (R236). The leader resends its decision every DECIDE_TO until acknowledged. -/
  | decideResend (p : Pitch)
  /-- DECISION_WAIT_TIMEOUT (R237). A READY participant hearing no decision within DECIDE_TO sends QUERY. -/
  | decisionWaitTimeout (p : Pitch)
  /-- COLL_READY (R358). A member receives COLL_READY, compares it and may begin pulling. -/
  | collReady (pkt : Packet) (tagOk : Bool)
  /-- COLL_DONE (R360). A member receives COLL_DONE and may complete its collective. -/
  | collDone (pkt : Packet) (tagOk : Bool)
  /-- COLL_ABORT (R358). A member receiving COLL_ABORT stops and faults with COLL_ABORTED. -/
  | collAbort (pkt : Packet) (tagOk : Bool)
  /-- COLL_PULL (R359). A contributor serves a COLL_PULL span to the lead. -/
  | collPull (pkt : Packet) (tagOk : Bool)
  /-- REMOTE_READ (R346). A READ packet is performed at the target and answered. -/
  | remoteRead (pkt : Packet) (tagOk : Bool)
  /-- REMOTE_WRITE (R346). A WRITE packet is performed at the target and completed. -/
  | remoteWrite (pkt : Packet) (tagOk : Bool)
  /-- REMOTE_ADD (R317). An ADD packet is added at the target's adder. -/
  | remoteAdd (pkt : Packet) (tagOk : Bool)
  /-- REMOTE_ADD_REDUCE (R317). An ADD_REDUCE is added and the written line returned. -/
  | remoteAddReduce (pkt : Packet) (tagOk : Bool)
  /-- REMOTE_AMO (R345). An AMO packet performs its 64-bit atomic operation. -/
  | remoteAmo (pkt : Packet) (tagOk : Bool)
  /-- REMOTE_COMPLETION (R352). A COMPLETION arrives and ends its request at the originator. -/
  | remoteCompletion (pkt : Packet) (tagOk : Bool)
  /-- PACKET_FORWARD (R347). A router forwards a packet by its route table. -/
  | packetForward (pkt : Packet) (tag : BitVec 128 := 0)
  /-- FABRIC_REQUEST_TIMEOUT (R352). A request without its COMPLETION within 500 µs ends with FABRIC_TIMEOUT. -/
  | fabricRequestTimeout (tag : BitVec 16)
  /-- PAIR_ENTRY_IDLE (R350). A pair tracker entry idle for 100 µs is freed. -/
  | pairEntryIdle (pitch : Pitch) (src : DevId)
  /-- FABRIC_BUSY_RESEND (R350). A packet refused with FABRIC_BUSY is resent after 1 µs. -/
  | fabricBusyResend (tag : BitVec 16)
  /-- DATA_FLIT_RECEIVE (R341). A data flit is accepted or discarded by its CRC and SEQ. -/
  | dataFlitReceive (port : TwPort) (crcOk : Bool) (seq ack : Fin 4096) (cls : Fin 4) (vl : Fin 2) (cred : BitVec 32) (fecUnc : Nat)
  /-- NAK_RECEIVE (R341). A received NAK starts a replay. -/
  | nakReceive (port : TwPort) (crcOk : Bool) (ack : Fin 4096) (cred : BitVec 32)
  /-- IDLE_FLIT_TIMER (R340). A receiver that sent nothing for 256 port cycles sends an idle flit. -/
  | idleFlitTimer (port : TwPort)
  /-- REPLAY_TIMEOUT (R341). The oldest unacknowledged flit waits 3,200 cycles and the sender replays. -/
  | replayTimeout (port : TwPort)
  /-- LINK_RETRAIN_DONE (R342). Training ends and the port returns at its widest good width or goes down. -/
  | linkRetrainDone (port : TwPort) (good : BitVec 8)
  /-- LINK_RETRAIN_TIMEOUT (R342). A retrain not ended within 320,000 port cycles fails on its unfinished lanes. -/
  | linkRetrainTimeout (port : TwPort) (finished good : BitVec 8)
  /-- DOWN_PORT_RETRY (R343). Firmware retrains a down port every RETRY_S seconds. -/
  | downPortRetry (port : TwPort)
  /-- HBM_ACCESS (R315). An access reaches a pseudo-channel controller and is checked, decoded and performed. -/
  | hbmAccess (pitch : Pitch) (line : Nat) (op : LineOp) (err : ReadErr) (who : Requester := .other)
  /-- MEMORY_ADD (R316). An add request is performed by the adder next to its line. -/
  | memoryAdd (pitch : Pitch) (line : Nat) (type : Fin 5) (mask : BitVec 32) (addend : BitVec 512) (reduce : Bool)
    (err : ReadErr := .clean) (who : Requester := .other)
  /-- SHELF_ACCESS (R329). An access reaches a Shelf bank and is checked and performed. -/
  | shelfAccess (pitch : Pitch) (line : Nat) (op : LineOp) (err : ReadErr) (who : Requester := .other)
  /-- HBM_REFRESH (R307). A stack's refresh or refresh-management request is served. -/
  | hbmRefresh (stack : Fin 8)
  /-- HBM_SCRUB (R319). The scrubber reads and corrects the next codeword of its period. -/
  | hbmScrub (n : PseudoCh) (err : ReadErr)
  /-- SHELF_SCRUB (R330). The Shelf scrubber reads the next line of its period. -/
  | shelfScrub (die : Die) (err : ReadErr)
  /-- HBM_ACCESS_TIMEOUT (R322). An access not completed in 2^16 controller cycles fails and the pseudo-channel
  retrains. -/
  | hbmAccessTimeout (pitch : Pitch) (line : Nat) (who : Requester := .other)
  /-- HBM_RETRAIN_DONE (R322). A pseudo-channel retrain succeeds and held accesses continue. -/
  | hbmRetrainDone (n : PseudoCh)
  /-- HBM_RETRAIN_FAIL (R322). A retrain not done within 100 µs fails; a third failure makes the channel dead. -/
  | hbmRetrainFail (n : PseudoCh)
  /-- REFORM_ZEROING_DONE (R324). Zeroing of the live codewords ends and the re-form completes. -/
  | reformZeroingDone
  /-- SHELF_REFORM_DONE (R331). A Shelf die's re-form ends after zeroing. -/
  | shelfReformDone (die : Die)
  /-- PAGE_ZEROING_DONE (R314). A page joining a pitch is fully zeroed and may be mapped. -/
  | pageZeroingDone (p : Pitch)
  /-- SLAB_ZEROING_DONE (R330). A slab joining a pitch is fully zeroed and may be mapped. -/
  | slabZeroingDone (p : Pitch) (die : Die)
  /-- PAGE_MOVE_DONE (R323). The mover finishes copying a page, redirects and releases held accesses. -/
  | pageMoveDone
  /-- PAGE_MOVE_TIMEOUT (R323). A move not complete within 100 µs is abandoned. -/
  | pageMoveTimeout
  /-- RETIRE_RETRY (R323). An abandoned retirement is tried again after 1 ms. -/
  | retireRetry (page : Nat)
  /-- TG_RUN_DONE (R326). A traffic generator run ends. -/
  | tgRunDone (n : PseudoCh) (words : List Nat) (turned : List (BitVec 576))
  /-- FLOW_OK_FALL (R411). FLOW_OK falls and the deglitch starts. -/
  | flowOkFall
  /-- FLOW_OK_RISE (R412). FLOW_OK rises, ending a glitch or starting the resume hold. -/
  | flowOkRise
  /-- COOLANT_STOP (R411). FLOW_OK low for 100 µs drops every lane enable and puts HBM in self-refresh. -/
  | coolantStop
  /-- COOLANT_ISLAND_GATE (R411). The Lantern drops the engine and Peg-and-vector island clock enables. -/
  | coolantIslandGate
  /-- COOLANT_RESUMED (R412). With flow held and diodes cool the Lantern restores the islands and lanes. -/
  | coolantResumed
  /-- ENGINE_THERMAL_TRIP (R413). An engine diode above 110 °C gates its island and the engine is hard-fenced. -/
  | engineThermalTrip (e : Engine) (diode : Fin 4) (value : BitVec 32) (recent : Nat) (emptied : Caught := [])
  /-- THERMAL_RETURN (R413). A tripped engine cool for 10 s is returned to service. -/
  | thermalReturn (e : Engine)
  /-- PACKAGE_THERMAL_TRIP (R414). A non-engine diode above 115 °C trips the package by the coolant-stop path. -/
  | packageThermalTrip (point : Fin 2048) (value : BitVec 32)
  /-- THERMAL_STEP_DOWN (R408). An engine at or above STEP_HI moves one clock step slower. -/
  | thermalStepDown (e : Engine) (held : BitVec 64) (policyNew : Bool)
  /-- THERMAL_STEP_UP (R408). An engine below STEP_LO for 100 ms moves one step faster. -/
  | thermalStepUp (e : Engine)
  /-- VOLTAGE_ADJUST (R409). Every 1 ms the Lantern sets each engine island's supply. -/
  | voltageAdjust (e : Engine) (drop : Fin 11) (held : BitVec 64) (policyNew : Bool)
  /-- FAST_PATH_LIMIT (R410). Input above 2,800 W for 10 µs forces at least 128 bubbles per run. -/
  | fastPathLimit (mw : BitVec 32)
  /-- FAST_PATH_RELEASE (R410). Input below 2,700 W for 1 ms ends the fast-path bubbles. -/
  | fastPathRelease
  /-- MODULE_LIMIT_SAMPLE (R410). Every 100 µs the slow loop updates the excess count and SCALE. -/
  | moduleLimitSample (mw mv : BitVec 32)
  /-- ENERGY_SAMPLE (R415). Every 100 µs the energy accumulator adds the sample and the Lantern divides it among
  pitches. -/
  | energySample (watts : BitVec 16) (camps use : List Nat)
  /-- SENSOR_SAMPLE (R421). A sensor point is sampled and filtered. -/
  | sensorSample (point : Fin 2048) (reading : Option (BitVec 32))
  /-- COOLANT_MONITOR_READ (R518). Every 10 ms the Lantern reads the tray coolant monitors over I²C. -/
  | coolantMonitorRead (readings : List (Option (BitVec 32)))
  /-- GOVERNOR_WINDOW (R396). At each 256-cycle window the governor forms estimates, allowances and bubble counts. -/
  | governorWindow (c : Camp) (acts : List Activity) (idle : BitVec 8) (runs : List EngineRun) (policyNew : Bool)
  /-- PITCH_REBALANCE (R402). Every 16 windows the lead camp rebalances camp budgets. -/
  | pitchRebalance (p : Pitch)
  /-- IDLE_ENTRY (R418). With all agents idle for LNT_IDLE cycles the module enters IDLE. -/
  | idleEntry
  /-- IDLE_WAKE (R418). A start record, interrupt, remote signal or camp command wakes the module from IDLE. -/
  | idleWake
  /-- DZISIA_RESTART (R423). A missed kick or lockstep disagreement restarts a Dzisia pair. -/
  | dzisiaRestart (pair : Fin 2) (lockstep : Bool) (recent : Nat)
  /-- DZISIA_RESTART_RETRY (R423). After repeated restarts with no verified other image the Lantern retries every
  2^30 cycles. -/
  | dzisiaRestartRetry (pair : Fin 2)
  /-- LANTERN_RESTART (R424). A missed self-watchdog restarts the Lantern from ROM. -/
  | lanternRestart (digestOk : Bool)
  /-- SECURITY_BLOCK_POWER_UP (R26). In STANDBY the security block and flash controller finish powering up for
  work. -/
  | securityBlockPowerUp
  /-- SECURITY_BLOCK_POWER_DOWN (R26). The security block and flash controller are powered off when their work
  ends. -/
  | securityBlockPowerDown
  /-- PWR_EN_FALL (R418). PWR_EN falls and the module goes to STANDBY, cutting short any start. -/
  | pwrEnFall
  /-- PWR_EN_RISE (R418). PWR_EN rises and the module leaves STANDBY by a start. -/
  | pwrEnRise
  /-- PRESENT_N_RISE (R514). PRESENT_N rising while powered opens the hot-swap controller. -/
  | presentNRise
  /-- INPUT_UNDERVOLTAGE (R512). Input below 47 V for 100 µs opens the hot-swap controller. -/
  | inputUndervoltage (mv : BitVec 32)
  /-- INPUT_OVERVOLTAGE (R512). Input above 60 V for 100 µs opens the hot-swap controller. -/
  | inputOvervoltage (mv : BitVec 32)
  /-- INPUT_OVERCURRENT (R513). Input current beyond its limits opens the hot-swap controller. -/
  | inputOvercurrent
  /-- INPUT_RESTORED (R513). Input back in range for 1 ms with the tray lines high begins a start. -/
  | inputRestored
  /-- LANTERN_POWER_UP (R492). The Lantern powers up, reads the boot record and begins phase 1. -/
  | lanternPowerUp (pwrEn flowOk recordOk : Bool)
  /-- START_HOLD_PASSED (R492). PWR_EN and FLOW_OK high for 100 µs end phase 1 and the rails are enabled. -/
  | startHoldPassed (slotId : BitVec 6)
  /-- RAILS_DONE (R492). The last rail reaches its range and the security phase starts. -/
  | railsDone
  /-- RAIL_TIMEOUT (R492). A rail not in range in time fails the start with reason RAILS. -/
  | railTimeout
  /-- SECURITY_PHASE_DONE (R492). The security block's tests, START entry and keys complete and the boot ROM runs. -/
  | securityPhaseDone (outcome : Fin 4)
  /-- BOOT_ROM_DONE (R493). The boot ROM chooses a valid slot and stage 1 runs. -/
  | bootRomDone (lockstep readableA readableB : Bool)
  /-- STAGE1_DONE (R492). Stage 1 loads and measures the runtime, Lantern firmware and Steward list. -/
  | stage1Done (outcome : Fin 3)
  /-- TRAINING_DONE (R494). Training and self-test finish, the mailbox opens and FAILS is cleared. -/
  | trainingDone (t : Training)
  /-- START_TIMEOUT (R492). An attempt not ended within 60 s fails with reason TIMEOUT. -/
  | startTimeout
  /-- START_RETRY (R498). After 1 s a new attempt begins when FAILS is below 3. -/
  | startRetry
  /-- HANDOFF_SWITCH (R504). With every executing command replied, the state record is written and both pairs
  switch banks. -/
  | handoffSwitch
  /-- HANDOFF_COMPLETE (R504). The new runtime reads the state record, claims the mailbox and writes ACTIVE. -/
  | handoffComplete
  /-- HANDOFF_TIMEOUT (R506). A hand-off not ended in 2 ms, or a lockstep disagreement, restarts the old runtime. -/
  | handoffTimeout
  /-- FENCE_ACKNOWLEDGED (R470). A fencing unit acknowledges at its point and its latch reads FENCED. -/
  | fenceAcknowledged (loc : BitVec 32) (emptied : Caught := [])
  /-- FENCE_TIMEOUT (R470). A unit not acknowledging within its timeout is hard-fenced by the level above. -/
  | fenceTimeout (loc : BitVec 32) (emptied : Caught := [])
  /-- HEARTBEAT_TICK (R475). Each sequencer adds 1 to HB_c every 3,300,000 vector cycles. -/
  | heartbeatTick (c : Camp)
  /-- HEARTBEAT_READ (R475). Dzisia reads every HB_c each millisecond. -/
  | heartbeatRead (emptied : Caught := [])
  /-- SELFTEST_PERIODIC (R468). Every SELFTEST_H hours one engine per camp is fenced and self-tested. -/
  | selftestPeriodic (e : Engine) (overdue : Bool)
  /-- SELFTEST_DONE (R468). A self-test ends and the unit returns, stays partly fenced or stays fenced. -/
  | selftestDone (t : SelfTest)
  /-- GUEST_SLOTS_DRAINED (R474). Once every guest slot is idle, firmware copies tallies back and clears the
  redirect. -/
  | guestSlotsDrained (c : Camp)
  /-- CROSSING_PARITY_REFUSAL (R463). A crossing entry failing parity is refused and resent, and a fourth failure
  strikes the sender. -/
  | crossingParityRefusal (x : Crossing)
  /-- LOG_FLUSH (R447). A buffered logbook entry reaches flash. -/
  | logFlush (accepted : Bool)
  /-- LOG_AHEAD_DONE (R447). A log-ahead entry is written to flash and its change takes effect. -/
  | logAheadDone (accepted : Bool)
  /-- RAMP_UP_DONE (R124). Ramp cycle 48 is reached and the array may first advance once every active plot has its
  operands. -/
  | rampUpDone (e : Engine)
  /-- IDLE_FLIT_RECEIVE (R340). A received idle flit's ACK frees covered replay-buffer entries and its CRED
  returns credit. -/
  | idleFlitReceive (port : TwPort) (crcOk : Bool) (ack : Fin 4096) (cred : BitVec 32)
  /-- DOZE_EXIT_DONE (R418). The camps finish powering up from DOZE, HBM leaves self-refresh and the held requests
  are released. -/
  | dozeExitDone
  /-- DZISIA_RESTART_DONE (R423). A restarted Dzisia pair comes up on its image and the Lantern stops proxying the
  mailbox. -/
  | dzisiaRestartDone (pair : Fin 2)
  /-- LANTERN_SUMMARY (R450). Every 20,000,000 Lantern cycles the Lantern makes a LANTERN_SUMMARY logbook entry of
  clock steps and supply changes. -/
  | lanternSummary
  /-- POWER_REMOVED (R512). The input falls below 40 V and the whole module, the Lantern included, loses power and
  its volatile state. -/
  | powerRemoved
  deriving DecidableEq, Repr

end Sys2Proof
end

