-- ==== Sys2Proof/Machine/State.lean ====
section
/-! DEFINITION. The state of the PL-480 as plain data: everything the manual gives the machine, in the groups of its
chapters, and the machine right after reset. -/
namespace Sys2Proof.Machine

open Sys2Proof

/-- A sparse map from numbers to values in ONE canonical form: keys strictly rising, and no entry equal to the value
that an unlisted key reads as. The operations and the form's predicate are in Machine/Ops.lean. -/
abbrev Sparse (β : Type) := List (Nat × β)

/-- How a register field may be accessed (the Access column of 00_scope.md). -/
inductive Access where
  | ro | rw | w1c | wo | sat
  deriving DecidableEq, Repr

/-- One field of a register of control space (R36): its block, the offset of its register's first member, how many
members the family has and how many 64-bit words each takes, the field's lowest bit and width, its access code and its
reset value. -/
structure Fld where
  block : Nat
  off : Nat
  members : Nat
  words : Nat
  lo : Nat
  width : Nat
  acc : Access
  reset : Nat
  deriving DecidableEq, Repr

/-- One event record (R10). -/
structure Event where
  code : Nat
  severity : Nat
  pitch : Nat
  location : Nat
  seq : Nat
  detail : Nat
  deriving DecidableEq, Repr

/-- One pitch's event ring (R391): the index of the oldest record held, and the records, oldest first. -/
structure Ring where
  first : Nat
  recs : List Event
  deriving DecidableEq, Repr

/-- The module event sequence (R526) and the rings (R391). -/
structure Events where
  nextSeq : Nat
  rings : Sparse Ring
  deriving DecidableEq, Repr

/-- What a pitch's translation (R39, R432) is built from: its camps and guylines as masks, the physical HBM pages in
pitch order, the physical slabs of each Shelf die in pitch order, and the camps whose Cove buffers and local stores are unmapped
because their work has moved (R474), as a mask. -/
structure PageMap where
  camps : Nat
  guys : Nat
  pages : List Nat
  slabs0 : List Nat
  slabs1 : List Nat
  dark : Nat
  deriving DecidableEq, Repr

/-- A start record as accepted (R165). -/
structure StartRec where
  list : Nat
  mbatch : Nat
  legLen : Nat
  endTally : Nat
  endCamp : Nat
  endEn : Bool
  deriving DecidableEq, Repr

/-- An issued descriptor that has not completed: its number among all issued, its index and leg, its leg section (first
index, longest token axis), its 64 bytes, the bank current at issue (R246) and the translation it issued under (R39),
how many of its parts are still under way, whether it has begun (writes made, or a signal performed), whether its work
is done, the code it has met (0 for none), and what its type keeps from issue to completion. -/
structure Flight where
  uid : Nat
  idx : Nat
  leg : Nat
  sect : Option Nat
  sectMax : Nat
  word : Nat
  bank : Nat
  map : PageMap
  left : Nat
  begun : Bool
  done : Bool
  code : Nat
  keep : List Nat
  deriving DecidableEq, Repr

/-- A descriptor that faulted (R172): where it stood, and its code. -/
structure FaultRec where
  idx : Nat
  leg : Nat
  sect : Option Nat
  sectMax : Nat
  code : Nat
  deriving DecidableEq, Repr

/-- A descriptor that completed behind an older one that has not: its number and where it stood. -/
structure DoneRec where
  uid : Nat
  idx : Nat
  leg : Nat
  sect : Option Nat
  deriving DecidableEq, Repr

/-- One descriptor list being run: its base, its length when it is a chain list, the next index to issue, the fetched
descriptors (index, fetch fault or 0, bytes) from the oldest incomplete one on, those in flight in issue order, and those
that have completed and that an older incomplete one or a retry still needs. -/
structure Frame where
  base : Nat
  count : Option Nat
  next : Nat
  fetched : List (Nat × Nat × Nat)
  flights : List Flight
  completed : List DoneRec
  deriving DecidableEq, Repr

/-- A recompute chain under way (R184): the number of the get's flight, its chain table and block, the block whose list runs, and where
the get's part goes. -/
structure Chain where
  get : Nat
  table : Nat
  target : Nat
  cur : Nat
  dst : Nat
  deriving DecidableEq, Repr

/-- A stream slot (R164-R175): STATE as STR_STATUS codes it, the start queue, the running record, the main list and the
chain list above it, the faulted descriptors, the touched tallies' balances (R284), the resume point of
FENCE_POINT (MARK, index) with the balances recorded there, the current leg, its section's first index and the longest token axis met in it, the collectives
issued in this run (index, leg), whether a forced abort is under way, and the slot whose stream a guest context runs (R474). -/
structure StreamSlot where
  state : Nat
  queue : List StartRec
  run : Option StartRec
  main : Frame
  chain : Option (Chain × Frame)
  faulted : List FaultRec
  touched : Sparse Int
  resume : Option (Nat × Nat)
  resumeTouched : Sparse Int
  leg : Nat
  legStart : Option Nat
  legMax : Nat
  collsIssued : List (Nat × Nat)
  aborting : Bool
  home : Nat
  deriving DecidableEq, Repr

/-- A Peg core's blocked Xpeg instruction (R274). -/
inductive PegBlock where
  | wait (rd : Nat) (camp tally amount : Nat)
  | bar (rd guy : Nat)
  | wfence (rd target : Nat)
  deriving DecidableEq, Repr

/-- A Peg core as Xpeg sees it (R271-R274): its registers by number, the cause of its last trap and the word that
illegally encoded one, the blocked instruction, its pending arrivals (guyline, round), the stores and remote atomics
outstanding by target (device, or 4,096 for this device), the targets where one ended in error. -/
structure PegRec where
  regs : Sparse Nat
  trap : Nat
  trapValue : Nat
  block : Option PegBlock
  arrivals : List (Nat × Nat)
  outstanding : Sparse Nat
  failed : List Nat
  waitLog : Nat
  deriving DecidableEq, Repr

/-- A guest context of a host camp (R474): the moved camp and slot. -/
structure Guest where
  camp : Nat
  slot : Nat
  deriving DecidableEq, Repr

/-- The job running in a pitch (R387, R222): its number, the participants' device IDs in list order, G, the master mode
(true BF16), LAD_SITE_BASE (log 4), the Groundsheet tensors (header, placement: 0 die 0, 1 die 1, 2 HBM), the
micro-batches whose STASH_NOT_KEPT is raised, the BLOCK_BYTES of the Stash entries (MBATCH, BLOCK, bytes), and the blocks
whose late keeping is decided (R186), whether UPD_NONFINITE rose in the step under way (R229, R235), and whether JOB_END has been accepted and the job is winding down. -/
structure Job where
  num : Nat
  parts : List Nat
  gsize : Nat
  bf16Master : Bool
  siteBase : Nat
  tensors : List (Nat × Nat)
  notKept : List Nat
  sizes : List (Nat × Nat × Nat)
  offered : List (Nat × Nat)
  rose : Bool
  ending : Bool
  deriving DecidableEq, Repr

/-- A decision of an earlier attempt that the leader still sends (R236): its step, attempt, kind and cause, and the participants that
have not acknowledged it. -/
structure OwedDecision where
  step : Nat
  attempt : Nat
  kind : Nat
  cause : Nat
  devs : List Nat
  deriving DecidableEq, Repr

/-- A pitch's commit unit beside CMT_STATUS (R235-R237): the COMMITs of the attempt that have issued (camp, number of the flight), its
vote (0 none, 1 READY, 2 ABORT) with its cause, the votes READY that the leader holds, the leader's decision (0 none, 1
COMMIT, 2 ABORT) with its cause and the device behind it, the participants that have acknowledged it, the rounds of queries sent, the last COMMITTED step, the camps fenced since the last attempt
was settled, and the decisions of earlier attempts that are not acknowledged by all. -/
structure CommitRec where
  issued : List (Nat × Nat)
  vote : Nat
  cause : Nat
  ready : List Nat
  decided : Nat
  why : Nat
  who : Nat
  acked : List Nat
  rounds : Nat
  last : Option Nat
  fenced : List Nat
  owed : List OwedDecision
  deriving DecidableEq, Repr

/-- A rectangle of output elements: first row, rows, first column, columns. -/
structure Rect where
  row : Nat
  rows : Nat
  col : Nat
  cols : Nat
  deriving DecidableEq, Repr

/-- An operand of a MATMUL as settled at issue (R251, R252): its kind and contracted axis, the element format into which it
is quantised (of its record when stored), its record and that of its lo part for the current leg, its record before the
leg's advance, its coarse scale (FP32) once known, the largest magnitude quantised so far (FP32), and whether its amax
pre-pass is still to run (R89). -/
structure Operand where
  kind : Nat
  ax : Nat
  q : Nat
  record : Nat
  low : Nat
  whole : Nat
  coarse : Nat
  amax : Nat
  prepass : Bool
  deriving DecidableEq, Repr

/-- A MATMUL under way: the flight it serves, its slot, pitch and bytes, its operands, the shape of this leg and the offset of
its first output element in the whole output, the whole row length of the output, the output record, the destination's
record (or Groundsheet header) and, for an add, the header's address, the bias record, the value table loaded, the
starting rung and whether it is pinned, the signs of its site, whether the leg starts from the carry area and whether it
leaves its accumulators there, whether it takes the Runnel path, the rectangles not yet dealt, whether a panel of an auto
use tripped and tripped at rung 2, whether POISON_CONSUMED and DATUM_LOSS are raised, the output elements lost, whether
any output has been written, and whether its add has started at the Groundsheet header (R205). -/
structure Product where
  uid : Nat
  slot : Nat
  pitch : Nat
  word : Nat
  map : PageMap
  a : Operand
  b : Operand
  m : Nat
  n : Nat
  k : Nat
  m0 : Nat
  n0 : Nat
  k0 : Nat
  nAll : Nat
  orec : Nat
  dst : Nat
  hdr : Nat
  bias : Nat
  table : Nat
  rung : Nat
  pinned : Bool
  signs : List Bool
  carryIn : Bool
  carryOut : Bool
  runnel : Bool
  todo : List Rect
  tripped : Bool
  floored : Bool
  poison : Bool
  loss : Bool
  lostAt : List Nat
  wrote : Bool
  added : Bool
  deriving DecidableEq, Repr

/-- A panel that a feeder has made ready: whether of B, its row panel and its chunk (R97). -/
structure PanelRec where
  ofB : Bool
  p : Nat
  j : Nat
  deriving DecidableEq, Repr

/-- A block on a plot (16 for the Runnel path): its descriptor and rectangle, the panels ready, the checks failed so far. -/
structure PlotRec where
  plot : Nat
  uid : Nat
  rect : Rect
  fed : List PanelRec
  fails : Nat
  deriving DecidableEq, Repr

/-- A finished bank that waits for the drain: plot, descriptor, rectangle, its accumulators row by row, the checks failed so
far. -/
structure BankRec where
  plot : Nat
  uid : Nat
  rect : Rect
  acc : List Nat
  fails : Nat
  deriving DecidableEq, Repr

/-- A Breaker engine beside its registers: its busy plots, its finished banks, the plot whose bank the drain is in, the
panels of A kept in the Cove buffer (R111), the Runnel blocks queued, the blocks that this engine has to run on its array
before others, because the margin was denied (R127) or a check failed (R461), with their failed checks, the descriptors whose Runnel
work it runs on its array since the margin was denied, and whether a feed or a requantisation was last reported to freeze it (R120). -/
structure EngRec where
  plots : List PlotRec
  banks : List BankRec
  draining : Option Nat
  kept : List (Nat × PanelRec)
  queue : List (Nat × Rect)
  denied : List (Nat × Rect × Nat)
  noMargin : List Nat
  dry : Bool
  deriving DecidableEq, Repr

/-- What a MATMUL in a leg section carries from leg to leg (R65, R90, R189, R208, R255): slot, index, the amaxes of A and B, the coarse
scales that pre-passes of a use at site 0 gave A and B, whether a panel tripped and tripped at rung 2, the elements lost, whether
POISON_CONSUMED and DATUM_LOSS are raised, and whether any output has been written. -/
structure LegUse where
  slot : Nat
  idx : Nat
  amaxA : Nat
  amaxB : Nat
  coarseA : Option Nat
  coarseB : Option Nat
  tripped : Bool
  floored : Bool
  lostAt : List Nat
  poison : Bool
  loss : Bool
  wrote : Bool
  deriving DecidableEq, Repr

/-- The Breaker engines: the products under way in issue order, the engines, the numbers of the add descriptors held by
R205, and what legs carry. -/
structure Engines where
  products : List Product
  engs : Sparse EngRec
  held : List Nat
  legUses : List LegUse
  deriving DecidableEq, Repr

/-- The engines with no work. -/
def Engines.initial : Engines := { products := [], engs := [], held := [], legUses := [] }

/-- Who waits at a tally or a guyline: a stream slot (camp * 4 + slot) or a Peg core. -/
inductive Agent where
  | slot (k : Nat)
  | peg (p : Nat)
  deriving DecidableEq, Repr

/-- A tally word (R277). -/
structure Tally where
  limit : Nat
  count : Nat
  deriving DecidableEq, Repr

/-- A wait in a camp's queue (R280). -/
structure WaitRec where
  camp : Nat
  tally : Nat
  agent : Agent
  amount : Nat
  deriving DecidableEq, Repr

/-- A guyline's record (R290), its copies of GUY_CFG aside; `arrivals` holds byte c for camp c. -/
structure GuyRec where
  gen : Nat
  releases : Nat
  latchEven : Nat
  latchOdd : Nat
  arrivals : Nat
  fbRound : Nat
  lastDev : Nat
  lastThr : Nat
  lastSlack : Nat
  deriving DecidableEq, Repr

/-- An agent that waits at a guyline for the release of the round (modulo 4) its arrival counted toward. -/
structure GuyWait where
  guy : Nat
  agent : Agent
  round : Nat
  deriving DecidableEq, Repr

/-- A remote signal waiting in the tide pool, or (`held`) in the link's signal class (R298, R299). -/
structure Parked where
  pitch : Nat
  source : Nat
  camp : Nat
  tally : Nat
  amount : Nat
  wm : Nat
  tag : Nat
  held : Bool
  deriving DecidableEq, Repr

/-- Tallies, guylines and signals (chapter 10): tally words by camp * 1,024 + tally (guest banks above 16 * 1,024), the
wait queues in arrival order, guyline records and their waiters, the ARRIVEs that the root holds (guyline, device), the
guylines whose own ARRIVE awaits RELEASE (with the THR it carried), those where a bubble was inserted since the last ARRIVE, WSEQ and SETTLED by
pitch * 4,096 + device, the numbers settled beyond SETTLED, the parked signals oldest first, the long waiters. -/
structure Sync where
  tallies : Sparse Tally
  waits : List WaitRec
  guys : Sparse GuyRec
  guyWaits : List GuyWait
  arrives : List (Nat × Nat)
  arriving : List (Nat × Bool)
  bubbled : List Nat
  wseq : Sparse Nat
  settled : Sparse Nat
  beyond : Sparse (List Nat)
  pool : List Parked
  longWaits : List Agent
  deriving DecidableEq, Repr

/-- Tallies, guylines and signals with nothing waiting. -/
def Sync.initial : Sync :=
  { tallies := [], waits := [], guys := [], guyWaits := [], arrives := [], arriving := [], bubbled := [], wseq := [], settled := []
    beyond := [], pool := [], longWaits := [] }

/-- What the controller of one pseudo-channel remembers beside its registers (R312, R320, R322): failed retrains in a
row, the corrected-location log (location in the channel, count; oldest first), the corrections per pin in this scrub period, and the next
codeword of the scrubber. -/
structure PcRec where
  fails : Nat
  ceLog : List (Nat × Nat)
  pins : List (Nat × Nat)
  scrub : Nat
  deriving DecidableEq, Repr

/-- What is done to a line at its controller: a read or write, or an add (R316) of an element type, a mask and its addends, which
returns the line where it is an add-reduce. -/
inductive LineAct where
  | access (op : LineOp)
  | add (type : Fin 5) (mask : BitVec 32) (addend : BitVec 512) (reduce : Bool)
  deriving DecidableEq, Repr

/-- An access that waits at a retraining pseudo-channel, at the mover's page gate or through self-refresh. -/
structure HeldLine where
  pitch : Pitch
  line : Nat
  act : LineAct
  err : ReadErr
  who : Requester
  deriving DecidableEq, Repr

/-- A pattern that a generator has written to a pseudo-channel's raw codewords (R326): the first codeword and how many, the pattern, its
seed and its line. -/
structure RawRun where
  pc : Nat
  first : Nat
  count : Nat
  pattern : Nat
  seed : Nat
  line : Nat
  deriving DecidableEq, Repr

/-- The memory system's own state (chapter 11): page and slab owners (R313, R330), poisoned lines (numbered by local
address over 64), pseudo-channel records, uncorrectable lines per Shelf bank in the scrub period (die * 1,024 + bank), the
Shelf scrubbers' next lines, the flash list of retired locations (pseudo-channel, slot), pages marked to retire at
release, the move under way (old page, new page), pages whose retirement is tried again, redirects in force, held
accesses, the pseudo-channels that died in the re-form under way, each pitch's mapped and joining pages as it began (R325), the key under
which each page's ciphertext stands (R314), and the generators' runs, newest first (R326). -/
structure Memories where
  owners : Sparse Nat
  slabOwners : Sparse Nat
  poison : List Nat
  pcs : Sparse PcRec
  bankUe : Sparse Nat
  shelfScrub : Sparse Nat
  flash : List (Nat × Nat)
  fullRaised : Bool
  marked : List Nat
  moving : Option (Nat × Nat)
  retry : List Nat
  redirect : List (Nat × Nat)
  held : List HeldLine
  dying : List Nat
  before : List (Nat × Nat × Nat)
  pageKeys : Sparse Nat
  raw : List RawRun
  deriving DecidableEq, Repr

/-- The memory system with nothing owned, poisoned or moving, and the flash list of retired locations. -/
def Memories.initial (flash : List (Nat × Nat)) : Memories :=
  { owners := [], slabOwners := [], poison := [], pcs := [], bankUe := [], shelfScrub := [], flash := flash, fullRaised := false
    marked := [], moving := none, retry := [], redirect := [], held := [], dying := [], before := [],
    pageKeys := [], raw := [] }

/-- What a request serves: a descriptor's flight by its number, with the pitch address that its data goes to; a Peg
core; a collective's pull (step number) or write (member); nothing. -/
inductive Origin where
  | flight (uid : Nat) (dst : Nat)
  | peg (p : Nat)
  | pull (cid step : Nat)
  | push (cid member : Nat)
  deriving DecidableEq, Repr

/-- A request at its source (R351, R352): waiting (0), sent (1), or refused with FABRIC_BUSY and to be resent (2). -/
structure FabReq where
  pkt : Packet
  origin : Origin
  stage : Nat
  deriving DecidableEq, Repr

/-- An entry of the pair tracker (R350): one above the highest IV accepted, and the IVs accepted within the window. -/
structure PairRec where
  top : Nat
  seen : List Nat
  deriving DecidableEq, Repr

/-- A data flit in the replay buffer (R340): the packets that it carries (parts of) and its payload without the zeros at its end. -/
structure FlitRec where
  seq : Nat
  cls : Nat
  vl : Nat
  pkts : List Packet
  payload : Bytes
  deriving DecidableEq, Repr

/-- A packet that waits at a port (R339): what of its bytes has not left in a flit, and whether some of them have. -/
structure PortItem where
  pkt : Packet
  wire : Bytes
  begun : Bool
  deriving DecidableEq, Repr

/-- A port's link layer (R339-R343, R353): the next SEQ, the SEQ expected, the replay buffer oldest first, the packets that wait to leave,
the class that last had its turn, by class the pitch that is being served, by class * 16 + pitch the bytes it may still send in its turn,
the replays since an ACK last advanced, whether the NAK for the expected SEQ is sent, the credit balance and the buffer space to return by
class * 2 + lane, whether the port was down before training. -/
structure PortRec where
  nextSeq : Nat
  expected : Nat
  buffer : List FlitRec
  queue : List PortItem
  turn : Nat
  serving : Sparse Nat
  deficit : Sparse Nat
  replays : Nat
  nakSent : Bool
  credit : Sparse Int
  owed : Sparse Nat
  wasDown : Bool
  deriving DecidableEq, Repr

/-- Bytes of its own block that a member sends to another (R359-R362): offset in the destination's rows and length;
`avail` tells whether they are there to be sent. -/
structure CollSend where
  member : Nat
  off : Nat
  len : Nat
  avail : Bool
  deriving DecidableEq, Repr

/-- A collective that this device has issued (R356-R362): its identity and descriptor, the member list and shard count,
the COLL_READYs in (member, DST, DST_PITCH), the members whose COLL_DONE is in and those sent one, what is still to be
sent, the members of outstanding writes, the outstanding pulls, the next pull, the pulled spans not yet added, the adds
made, and the spans still to be served. A step is span * members + member. -/
structure Coll where
  pitch : Nat
  cid : Nat
  uid : Nat
  slot : Nat
  ctype : Nat
  op : Nat
  group : Nat
  rows : Nat
  rowBytes : Nat
  root : Nat
  member : Nat
  q : List Nat
  shards : Nat
  src : Nat
  srcPitch : Nat
  dst : Nat
  dstPitch : Nat
  map : PageMap
  ready : List (Nat × Nat × Nat)
  doneFrom : List Nat
  doneTo : List Nat
  sends : List CollSend
  unacked : List Nat
  pulls : List Nat
  nextPull : Nat
  arrived : List (Nat × Bytes)
  added : Nat
  toServe : Nat
  deriving DecidableEq, Repr

/-- A COLL_READY or COLL_ABORT that waits for its collective to issue (R358). -/
structure CollHeld where
  pitch : Nat
  src : Nat
  subtype : Nat
  body : Nat
  deriving DecidableEq, Repr

/-- The Tideway fabric (chapter 12): requests at their source in order, tags that may not be reused yet (with whether a
millisecond began since), the next IV by pitch * 4,096 + destination, the pair tracker and the floors by pitch * 4,096 +
source, the ports, the collectives under way, the messages held for ones not yet issued, the collective counts by pitch *
64 + slot. -/
structure Fabric where
  reqs : List FabReq
  late : List (Nat × Bool)
  ivs : Sparse Nat
  pairs : Sparse PairRec
  floors : Sparse Nat
  ports : Sparse PortRec
  colls : List Coll
  collHeld : List CollHeld
  collCount : Sparse Nat
  deriving DecidableEq, Repr

/-- The fabric with nothing under way. -/
def Fabric.initial : Fabric :=
  { reqs := [], late := [], ivs := [], pairs := [], floors := [], ports := [], colls := [], collHeld := [], collCount := [] }

/-- A REPLY kept for a duplicate (R376). -/
structure CachedReply where
  seq : Nat
  opcode : Nat
  status : Nat
  body : Bytes
  deriving DecidableEq, Repr

/-- A request accepted and not yet executed (R376, R379), and whether its body has its form. -/
structure HeldReq where
  seq : Nat
  tod : Nat
  cmd : Cmd
  ok : Bool
  came : Nat
  deriving DecidableEq, Repr

/-- One open mailbox session (R372-R376): role 0 Warden, 1 Tenant, 2 Steward; `ctrTop` and `ctrSeen` are the highest CTR
accepted and those accepted within 64 below it; `next` is NEXT, `run` the SEQ executed next, `early` the SEQs received
beyond NEXT; `waiting` names the executing request (SEQ, opcode) whose reply is deferred; `port` and `addr` are where its
latest request came from. -/
structure Session where
  role : Nat
  pitch : Nat
  cred : Nat
  keys : Nat
  ctrTop : Nat
  ctrSeen : List Nat
  ctrOut : Nat
  ctrProxy : Nat
  next : Nat
  run : Nat
  early : List Nat
  held : List HeldReq
  waiting : Option (Nat × Nat)
  done : List CachedReply
  port : Nat
  addr : Nat
  udp : Nat
  deriving DecidableEq, Repr

/-- A RoCEv2 window (R386), kept under its rkey; `quiet` holds its event back until a millisecond has passed. -/
structure Window where
  qp : Nat
  device : Nat
  base : Nat
  length : Nat
  access : Nat
  peer : Nat
  session : Nat
  pitch : Nat
  quiet : Bool
  deriving DecidableEq, Repr

/-- A host port's addresses and neighbours (R366, R367), and whether PORT_CMD holds it down (R383). -/
structure HostPort where
  linkLocal : Nat
  auto : List Nat
  fixed : List Nat
  neighbours : List (Nat × Nat)
  lldp : Bytes
  held : Bool
  deriving DecidableEq, Repr

/-- What a deferred reply waits for: a slot's forced abort, the end of a pitch's job, a unit's fence or return (its location
word), a firmware hand-off, a log-ahead entry, a power state. -/
inductive WaitOn where
  | slot (k : Nat)
  | job (p : Nat)
  | fence (loc : Nat)
  | unfence (loc : Nat)
  | handoff
  | log (seq : Nat)
  | power
  deriving DecidableEq, Repr

/-- A deferred reply: the request (session, SEQ, opcode), the time of day that it carried, and what it waits for. -/
structure ReplyWait where
  session : Nat
  seq : Nat
  opcode : Nat
  tod : Nat
  on : WaitOn
  deriving DecidableEq, Repr

/-- The mailbox and the host ports (chapter 13), with the replies deferred. -/
structure HostSide where
  sessions : Sparse Session
  windows : Sparse Window
  he0 : HostPort
  he1 : HostPort
  authQuiet : Bool
  waits : List ReplyWait
  deriving DecidableEq, Repr

/-- A host port with no address beyond its link-local one, which R366 derives. -/
def HostPort.initial : HostPort := { linkLocal := 0, auto := [], fixed := [], neighbours := [], lldp := [], held := false }

/-- The mailbox with no session open. -/
def HostSide.initial : HostSide :=
  { sessions := [], windows := [], he0 := .initial, he1 := .initial, authQuiet := false, waits := [] }

/-- A sensor point (R420, R421): its last samples, newest first (at most 7), its filtered value, the failed samples in a row,
whether it is faulty. -/
structure SensorRec where
  last : List Int
  y : Int
  bad : Nat
  faulty : Bool
  deriving DecidableEq, Repr

/-- A pitch's ledger of job lending (R404): a count per participant, and the consecutive RELEASEs with LAST_THR 0. -/
structure Ledger where
  counts : List Nat
  calm : Nat
  deriving DecidableEq, Repr

/-- Power, heat and the Lantern beside their registers (chapter 14): whether the camps are powering up out of DOZE; whether the
deglitch of FLOW_OK runs; the coolant stop (0 none, 1 lane enables dropped, 2 islands gated), whether a package trip began it, and the
power state before it; the tripped engines (and whether one stays fenced until a Warden UNFENCE) and how often each has tripped; each
engine's clock step and the mV taken off its supply; whether the fast path limits; the slow loop's excess count; the input voltage last
sampled, in mV; the sensor points; each camp's bubble counts of the last window (eight agents), the bubble count that each engine's run
in progress took, each camp's demand in the windows since its pitch's last rebalance and in the 16 before it, and its budget before
SCALE; the ledgers; the devices that THROTTLE_PEER named (pitch, device, rounds then); the clock steps and supply changes since the last LANTERN_SUMMARY; the Dzisia pairs
held for a restart (pair, whether it waits for a retry) and their restarts. -/
structure Power where
  waking : Bool
  flowLow : Bool
  stop : Nat
  package : Bool
  before : Nat
  tripped : List (Nat × Bool)
  trips : Sparse Nat
  steps : Sparse Nat
  volts : Sparse Nat
  fast : Bool
  excess : Nat
  inputMv : Nat
  sensors : Sparse SensorRec
  bubbles : Sparse (List Nat)
  runBubbles : Sparse Nat
  demand : Sparse Nat
  lastDemand : Sparse Nat
  budgets : Sparse Nat
  ledgers : Sparse Ledger
  peers : List (Nat × Nat × Nat)
  stepsTaken : Nat
  supplies : Nat
  restarting : List (Nat × Bool)
  restarts : Sparse Nat
  deriving DecidableEq, Repr

/-- A firmware slot (R489, R502, R503): the bytes staged since manufacture, by offset (256 where none was), its STATE and LAST_ERR. -/
structure FwSlot where
  bytes : Sparse Nat
  state : Nat
  err : Nat
  deriving DecidableEq, Repr

/-- What firmware does about a hardware happening, put off while a hand-off runs (R505): a unit fenced by command, or hard, with its
cause; a pseudo-channel that died. -/
inductive FwAct where
  | fence (loc cause : Nat)
  | hard (loc cause : Nat)
  | dead (pc : Nat)
  deriving DecidableEq, Repr

/-- Start-up and power entry beside the STU registers, which hold the boot record (chapters 17, 18): the attempt marker, FAILS before
this attempt, whether this hold has raised START_HELD, whether an interrupted attempt is still to be
reported, whether the whole module is unpowered or its hot-swap controller open, whether the run before ended with its logbook buffer flushed, whether a fuse was burned without its change (R445),
whether the boot record was read as lost (R489), whether a failed start waits for its next attempt, the tray slot, the two
firmware slots, the hand-off (0 none; 1 announced; 2 switched) with its slot, RAISE and what is put off. -/
structure Boot where
  marker : Bool
  prevFails : Nat
  held : Bool
  interrupted : Bool
  unpowered : Bool
  opened : Bool
  flushed : Bool
  mismatch : Bool
  recordBad : Bool
  waiting : Bool
  slotId : Nat
  slotA : FwSlot
  slotB : FwSlot
  hand : Nat
  handSlot : Nat
  handRaise : Bool
  putOff : List FwAct
  deriving DecidableEq, Repr

/-- Power, heat and the Lantern after power-up. -/
def Power.initial : Power :=
  { waking := false, flowLow := false, stop := 0, package := false, before := 0, tripped := [], trips := [], steps := [], volts := [], fast := false
    excess := 0, inputMv := 56000, sensors := [], bubbles := [], runBubbles := [], demand := [], lastDemand := [], budgets := []
    ledgers := [], peers := [], stepsTaken := 0, supplies := 0, restarting := [], restarts := [] }

/-- A firmware slot in which nothing has been staged. -/
def FwSlot.initial : FwSlot := { bytes := [], state := 0, err := 0 }

/-- The boot record and its surroundings as manufactured, slot A running (log 96). -/
def Boot.initial : Boot :=
  { marker := false, prevFails := 0, held := false, interrupted := false, unpowered := false, opened := false, flushed := true
    mismatch := false, recordBad := false, waiting := false, slotId := 0, slotA := { FwSlot.initial with state := 4 }, slotB := .initial
    hand := 0, handSlot := 0, handRaise := false, putOff := [] }

/-- One logbook entry (R446). `body` lists the fields that R450 names for the kind, in its order. -/
structure LogEntry where
  seq : Nat
  kind : Nat
  actor : Nat
  pitch : Nat
  tenancy : Nat
  session : Nat
  tod : Nat
  body : List Nat
  deriving DecidableEq, Repr

/-- A change that waits for its log-ahead entry to reach flash (R445, R447). A change that burns a fuse waits twice: for the FUSE_BURN
entry, and for its own, under the constructor after it; a change that destroys or draws keys waits for its KEY_EVENT entry, too
(`keyed`, `released`, `ended`) (log 97). -/
inductive Change where
  | checkpoint
  | ownerTransfer
  | transferred
  | assign (p : Nat)
  | keyed (p : Nat)
  | apply (p : Nat)
  | seal (p : Nat)
  | release (p : Nat)
  | released (p : Nat)
  | ended (p : Nat)
  | forceRelease (p : Nat)
  | forced (p : Nat)
  | seed (p : Nat) (seed nonce job : Nat)
  | fab0Key (key : Nat)
  | unlock (digest : Nat)
  | unlocked (digest : Nat)
  | lock
  | activate (slot : Nat) (raise : Bool)
  | floor (svn slot : Nat)
  | note
  deriving DecidableEq, Repr

/-- A log-ahead entry in the security block, its change, and the request that is answered once it is done
(session, SEQ and opcode; `none` for none). -/
structure Ahead where
  seq : Nat
  change : Change
  reply : Option (Nat × Nat × Nat)
  deriving DecidableEq, Repr

/-- The logbook (R446-R451): the retained entries newest first, the chain digest of the entry before the oldest of them, the
numbers of those still in the buffer oldest first, the entries that wait for room in it, the log-ahead entries being written, and whether the flash refuses
writes. The chain digests, SEC_LOG_HEAD among them, are computed from the entries as they are read. -/
structure Logbook where
  entries : List LogEntry
  base : Nat
  buffered : List Nat
  later : List LogEntry
  ahead : List Ahead
  refuses : Bool
  deriving DecidableEq, Repr

/-- What firmware holds of one pitch beside its registers (R432, R433, R443): the translation of the layout applied, the
resources still being zeroed, the keys. -/
structure PitchRec where
  map : PageMap
  joiningPages : List Nat
  joiningSlabs : List Nat
  hbmKey : Option Nat
  fabKey : Option Nat
  spdKey : Option Nat
  rotSeed : Option Nat
  deriving DecidableEq, Repr

/-- The security block (chapter 15): the pitches, the logbook, the flash's digests of fabric keys installed (newest
first, at most 4,096), the owner key, whether an unlock stands and for which digest, whether the block is powered and whether the flash controller is, and the event sequence up to which the powered blocks have
taken the event records (R26). The fuse
counts are the fields of SEC_FUSE. -/
structure Security where
  pitches : Sparse PitchRec
  log : Logbook
  fabDigests : List Nat
  ownerKey : Nat
  unlocked : Option Nat
  powered : Bool
  flashOn : Bool
  evSeen : Nat
  deriving DecidableEq, Repr

/-- The security block with no pitch assigned, an empty logbook and a given owner. -/
def Security.initial (owner : Nat) : Security :=
  { pitches := []
    log := { entries := [], base := 0, buffered := [], later := [], ahead := [], refuses := false }
    fabDigests := [], ownerKey := owner, unlocked := none, powered := true, flashOn := true, evSeen := 1 }

/-- Reliability beside its registers (chapter 16): firmware's own record of each unit by location word (R472), the strikes
standing against each (R462), the cause for which each is being fenced, the fenced camps whose work has moved with their
hosts (R474), the engines under self-test (and whether a pass returns them to service), the engines whose test waits for one in their camp, and HB_c as last read with its misses in a row (camp, value, misses). -/
structure Reliability where
  records : Sparse Nat
  strikes : Sparse Nat
  causes : Sparse Nat
  moved : List (Nat × Nat)
  testing : List (Nat × Bool)
  due : List Nat
  beats : List (Nat × Nat × Nat)
  deriving DecidableEq, Repr

/-- Reliability with every unit in service. -/
def Reliability.initial : Reliability :=
  { records := [], strikes := [], causes := [], moved := [], testing := [], due := [], beats := [] }

/-- What the module has sent, newest first in `State.out`: DZMP datagrams (R370), Ethernet frames of the side protocols,
RoCEv2 answers, completions of line accesses, Tideway packets with the port they leave by (36 for delivery to this
device itself), and Tideway flits. -/
inductive Out where
  | dgram (port addr udp type : Nat) (proxy : Bool) (session seq opcode status retry ctr : Nat) (body : Bytes)
  | frame (port kind : Nat) (dest : Nat) (body : Bytes)
  | roce (port peer qp : Nat) (answer : Nat) (body : Bytes)
  | line (status : Nat) (data : Nat)
  | packet (port : Nat) (pkt : Packet)
  | flit (port ftype seq ack cls vl cred : Nat) (bytes : Bytes)
  deriving DecidableEq, Repr

/-- Why the machine stops. -/
inductive Fault where
  /-- Raised by INPUT_OVERVOLTAGE alone, when the input exceeds 63 V: R512 promises no behaviour there. Safe: nothing is
  claimed of the part beyond that point. -/
  | overvoltageBeyond63V
  deriving DecidableEq, Repr

/-- Why a command has no meaning. -/
inductive Refusal where
  /-- Raised by an arm of `exec` whose command is not modelled. Safe: the machine stops where the part goes on. -/
  | notModelled (mnemonic : String)
  deriving DecidableEq, Repr

/-- The machine. `pending` is the queue of waiting commands (log 1), `fresh` counts the free values drawn so far
(log 2), `ctl` holds the register fields as differences from their resets, `mem` the bytes of HBM, Shelf memory, Cove
buffers and local stores by local address (R35), `issued` the number of descriptors issued so far. -/
structure State where
  pending : List Instr
  fresh : Nat
  ctl : Sparse Nat
  mem : Sparse Byte
  evs : Events
  out : List Out
  host : HostSide
  sec : Security
  ras : Memories
  sync : Sync
  fab : Fabric
  power : Power
  boot : Boot
  slots : Sparse StreamSlot
  pegs : Sparse PegRec
  rems : Sparse Nat
  jobs : Sparse Job
  commits : Sparse CommitRec
  issued : Nat
  eng : Engines
  rel : Reliability
  deriving DecidableEq, Repr

/-- STR_CFG.PRIO of a slot at reset (R190): FWD 1, BWD 2, UPD 0, GEN 3. -/
def resetPrio (slot : Nat) : Nat := [1, 2, 0, 3].getD slot 0

/-- The register fields whose reset value depends on the member: STR_CFG.PRIO of the 64 slots, by the key of its field. -/
def resetCtl : Sparse Nat :=
  ((List.range 64).filter fun k => decide (resetPrio (k % 4) ≠ 0)).map fun k =>
    ((0x01F000000000 + 2 ^ 32 + k * 2 ^ 16) * 512 + 8, resetPrio (k % 4))

/-- The machine right after reset: every register at the value that its table gives (a dash, an owner's key and a link's address as
logs 5, 6 and 40 say), the module in service, every unit in service, nothing owned, no session open, no memory written, nothing in
the logbook. -/
def State.reset : State :=
  { pending := [], fresh := 0, ctl := resetCtl, mem := []
    evs := { nextSeq := 1, rings := [] }
    out := [], host := .initial, sec := .initial Config.ownerKey, ras := .initial [], sync := .initial, fab := .initial
    power := .initial, boot := .initial, slots := [], pegs := [], rems := [], jobs := [], commits := [], issued := 0
    eng := .initial, rel := .initial }

end Sys2Proof.Machine
end

