-- ==== Sys2Proof/Machine/Ops.lean ====
section
/-! DEFINITION. The named operations every meaning is built from: sparse maps, bit fields and bytes, register fields,
free values, location words, events, outputs. -/
namespace Sys2Proof.Machine

open Sys2Proof

/-! Sparse maps. -/

/-- The value at a key; an unlisted key reads as `d`. -/
def sget {β : Type} (d : β) : Sparse β → Nat → β
  | [], _ => d
  | (k, v) :: rest, key => if k = key then v else sget d rest key

/-- The map with `v` at `key`, in canonical form: storing `d` removes the entry. -/
def sset {β : Type} [DecidableEq β] (d : β) : Sparse β → Nat → β → Sparse β
  | [], key, v => if v = d then [] else [(key, v)]
  | (k, w) :: rest, key, v =>
    if key < k then (if v = d then (k, w) :: rest else (key, v) :: (k, w) :: rest)
    else if key = k then (if v = d then rest else (k, v) :: rest)
    else (k, w) :: sset d rest key v

/-- The map with every key from `lo` up to but not including `hi` back at its default. -/
def sclear {β : Type} (lo hi : Nat) (m : Sparse β) : Sparse β :=
  m.filter fun c => !(decide (lo ≤ c.1) && decide (c.1 < hi))

/-- Keys strictly rising. -/
def rising {β : Type} : Sparse β → Bool
  | [] => true
  | [_] => true
  | (a, _) :: (b, v) :: rest => decide (a < b) && rising ((b, v) :: rest)

/-- The canonical form: keys strictly rising and no entry equal to the default. -/
def swf {β : Type} [DecidableEq β] (d : β) (m : Sparse β) : Bool :=
  rising m && m.all fun c => decide (c.2 ≠ d)

/-! Numbers as bits and bytes. -/

/-- Bits `hi` down to `lo` of a number. -/
def bits (n hi lo : Nat) : Nat := (n >>> lo) % 2 ^ (hi + 1 - lo)

/-- One bit of a number. -/
def bit (n b : Nat) : Bool := n.testBit b

/-- A truth value as a bit. -/
def ofBool (b : Bool) : Nat := if b then 1 else 0

/-- `n` little-endian bytes of a number. -/
def toBytes : Nat → Nat → Bytes
  | 0, _ => []
  | n + 1, v => v % 256 :: toBytes n (v / 256)

/-- The number that little-endian bytes spell. -/
def ofBytes : Bytes → Nat
  | [] => 0
  | b :: rest => b + 256 * ofBytes rest

/-- A number whose fields are laid at the given byte offsets (the DETAIL of an event, R10). -/
def atBytes : List (Nat × Nat) → Nat
  | [] => 0
  | (off, v) :: rest => (v <<< (8 * off)) ||| atBytes rest

/-- Serial arithmetic (R16): `b` is newer than `a` on `w` bits. -/
def newer (w b a : Nat) : Bool :=
  let d := (b + 2 ^ w - a % 2 ^ w) % 2 ^ w
  decide (1 ≤ d) && decide (d ≤ 2 ^ (w - 1) - 1)

/-- The signed value of a `w`-bit number. -/
def signed (w n : Nat) : Int := if n % 2 ^ w < 2 ^ (w - 1) then (n % 2 ^ w : Nat) else (n % 2 ^ w : Nat) - (2 ^ w : Nat)

/-- The `w`-bit number of an integer. -/
def unsigned (w : Nat) (i : Int) : Nat := (i % (2 ^ w : Nat)).toNat

/-! Memory bytes by local address. What nothing has written reads as 0 (log 3). -/

/-- One byte of memory. -/
def State.byte (s : State) (a : Nat) : Nat := (sget 0#8 s.mem a).toNat

/-- A run of bytes. -/
def readBytes (m : Sparse Byte) : Nat → Nat → Bytes
  | _, 0 => []
  | a, n + 1 => (sget 0#8 m a).toNat :: readBytes m (a + 1) n

/-- Memory with a run of bytes stored. -/
def writeBytes (m : Sparse Byte) : Nat → Bytes → Sparse Byte
  | _, [] => m
  | a, b :: rest => writeBytes (sset 0#8 m a (BitVec.ofNat 8 b)) (a + 1) rest

/-- The little-endian number in `n` bytes of memory. -/
def State.num (s : State) (a n : Nat) : Nat := ofBytes (readBytes s.mem a n)

/-- The state with bytes stored at a local address. -/
def State.store (s : State) (a : Nat) (bs : Bytes) : State := { s with mem := writeBytes s.mem a bs }

/-- The state with a range of memory zeroed. -/
def State.zero (s : State) (lo hi : Nat) : State := { s with mem := sclear lo hi s.mem }

/-! Register fields (R36). -/

/-- Where control space begins. -/
def ctlBase : Nat := 0x01F000000000

/-- The control-space address of the word that holds member `m` of a field's register. -/
def Fld.addr (f : Fld) (inst m : Nat) : Nat := ctlBase + f.block * 2 ^ 32 + inst * 2 ^ 16 + f.off + 8 * f.words * m

/-- The key under which a field's value is kept. -/
def Fld.key (f : Fld) (inst m : Nat) : Nat := f.addr inst m * 512 + f.lo

/-- A field's value. -/
def State.fld (s : State) (f : Fld) (inst : Nat := 0) (m : Nat := 0) : Nat := sget 0 s.ctl (f.key inst m) ^^^ f.reset

/-- The state with a field set; bits beyond the field's width are dropped. -/
def State.setFld (s : State) (f : Fld) (v : Nat) (inst : Nat := 0) (m : Nat := 0) : State :=
  { s with ctl := sset 0 s.ctl (f.key inst m) ((v % 2 ^ f.width) ^^^ f.reset) }

/-- An accumulating counter (R15) raised by `n`. -/
def State.accum (s : State) (f : Fld) (n : Nat) (inst : Nat := 0) : State := s.setFld f (s.fld f inst + n) inst

/-- Every field of one instance of a block back at its reset value. -/
def State.resetBlock (s : State) (block inst : Nat) : State :=
  let a := ctlBase + block * 2 ^ 32 + inst * 2 ^ 16
  { s with ctl := sclear (a * 512) ((a + 2 ^ 16) * 512) s.ctl }

/-! Free values (log 2). -/

/-- The next free value below `n` (0 when `n` is 0), and the state that has drawn it. -/
def State.draw (s : State) (n : Nat) : Nat × State :=
  (Config.free s.fresh % n, { s with fresh := s.fresh + 1 })

/-- The first of `seed`, `seed + 1`, … (cyclic below `n`, 0 excluded) that is not in `used`, searched `fuel` far. -/
def freshNumber (n : Nat) (used : List Nat) : Nat → Nat → Nat
  | 0, seed => seed
  | fuel + 1, seed => if seed % n = 0 ∨ seed % n ∈ used then freshNumber n used fuel (seed % n + 1) else seed % n

/-! Location words (R11, R12). -/

/-- A location word. -/
def locWord (level uclass path : Nat) : Nat := level <<< 29 ||| uclass <<< 25 ||| path

/-- The die and camp bits of a camp. -/
def campBits (c : Nat) : Nat := (c / 8) <<< 24 ||| (c % 8) <<< 21

/-- The location of an engine, at level 3. -/
def locEngine (e : Nat) : Nat := locWord 3 0 (campBits (e / 8) ||| (e % 8) <<< 18)
/-- The location of a lane of an engine, at level 2. -/
def locLane (e l : Nat) : Nat := locWord 2 0 (campBits (e / 8) ||| (e % 8) <<< 18 ||| l <<< 10)
/-- The location of a cell of a lane, at level 1. -/
def locCell (e l c : Nat) : Nat := locWord 1 0 (campBits (e / 8) ||| (e % 8) <<< 18 ||| l <<< 10 ||| c <<< 2)
/-- The location of a camp in the compute chain. -/
def locCamp (c : Nat) : Nat := locWord 4 0 (campBits c)
/-- The location of a Peg core. -/
def locPeg (p : Nat) : Nat := locWord 4 1 (campBits (p / 4) ||| (p % 4) <<< 19)
/-- The location of a vector engine. -/
def locVector (c : Nat) : Nat := locWord 4 2 (campBits c)
/-- The location of a stream slot, numbered camp * 4 + slot. -/
def locSlot (k : Nat) : Nat := locWord 4 3 (campBits (k / 4) ||| (k % 4) <<< 19)
/-- The location of a physical pseudo-channel. -/
def locPc (n : Nat) : Nat := locWord 6 4 ((n / 256) <<< 24 ||| (n / 64 % 4) <<< 21 ||| (n % 64) <<< 15)
/-- The location of a Shelf bank. -/
def locBank (die bank : Nat) : Nat := locWord 5 5 (die <<< 24 ||| bank <<< 14)
/-- The location of a Tideway port. -/
def locPort (n : Nat) : Nat := locWord 7 6 (n <<< 19)
/-- The location of a host port. -/
def locHost (n : Nat) : Nat := locWord 7 7 (n <<< 24)
/-- The location of a guyline. -/
def locGuy (g : Nat) : Nat := locWord 7 8 (g <<< 20)
/-- The location of a tally. -/
def locTally (c t : Nat) : Nat := locWord 4 9 (campBits c ||| t <<< 11)
/-- The location of a Harbour block. -/
def locHarbour (b : Nat) : Nat := locWord 5 0xA b
/-- The location of a carrier part. -/
def locCarrier (n : Nat) : Nat := locWord 0 0xB n
/-- The package. -/
def locPackage : Nat := locWord 7 0 0
/-- A headland. -/
def locHeadland (h : Nat) : Nat := locWord 6 0 (h <<< 24)

/-! Events (R10, R391, R526). -/

/-- How many records a pitch's ring holds (R391). -/
def ringCap (p : Nat) : Nat := if p = 0 then 16384 else 4096

/-- A ring with a record added; a full ring loses its oldest. -/
def Ring.push (r : Ring) (cap : Nat) (e : Event) : Ring :=
  if r.recs.length < cap then { r with recs := r.recs ++ [e] }
  else { first := r.first + 1, recs := r.recs.drop 1 ++ [e] }

/-- The empty ring. -/
def Ring.empty : Ring := { first := 0, recs := [] }

/-- The number after a SEQ (R526): 0 is never used. -/
def nextEventSeq (n : Nat) : Nat := if (n + 1) % 2 ^ 64 = 0 then 1 else (n + 1) % 2 ^ 64

/-- The events with one more record. -/
def Events.add (v : Events) (code severity pitch location detail : Nat) : Events :=
  let e : Event := { code := code, severity := severity, pitch := pitch, location := location, seq := v.nextSeq, detail := detail }
  { nextSeq := nextEventSeq v.nextSeq
    rings := sset Ring.empty v.rings pitch ((sget Ring.empty v.rings pitch).push (ringCap pitch) e) }

/-- The state that has raised an event with its code's own severity. -/
def State.event (s : State) (code pitch location : Nat) (detail : Nat := 0) : State :=
  { s with evs := s.evs.add code (Code.severity code) pitch location detail }

/-- The state that has sent something. -/
def State.send (s : State) (o : Out) : State := { s with out := o :: s.out }

end Sys2Proof.Machine
end

