-- ==== Sys2Proof/Decode.lean ====
section
/-! DEFINITION. The reading of words. The spec's table gives no row any bits; the one encoding of commands that the spec gives is that of
the Xpeg instructions (R271, R272), which this file holds as the table of R272 (log 1, 10). -/
namespace Sys2Proof

open Sys2Proof.Machine

/-- A row of R272: opcode, funct3, funct7, whether rd and rs2 must be 0, and the command that it makes of a core, the number of rd and
the values of rs1 and rs2. -/
structure XpegRow where
  opcode : Nat
  funct3 : Nat
  funct7 : Nat
  noRd : Bool
  noRs2 : Bool
  make : PegCore → Fin 32 → BitVec 64 → BitVec 64 → Instr

/-- The custom-0, custom-1 and custom-2 opcodes (R271). -/
def custom0 : Nat := 0b0001011
def custom1 : Nat := 0b0101011
def custom2 : Nat := 0b1011011

/-- The table of R272. -/
def xpegRows : List XpegRow :=
  [ ⟨custom0, 0b000, 0, true, false, fun c _ a b => .plSig c a b⟩,
    ⟨custom0, 0b001, 0, false, false, fun c rd a b => .plWait c rd a b⟩,
    ⟨custom0, 0b010, 0, false, false, fun c rd a b => .plTrywait c rd a b⟩,
    ⟨custom0, 0b011, 0, true, false, fun c _ a b => .plTake c a b⟩,
    ⟨custom0, 0b100, 0, false, true, fun c rd a _ => .plTread c rd a⟩,
    ⟨custom0, 0b101, 0, false, true, fun c rd a _ => .plBar c rd a⟩,
    ⟨custom0, 0b110, 0, false, true, fun c rd a _ => .plWfence c rd a⟩,
    ⟨custom1, 0b000, 0, false, false, fun c rd a b => .plStart c rd a b⟩,
    ⟨custom1, 0b001, 0, false, true, fun c rd a _ => .plSstat c rd a⟩,
    ⟨custom2, 0b000, 0, false, true, fun c rd a _ => .plBf16 c rd a⟩,
    ⟨custom2, 0b001, 0, false, false, fun c rd a b => .plE2m1 c rd a b⟩,
    ⟨custom2, 0b010, 0, false, false, fun c rd a b => .plSpd c rd false a b⟩,
    ⟨custom2, 0b010, 1, false, false, fun c rd a b => .plSpd c rd true a b⟩ ]

/-- Whether a word is one of a row: its opcode, funct3 and funct7, and 0 in the register fields that must be 0 (R271). -/
def XpegRow.takes (r : XpegRow) (w : Nat) : Bool :=
  bits w 6 0 == r.opcode && bits w 14 12 == r.funct3 && bits w 31 25 == r.funct7 && !(r.noRd && bits w 11 7 != 0)
    && !(r.noRs2 && bits w 24 20 != 0)

/-- The command of an instruction word on a core whose rs1 and rs2 hold given values; none for a word that R272 does not list. -/
def xpegInstr (core : PegCore) (rs1 rs2 : BitVec 64) (w : Nat) : Option Instr :=
  (xpegRows.find? fun r => r.takes w).map fun r => r.make core (Fin.ofNat 32 (bits w 11 7)) rs1 rs2

/-- The command that a word spells: a 32-bit word an Xpeg instruction, taken as Peg core 0 with zeros in its source registers, since a
word names neither (log 10). -/
def decodeTableWord (nbits w : Nat) : Option Instr := if nbits = 32 then xpegInstr 0 0 0 w else none

end Sys2Proof
end

