-- ==== Sys2Proof/Machine/Crypto.lean ====
section
/-! DEFINITION. The published functions that the manual's results are built from: SHAKE256 (FIPS 202), AES-256 (FIPS 197)
and the Spindrift generator over them (R479). PRESUMED from the standards that the manual names (log 7). -/
namespace Sys2Proof.Machine

open Sys2Proof

/-! SHAKE256. -/

/-- A 64-bit word turned left. -/
def rotl64 (x n : Nat) : Nat := (x <<< (n % 64) ||| x >>> (64 - n % 64)) % 2 ^ 64

/-- The rotation offsets of rho by lane x + 5 * y. -/
def rhoOffsets : List Nat := [0, 1, 62, 28, 27, 36, 44, 6, 55, 20, 3, 10, 43, 25, 39, 41, 45, 15, 21, 8, 18, 2, 61, 56, 14]

/-- The round constants of iota. -/
def iotaConstants : List Nat :=
  [0x0000000000000001, 0x0000000000008082, 0x800000000000808A, 0x8000000080008000, 0x000000000000808B, 0x0000000080000001,
   0x8000000080008081, 0x8000000000008009, 0x000000000000008A, 0x0000000000000088, 0x0000000080008009, 0x000000008000000A,
   0x000000008000808B, 0x800000000000008B, 0x8000000000008089, 0x8000000000008003, 0x8000000000008002, 0x8000000000000080,
   0x000000000000800A, 0x800000008000000A, 0x8000000080008081, 0x8000000000008080, 0x0000000080000001, 0x8000000080008008]

/-- One lane of a Keccak state of 25 lanes. -/
def lane (a : List Nat) (x y : Nat) : Nat := a.getD (x % 5 + 5 * (y % 5)) 0

/-- A state built lane by lane. -/
def lanes (f : Nat → Nat → Nat) : List Nat := (List.range 25).map fun i => f (i % 5) (i / 5)

/-- One round of Keccak-f[1600]. -/
def keccakRound (a : List Nat) (rc : Nat) : List Nat :=
  let c := (List.range 5).map fun x => lane a x 0 ^^^ lane a x 1 ^^^ lane a x 2 ^^^ lane a x 3 ^^^ lane a x 4
  let d := (List.range 5).map fun x => c.getD ((x + 4) % 5) 0 ^^^ rotl64 (c.getD ((x + 1) % 5) 0) 1
  let t := lanes fun x y => lane a x y ^^^ d.getD x 0
  let b := lanes fun x y =>
    let sx := (x + 3 * y) % 5
    rotl64 (lane t sx x) (rhoOffsets.getD (sx + 5 * x) 0)
  let e := lanes fun x y => lane b x y ^^^ ((2 ^ 64 - 1 - lane b (x + 1) y) &&& lane b (x + 2) y)
  match e with
  | [] => []
  | h :: rest => (h ^^^ rc) :: rest

/-- Keccak-f[1600]. -/
def keccak (a : List Nat) : List Nat := iotaConstants.foldl keccakRound a

/-- One block of 136 bytes absorbed. -/
def absorb (a : List Nat) (block : Bytes) : List Nat :=
  keccak (lanes fun x y => lane a x y ^^^ ofBytes ((block.drop (8 * (x + 5 * y))).take 8))

/-- The message in blocks, the last padded for SHAKE. -/
def absorbAll : Nat → List Nat → Bytes → List Nat
  | 0, a, _ => a
  | fuel + 1, a, m =>
    if 136 ≤ m.length then absorbAll fuel (absorb a (m.take 136)) (m.drop 136)
    else
      let n := 136 - m.length
      absorb a (if n = 1 then m ++ [0x9F] else m ++ [0x1F] ++ List.replicate (n - 2) 0 ++ [0x80])

/-- Bytes squeezed from a state, up to 136 per permutation. -/
def squeeze : Nat → List Nat → Nat → Bytes
  | 0, _, _ => []
  | fuel + 1, a, n =>
    let block := ((a.take 17).flatMap (toBytes 8)).take n
    if n ≤ 136 then block else block ++ squeeze fuel (keccak a) (n - 136)

/-- SHAKE256 of a message, `n` bytes of output. -/
def shake256 (m : Bytes) (n : Nat) : Bytes :=
  squeeze (n / 136 + 1) (absorbAll (m.length / 136 + 1) (List.replicate 25 0) m) n

/-- The bytes of an ASCII label. -/
def ascii (s : String) : Bytes := s.toList.map fun c => c.toNat

/-! AES-256. -/

/-- Multiplication in the field of AES. -/
def aesMulFrom : Nat → Nat → Nat → Nat
  | 0, _, _ => 0
  | fuel + 1, a, b =>
    (if b % 2 = 1 then a else 0) ^^^ aesMulFrom fuel (if a < 128 then 2 * a else (2 * a) ^^^ 0x11B) (b / 2)

/-- Multiplication in the field of AES. -/
def aesMul (a b : Nat) : Nat := aesMulFrom 8 a b

/-- The inverse in the field of AES (0 for 0): the 254th power. -/
def aesInv (a : Nat) : Nat :=
  let a2 := aesMul a a
  let a4 := aesMul a2 a2
  let a8 := aesMul a4 a4
  let a16 := aesMul a8 a8
  let a32 := aesMul a16 a16
  let a64 := aesMul a32 a32
  let a128 := aesMul a64 a64
  aesMul a128 (aesMul a64 (aesMul a32 (aesMul a16 (aesMul a8 (aesMul a4 a2)))))

/-- A byte turned left. -/
def rotl8 (x n : Nat) : Nat := (x <<< n ||| x >>> (8 - n)) % 256

/-- The S-box of AES. -/
def aesSub (a : Nat) : Nat :=
  let v := aesInv a
  v ^^^ rotl8 v 1 ^^^ rotl8 v 2 ^^^ rotl8 v 3 ^^^ rotl8 v 4 ^^^ 0x63

/-- The words of the key schedule, newest first, each as four bytes. -/
def aesExpand (key : List Bytes) : Nat → List Bytes
  | 0 => key
  | n + 1 =>
    let w := aesExpand key n
    let i := n + 8
    let prev := w.getD 0 []
    let t :=
      if i % 8 = 0 then
        let r := (prev.drop 1 ++ prev.take 1).map aesSub
        match r with
        | [] => []
        | h :: rest => (h ^^^ 2 ^ (i / 8 - 1)) :: rest
      else if i % 8 = 4 then prev.map aesSub
      else prev
    List.zipWith (· ^^^ ·) (w.getD 7 []) t :: w

/-- The round keys, 15 of 16 bytes. -/
def aesKeys (key : Bytes) : List Bytes :=
  let words := (aesExpand ((List.range 8).reverse.map fun i => (key.drop (4 * i)).take 4) 52).reverse
  (List.range 15).map fun r => ((words.drop (4 * r)).take 4).flatten

/-- ShiftRows. -/
def aesShift (s : Bytes) : Bytes := (List.range 16).map fun i => s.getD ((i + 4 * (i % 4)) % 16) 0

/-- MixColumns. -/
def aesMix (s : Bytes) : Bytes :=
  (List.range 16).map fun i =>
    let c := i / 4 * 4
    let g (j : Nat) : Nat := s.getD (c + (i + j) % 4) 0
    aesMul 2 (g 0) ^^^ aesMul 3 (g 1) ^^^ g 2 ^^^ g 3

/-- AES-256 encryption of 16 bytes. -/
def aes256 (key block : Bytes) : Bytes :=
  match aesKeys key with
  | [] => []
  | k0 :: rest =>
    let s := List.zipWith (· ^^^ ·) block k0
    let mid := (rest.take 13).foldl (fun st k => List.zipWith (· ^^^ ·) (aesMix (aesShift (st.map aesSub))) k) s
    List.zipWith (· ^^^ ·) (aesShift (mid.map aesSub)) (rest.getD 13 [])

/-! AES-256-GCM (R349, R372, SP 800-38D), with a nonce of 96 bits. Blocks are numbers whose first byte is the highest. -/

/-- Bytes as a number, the first byte highest. -/
def ofBytesBe (bs : Bytes) : Nat := ofBytes bs.reverse

/-- A number in `n` bytes, the highest first. -/
def toBytesBe (n x : Nat) : Bytes := (toBytes n x).reverse

/-- The product in the field of GHASH, from the `n` low bits of `x` and the multiple `v` of the other factor. -/
def ghashMulFrom : Nat → Nat → Nat → Nat
  | 0, _, _ => 0
  | n + 1, x, v =>
    (if x.testBit n then v else 0) ^^^ ghashMulFrom n x (v / 2 ^^^ (if v % 2 = 1 then 0xE1 <<< 120 else 0))

/-- Bytes in blocks of 16, the last filled with zeros. -/
def gcmBlocks (bs : Bytes) : List Nat :=
  (List.range ((bs.length + 15) / 16)).map fun i => ofBytesBe (((bs.drop (16 * i)).take 16 ++ List.replicate 15 0).take 16)

/-- GHASH of blocks under a hash key. -/
def ghash (h : Nat) (blocks : List Nat) : Nat := blocks.foldl (fun y x => ghashMulFrom 128 (y ^^^ x) h) 0

/-- The key stream's block `n` under a nonce: n is 1 for the tag, 2 on for the text. -/
def gcmBlock (key nonce : Bytes) (n : Nat) : Bytes := aes256 key (nonce ++ toBytesBe 4 n)

/-- The ciphertext of a text. -/
def gcmText (key nonce text : Bytes) : Bytes :=
  List.zipWith (· ^^^ ·) text ((List.range ((text.length + 15) / 16)).flatMap fun i => gcmBlock key nonce (i + 2))

/-- The 16-byte tag of a ciphertext and its additional data. -/
def gcmTag (key nonce aad cipher : Bytes) : Bytes :=
  let h := ofBytesBe (aes256 key (List.replicate 16 0))
  let lens := (8 * aad.length) <<< 64 ||| 8 * cipher.length
  toBytesBe 16 (ghash h (gcmBlocks aad ++ gcmBlocks cipher ++ [lens]) ^^^ ofBytesBe (gcmBlock key nonce 1))

/-- A text sealed: its ciphertext, then the tag. -/
def gcmSeal (key nonce aad text : Bytes) : Bytes :=
  let c := gcmText key nonce text
  c ++ gcmTag key nonce aad c

/-! CRC-32 (IEEE 802.3), the bits of each byte from the lowest. -/

/-- Eight steps of the register. -/
def crcByte : Nat → Nat → Nat
  | 0, c => c
  | n + 1, c => crcByte n (c / 2 ^^^ (if c % 2 = 1 then 0xEDB88320 else 0))

/-- The CRC-32 of bytes. -/
def crc32 (bs : Bytes) : Nat := bs.foldl (fun c b => crcByte 8 (c ^^^ b % 256)) 0xFFFFFFFF ^^^ 0xFFFFFFFF

/-! AES-256-XTS (R314, IEEE 1619). -/

/-- A tweak times the primitive element of GF(2^128) on x^128 + x^7 + x^2 + x + 1. -/
def xtsDouble (t : Nat) : Nat := (2 * t) % 2 ^ 128 ^^^ (if t < 2 ^ 127 then 0 else 0x87)

/-- The blocks of a data unit from a tweak on. -/
def xtsBlocks (key : Bytes) : Nat → Nat → Bytes → Bytes
  | 0, _, _ => []
  | n + 1, t, bs =>
    let tw := toBytes 16 t
    List.zipWith (· ^^^ ·) (aes256 key (List.zipWith (· ^^^ ·) (bs.take 16) tw)) tw ++ xtsBlocks key n (xtsDouble t) (bs.drop 16)

/-- The ciphertext of a data unit of whole 16-byte blocks under a 512-bit key, its data half first, and a data unit number. -/
def xts (key unit : Nat) (plain : Bytes) : Bytes :=
  let k := toBytes 64 key
  xtsBlocks (k.take 32) (plain.length / 16) (ofBytes (aes256 (k.drop 32) (toBytes 16 unit))) plain

/-! The identity key (R443, R453). -/

/-- The identity key's seed (R443). -/
def identitySeed : Nat := ofBytes (shake256 (ascii "PL480IDK" ++ toBytes 64 Config.deviceSecret) 57)

/-- The identity public key, 57 bytes as a number. -/
def identityKey : Nat := Config.ed448Public identitySeed

/-- A signature by the identity key, 114 bytes. -/
def identitySign (context message : Bytes) : Bytes := toBytes 114 (Config.ed448Sign identitySeed context message)

/-- The identity key's certificate (R453): the public key, the module serial, the root key's identifier, the root's signature over them. -/
def certificate : Bytes :=
  let head := toBytes 57 identityKey ++ toBytes 8 Config.serial ++ shake256 (toBytes 57 Config.rootKey) 32
  head ++ toBytes 114 (Config.certificateSign head)

/-! Spindrift (R479, R480). -/

/-- The Spindrift output of a stream at a counter, under a pitch's Spindrift key. -/
def spindrift (key stream counter : Nat) : Nat :=
  let k := shake256 (ascii "PL480SPN" ++ toBytes 32 key ++ toBytes 2 stream) 32
  ofBytes (aes256 k (toBytes 16 counter))

/-- An element-addressed counter (R230, R481): [111:96] the tensor's tag, [95:64] the step, [63:0] the element's index. -/
def elementCounter (tensor step index : Nat) : Nat := (tensor % 2 ^ 16) <<< 96 ||| (step % 2 ^ 32) <<< 64 ||| index % 2 ^ 64

/-- Whether a mask of probability `k` ÷ 65,536 keeps element `i` (R482): piece i mod 8 of the output at the counter of index i div 8 is
below `k`. -/
def maskKeeps (key stream tensor step k i : Nat) : Bool :=
  decide (bits (spindrift key stream (elementCounter tensor step (i / 8))) (16 * (i % 8) + 15) (16 * (i % 8)) < k)

/-- The counter of draw `n` of a global vector lane in the lane-streamed mode (R481). -/
def laneCounter (lane n : Nat) : Nat := lane * 2 ^ 80 + n

/-- The 64 signs of a site, true for −1 (R82). -/
def siteSigns (seed site : Nat) : List Bool :=
  let v := ofBytes (shake256 (ascii "PL480ROT" ++ toBytes 32 seed ++ toBytes 2 site) 8)
  (List.range 64).map v.testBit

end Sys2Proof.Machine
end

