-- ==== Sys2Proof/Machine/Regs.lean ====
section
/-! DEFINITION. The registers of control space, field by field, as the chapters' register tables give them, each at
the block and offset that R36 computes from the order in which the manual first lists the registers. A field whose name
ends in its register's own name is that register's one counter. The reset of STR_CFG.PRIO depends on
the slot and stands in State.reset. HBM_HASH_KEY, which each start-up draws, has the smallest key that R308 allows (log 115).
SEC_OWNER_KEY (log 6) and the dashes of SEC_LOG_* (log 5) stand as 0 here. -/
namespace Sys2Proof.Machine.Reg

/-! R75 -/
def CNV_NAN_OUT : Fld := ⟨0, 0x0, 1, 1, 0, 32, .sat, 0⟩
def CNV_OVF_OUT : Fld := ⟨0, 0x8, 1, 1, 0, 32, .sat, 0⟩
def CNV_POISON_IN : Fld := ⟨0, 0x10, 1, 1, 0, 32, .sat, 0⟩
def CNV_STAT_SAT_POISON_SAT : Fld := ⟨0, 0x18, 1, 1, 2, 1, .w1c, 0⟩
def CNV_STAT_SAT_OVF_SAT : Fld := ⟨0, 0x18, 1, 1, 1, 1, .w1c, 0⟩
def CNV_STAT_SAT_NAN_SAT : Fld := ⟨0, 0x18, 1, 1, 0, 1, .w1c, 0⟩

/-! R103 -/
def LAD_LIMITS_CLIMB : Fld := ⟨2, 0x0, 8, 1, 48, 16, .rw, 64⟩
def LAD_LIMITS_SITE_DESCEND : Fld := ⟨2, 0x0, 8, 1, 40, 1, .rw, 1⟩
def LAD_LIMITS_STILE_MAX : Fld := ⟨2, 0x0, 8, 1, 33, 7, .rw, 0⟩
def LAD_LIMITS_ZTILE_MAX : Fld := ⟨2, 0x0, 8, 1, 26, 7, .rw, 4⟩
def LAD_LIMITS_SELEM_MAX : Fld := ⟨2, 0x0, 8, 1, 13, 13, .rw, 16⟩
def LAD_LIMITS_ZELEM_MAX : Fld := ⟨2, 0x0, 8, 1, 0, 13, .rw, 512⟩

/-! R106 -/
def LAD_ZELEM : Fld := ⟨0, 0x20, 1, 1, 0, 32, .sat, 0⟩
def LAD_SELEM : Fld := ⟨0, 0x28, 1, 1, 0, 32, .sat, 0⟩
def LAD_ZTILE : Fld := ⟨0, 0x30, 1, 1, 0, 32, .sat, 0⟩
def LAD_STILE : Fld := ⟨0, 0x38, 1, 1, 0, 32, .sat, 0⟩
def LAD_TRIPS : Fld := ⟨0, 0x40, 1, 1, 0, 32, .sat, 0⟩
def LAD_FLOOR : Fld := ⟨0, 0x48, 1, 1, 0, 32, .sat, 0⟩
def LAD_HELD : Fld := ⟨0, 0x50, 1, 1, 0, 32, .sat, 0⟩
def LAD_PARTNER : Fld := ⟨0, 0x58, 1, 1, 0, 32, .sat, 0⟩
def LAD_PREPASS : Fld := ⟨0, 0x60, 1, 1, 0, 32, .sat, 0⟩
def LAD_STAT_SAT_PREPASS_SAT : Fld := ⟨0, 0x68, 1, 1, 8, 1, .w1c, 0⟩
def LAD_STAT_SAT_PARTNER_SAT : Fld := ⟨0, 0x68, 1, 1, 7, 1, .w1c, 0⟩
def LAD_STAT_SAT_HELD_SAT : Fld := ⟨0, 0x68, 1, 1, 6, 1, .w1c, 0⟩
def LAD_STAT_SAT_FLOOR_SAT : Fld := ⟨0, 0x68, 1, 1, 5, 1, .w1c, 0⟩
def LAD_STAT_SAT_TRIPS_SAT : Fld := ⟨0, 0x68, 1, 1, 4, 1, .w1c, 0⟩
def LAD_STAT_SAT_STILE_SAT : Fld := ⟨0, 0x68, 1, 1, 3, 1, .w1c, 0⟩
def LAD_STAT_SAT_ZTILE_SAT : Fld := ⟨0, 0x68, 1, 1, 2, 1, .w1c, 0⟩
def LAD_STAT_SAT_SELEM_SAT : Fld := ⟨0, 0x68, 1, 1, 1, 1, .w1c, 0⟩
def LAD_STAT_SAT_ZELEM_SAT : Fld := ⟨0, 0x68, 1, 1, 0, 1, .w1c, 0⟩

/-! R140 -/
def BRK_CFG_PARK_AFTER : Fld := ⟨0, 0x70, 1, 1, 16, 16, .rw, 1024⟩
def BRK_CFG_RUNNEL_EN : Fld := ⟨0, 0x70, 1, 1, 0, 1, .rw, 1⟩
def BRK_STATUS_PLOT_BUSY : Fld := ⟨0, 0x78, 1, 1, 16, 16, .ro, 0⟩
def BRK_STATUS_PLOT_MODE : Fld := ⟨0, 0x78, 1, 1, 14, 2, .ro, 0⟩
def BRK_STATUS_MARGIN_OK : Fld := ⟨0, 0x78, 1, 1, 13, 1, .ro, 0⟩
def BRK_STATUS_MARGIN_REQ : Fld := ⟨0, 0x78, 1, 1, 12, 1, .ro, 0⟩
def BRK_STATUS_GROUPS_ON : Fld := ⟨0, 0x78, 1, 1, 7, 5, .ro, 0⟩
def BRK_STATUS_STATE : Fld := ⟨0, 0x78, 1, 1, 0, 4, .ro, 0⟩
def BRK_FRZ_TOTAL : Fld := ⟨0, 0x80, 1, 1, 0, 32, .sat, 0⟩
def BRK_FRZ_FEED_A : Fld := ⟨0, 0x88, 1, 1, 0, 32, .sat, 0⟩
def BRK_FRZ_FEED_B : Fld := ⟨0, 0x90, 1, 1, 0, 32, .sat, 0⟩
def BRK_FRZ_REQ : Fld := ⟨0, 0x98, 1, 1, 0, 32, .sat, 0⟩
def BRK_FRZ_DRAIN : Fld := ⟨0, 0xA0, 1, 1, 0, 32, .sat, 0⟩
def BRK_PARKS : Fld := ⟨0, 0xA8, 1, 1, 0, 32, .sat, 0⟩
def BRK_RNL_STALL : Fld := ⟨0, 0xB0, 1, 1, 0, 32, .sat, 0⟩
def BRK_MARGIN_DENIED : Fld := ⟨0, 0xB8, 1, 1, 0, 32, .sat, 0⟩
def BRK_FRZ_LANE : Fld := ⟨0, 0xC0, 256, 1, 0, 32, .sat, 0⟩
def BRK_ADV_CYC : Fld := ⟨0, 0x8C0, 1, 1, 0, 64, .ro, 0⟩
def BRK_RNL_CYC : Fld := ⟨0, 0x8C8, 1, 1, 0, 64, .ro, 0⟩
def BRK_STAT_SAT_MARGIN_SAT : Fld := ⟨0, 0x8D0, 1, 1, 7, 1, .w1c, 0⟩
def BRK_STAT_SAT_RNL_STALL_SAT : Fld := ⟨0, 0x8D0, 1, 1, 6, 1, .w1c, 0⟩
def BRK_STAT_SAT_PARKS_SAT : Fld := ⟨0, 0x8D0, 1, 1, 5, 1, .w1c, 0⟩
def BRK_STAT_SAT_DRAIN_SAT : Fld := ⟨0, 0x8D0, 1, 1, 4, 1, .w1c, 0⟩
def BRK_STAT_SAT_REQ_SAT : Fld := ⟨0, 0x8D0, 1, 1, 3, 1, .w1c, 0⟩
def BRK_STAT_SAT_FEED_B_SAT : Fld := ⟨0, 0x8D0, 1, 1, 2, 1, .w1c, 0⟩
def BRK_STAT_SAT_FEED_A_SAT : Fld := ⟨0, 0x8D0, 1, 1, 1, 1, .w1c, 0⟩
def BRK_STAT_SAT_TOTAL_SAT : Fld := ⟨0, 0x8D0, 1, 1, 0, 1, .w1c, 0⟩
def BRK_LANE_SAT_LANE_SAT : Fld := ⟨0, 0x8D8, 8, 1, 0, 32, .w1c, 0⟩

/-! R161 -/
def DTM_LOSS : Fld := ⟨0, 0x918, 1, 1, 0, 32, .sat, 0⟩
def DTM_WIN_LOSS : Fld := ⟨0, 0x920, 1, 1, 0, 32, .sat, 0⟩
def DTM_SPECIAL : Fld := ⟨0, 0x928, 1, 1, 0, 32, .sat, 0⟩
def DTM_PASS_CYC : Fld := ⟨0, 0x930, 1, 1, 0, 64, .ro, 0⟩
def DTM_SLICES_LAST_B : Fld := ⟨0, 0x938, 1, 1, 16, 16, .ro, 0⟩
def DTM_SLICES_LAST_A : Fld := ⟨0, 0x938, 1, 1, 0, 16, .ro, 0⟩
def DTM_STAT_SAT_SPECIAL_SAT : Fld := ⟨0, 0x940, 1, 1, 2, 1, .w1c, 0⟩
def DTM_STAT_SAT_WIN_LOSS_SAT : Fld := ⟨0, 0x940, 1, 1, 1, 1, .w1c, 0⟩
def DTM_STAT_SAT_LOSS_SAT : Fld := ⟨0, 0x940, 1, 1, 0, 1, .w1c, 0⟩

/-! R190 -/
def STR_CFG_PRIO : Fld := ⟨1, 0x0, 1, 1, 8, 2, .rw, 0⟩
def STR_CFG_WAIT_LOG2 : Fld := ⟨1, 0x0, 1, 1, 0, 5, .rw, 30⟩
def STR_STATUS_INFLIGHT : Fld := ⟨1, 0x8, 1, 1, 8, 6, .ro, 0⟩
def STR_STATUS_QUEUED : Fld := ⟨1, 0x8, 1, 1, 4, 3, .ro, 0⟩
def STR_STATUS_CHAIN : Fld := ⟨1, 0x8, 1, 1, 3, 1, .ro, 0⟩
def STR_STATUS_STATE : Fld := ⟨1, 0x8, 1, 1, 0, 3, .ro, 0⟩
def STR_POS_INDEX : Fld := ⟨1, 0x10, 1, 1, 0, 32, .ro, 0⟩
def STR_HALT_CODE : Fld := ⟨1, 0x18, 1, 1, 48, 16, .ro, 0⟩
def STR_HALT_INDEX : Fld := ⟨1, 0x18, 1, 1, 0, 32, .ro, 0⟩
def STR_DESC_DONE : Fld := ⟨1, 0x20, 1, 1, 0, 64, .ro, 0⟩
def STR_BLOCKED_CYC : Fld := ⟨1, 0x28, 1, 1, 0, 64, .ro, 0⟩
def STR_FAULTS : Fld := ⟨1, 0x30, 1, 1, 0, 32, .sat, 0⟩
def STR_STAT_SAT_FAULTS_SAT : Fld := ⟨1, 0x38, 1, 1, 0, 1, .w1c, 0⟩

/-! R191 -/
def STH_CFG_REKEEP : Fld := ⟨3, 0x0, 1, 1, 0, 1, .rw, 1⟩
def STH_BASE_BASE : Fld := ⟨3, 0x8, 1, 1, 0, 48, .rw, 0⟩
def STH_GRANULES : Fld := ⟨3, 0x10, 1, 1, 0, 16, .rw, 0⟩
def STH_FIRST_RESERVE : Fld := ⟨3, 0x18, 1, 1, 0, 16, .rw, 0⟩
def STH_FREE : Fld := ⟨3, 0x20, 1, 1, 0, 16, .ro, 0⟩
def STH_ENTRIES : Fld := ⟨3, 0x28, 1, 1, 0, 13, .ro, 0⟩
def STH_NOTKEPT : Fld := ⟨3, 0x30, 1, 1, 0, 32, .sat, 0⟩
def STH_REKEPT : Fld := ⟨3, 0x38, 1, 1, 0, 32, .sat, 0⟩
def STH_CHAIN_BLOCKS : Fld := ⟨3, 0x40, 1, 1, 0, 32, .sat, 0⟩
def STH_PUT_4K : Fld := ⟨3, 0x48, 1, 1, 0, 64, .ro, 0⟩
def STH_STAT_SAT_CHAIN_SAT : Fld := ⟨3, 0x50, 1, 1, 2, 1, .w1c, 0⟩
def STH_STAT_SAT_REKEPT_SAT : Fld := ⟨3, 0x50, 1, 1, 1, 1, .w1c, 0⟩
def STH_STAT_SAT_NOTKEPT_SAT : Fld := ⟨3, 0x50, 1, 1, 0, 1, .w1c, 0⟩

/-! R219 -/
def GS_ADD_4K : Fld := ⟨3, 0x58, 1, 1, 0, 64, .ro, 0⟩
def GS_HELD : Fld := ⟨3, 0x60, 1, 1, 0, 32, .sat, 0⟩
def GS_STALE : Fld := ⟨3, 0x68, 1, 1, 0, 32, .sat, 0⟩
def GS_STAT_SAT_STALE_SAT : Fld := ⟨3, 0x70, 1, 1, 1, 1, .w1c, 0⟩
def GS_STAT_SAT_HELD_SAT : Fld := ⟨3, 0x70, 1, 1, 0, 1, .w1c, 0⟩

/-! R240 -/
def CMT_CFG_VOTE_TO : Fld := ⟨3, 0x78, 1, 1, 48, 16, .rw, 100⟩
def CMT_CFG_DECIDE_TO : Fld := ⟨3, 0x78, 1, 1, 32, 16, .rw, 100⟩
def CMT_CFG_QUERY_ROUNDS : Fld := ⟨3, 0x78, 1, 1, 24, 8, .rw, 3⟩
def CMT_CFG_NONFINITE_ABORT : Fld := ⟨3, 0x78, 1, 1, 0, 1, .rw, 1⟩
def CMT_STRIDE_STRIDE : Fld := ⟨3, 0x80, 1, 1, 0, 48, .rw, 0⟩
def CMT_STATUS_STEP : Fld := ⟨3, 0x88, 1, 1, 32, 32, .ro, 0⟩
def CMT_STATUS_ATTEMPT : Fld := ⟨3, 0x88, 1, 1, 24, 8, .ro, 0⟩
def CMT_STATUS_STATE : Fld := ⟨3, 0x88, 1, 1, 20, 4, .ro, 0⟩
def CMT_STATUS_BANK : Fld := ⟨3, 0x88, 1, 1, 0, 1, .ro, 0⟩
def CMT_COMMITS : Fld := ⟨3, 0x90, 1, 1, 0, 64, .ro, 0⟩
def CMT_ABORTS : Fld := ⟨3, 0x98, 1, 1, 0, 32, .sat, 0⟩
def CMT_INDOUBT : Fld := ⟨3, 0xA0, 1, 1, 0, 32, .sat, 0⟩
def CMT_STAT_SAT_INDOUBT_SAT : Fld := ⟨3, 0xA8, 1, 1, 1, 1, .w1c, 0⟩
def CMT_STAT_SAT_ABORTS_SAT : Fld := ⟨3, 0xA8, 1, 1, 0, 1, .w1c, 0⟩
def UPD_NONFINITE : Fld := ⟨2, 0x40, 1, 1, 0, 32, .sat, 0⟩
def UPD_SR_CLAMP : Fld := ⟨2, 0x48, 1, 1, 0, 32, .sat, 0⟩
def UPD_STAT_SAT_CLAMP_SAT : Fld := ⟨2, 0x50, 1, 1, 1, 1, .w1c, 0⟩
def UPD_STAT_SAT_NONFINITE_SAT : Fld := ⟨2, 0x50, 1, 1, 0, 1, .w1c, 0⟩

/-! R286 -/
def GUY_CFG_FABRIC : Fld := ⟨7, 0x0, 1, 1, 28, 1, .rw, 0⟩
def GUY_CFG_LOCAL_N : Fld := ⟨7, 0x0, 1, 1, 24, 4, .rw, 1⟩
def GUY_CFG_CAMP_MASK : Fld := ⟨7, 0x0, 1, 1, 8, 16, .rw, 0⟩
def GUY_CFG_PITCH : Fld := ⟨7, 0x0, 1, 1, 0, 8, .rw, 0⟩

/-! R303 -/
def TAL_SCOPE_SHARED : Fld := ⟨2, 0x58, 32, 1, 0, 32, .rw, 0⟩
def TAL_WAITERS : Fld := ⟨2, 0x158, 1, 1, 0, 8, .ro, 0⟩
def TAL_OPS : Fld := ⟨2, 0x160, 1, 1, 0, 64, .ro, 0⟩
def TAL_FAULTS : Fld := ⟨2, 0x168, 1, 1, 0, 32, .sat, 0⟩
def TAL_HAND : Fld := ⟨2, 0x170, 1, 1, 0, 32, .sat, 0⟩
def TAL_STAT_SAT_HAND_SAT : Fld := ⟨2, 0x178, 1, 1, 1, 1, .w1c, 0⟩
def TAL_STAT_SAT_FAULTS_SAT : Fld := ⟨2, 0x178, 1, 1, 0, 1, .w1c, 0⟩

/-! R304 -/
def FB_CFG_RESEND : Fld := ⟨8, 0x0, 1, 1, 0, 16, .rw, 100⟩
def GUY_OVERRUN : Fld := ⟨3, 0xB0, 1, 1, 0, 32, .sat, 0⟩
def FB_RESENDS : Fld := ⟨3, 0xB8, 1, 1, 0, 32, .sat, 0⟩
def FB_ROUNDS : Fld := ⟨3, 0xC0, 1, 1, 0, 64, .ro, 0⟩
def GUY_STAT_SAT_RESENDS_SAT : Fld := ⟨3, 0xC8, 1, 1, 1, 1, .w1c, 0⟩
def GUY_STAT_SAT_OVERRUN_SAT : Fld := ⟨3, 0xC8, 1, 1, 0, 1, .w1c, 0⟩

/-! R305 -/
def TPL_USED_SIZE : Fld := ⟨3, 0xD0, 1, 1, 9, 9, .ro, 0⟩
def TPL_USED_USED : Fld := ⟨3, 0xD0, 1, 1, 0, 9, .ro, 0⟩
def TPL_PARKED : Fld := ⟨3, 0xD8, 1, 1, 0, 64, .ro, 0⟩
def TPL_HELD : Fld := ⟨3, 0xE0, 1, 1, 0, 32, .sat, 0⟩
def TPL_AHEAD : Fld := ⟨3, 0xE8, 1, 1, 0, 32, .sat, 0⟩
def TPL_STAT_SAT_AHEAD_SAT : Fld := ⟨3, 0xF0, 1, 1, 1, 1, .w1c, 0⟩
def TPL_STAT_SAT_HELD_SAT : Fld := ⟨3, 0xF0, 1, 1, 0, 1, .w1c, 0⟩

/-! R333 -/
def HBM_MAP_EPOCH : Fld := ⟨8, 0x8, 1, 1, 32, 16, .ro, 0⟩
def HBM_MAP_STATE : Fld := ⟨8, 0x8, 1, 1, 10, 2, .ro, 0⟩
def HBM_MAP_LIVE_N : Fld := ⟨8, 0x8, 1, 1, 0, 10, .ro, 512⟩
def HBM_LIVE_LIVE : Fld := ⟨8, 0x10, 16, 1, 0, 32, .ro, 4294967295⟩
def HBM_HASH_KEY_K2 : Fld := ⟨8, 0x90, 1, 2, 96, 32, .wo, 1⟩
def HBM_HASH_KEY_K1 : Fld := ⟨8, 0x90, 1, 2, 64, 32, .wo, 1⟩
def HBM_HASH_KEY_K0 : Fld := ⟨8, 0x90, 1, 2, 0, 22, .wo, 0⟩
def HBM_RAS_CFG_RETIRE_MAX : Fld := ⟨8, 0xA0, 1, 1, 48, 16, .rw, 2048⟩
def HBM_RAS_CFG_PIN_MARK_CE : Fld := ⟨8, 0xA0, 1, 1, 32, 16, .rw, 64⟩
def HBM_RAS_CFG_RETIRE_CE : Fld := ⟨8, 0xA0, 1, 1, 24, 8, .rw, 3⟩
def HBM_RAS_CFG_SCRUB_HOURS : Fld := ⟨8, 0xA0, 1, 1, 16, 8, .rw, 24⟩
def HBM_RETIRED : Fld := ⟨8, 0xA8, 1, 1, 0, 16, .ro, 0⟩
def HBM_PC_STATUS_STATE : Fld := ⟨4, 0x0, 1, 1, 30, 2, .ro, 0⟩
def HBM_PC_STATUS_MARK1 : Fld := ⟨4, 0x0, 1, 1, 24, 6, .ro, 0⟩
def HBM_PC_STATUS_MARK1_V : Fld := ⟨4, 0x0, 1, 1, 23, 1, .ro, 0⟩
def HBM_PC_STATUS_MARK0 : Fld := ⟨4, 0x0, 1, 1, 17, 6, .ro, 0⟩
def HBM_PC_STATUS_MARK0_V : Fld := ⟨4, 0x0, 1, 1, 16, 1, .ro, 0⟩
def HBM_PC_STATUS_POISON_USED : Fld := ⟨4, 0x0, 1, 1, 0, 9, .ro, 0⟩
def HBM_CE1 : Fld := ⟨4, 0x8, 1, 1, 0, 32, .sat, 0⟩
def HBM_CE2 : Fld := ⟨4, 0x10, 1, 1, 0, 32, .sat, 0⟩
def HBM_UE : Fld := ⟨4, 0x18, 1, 1, 0, 32, .sat, 0⟩
def HBM_RETRAIN : Fld := ⟨4, 0x20, 1, 1, 0, 32, .sat, 0⟩
def HBM_INT_WRAP : Fld := ⟨4, 0x28, 1, 1, 0, 32, .sat, 0⟩
def HBM_TRAFFIC : Fld := ⟨4, 0x30, 1, 1, 0, 64, .ro, 0⟩
def HBM_PC_SAT_WRAP_SAT : Fld := ⟨4, 0x38, 1, 1, 4, 1, .w1c, 0⟩
def HBM_PC_SAT_RETRAIN_SAT : Fld := ⟨4, 0x38, 1, 1, 3, 1, .w1c, 0⟩
def HBM_PC_SAT_UE_SAT : Fld := ⟨4, 0x38, 1, 1, 2, 1, .w1c, 0⟩
def HBM_PC_SAT_CE2_SAT : Fld := ⟨4, 0x38, 1, 1, 1, 1, .w1c, 0⟩
def HBM_PC_SAT_CE1_SAT : Fld := ⟨4, 0x38, 1, 1, 0, 1, .w1c, 0⟩

/-! R334 -/
def HBM_TG_CFG_GO : Fld := ⟨4, 0x40, 1, 1, 31, 1, .rw, 0⟩
def HBM_TG_CFG_CHECK_ONLY : Fld := ⟨4, 0x40, 1, 1, 30, 1, .rw, 0⟩
def HBM_TG_CFG_PATTERN : Fld := ⟨4, 0x40, 1, 1, 28, 2, .rw, 0⟩
def HBM_TG_CFG_ERRS_SAT : Fld := ⟨4, 0x40, 1, 1, 0, 1, .w1c, 0⟩
def HBM_TG_RANGE_COUNT : Fld := ⟨4, 0x48, 1, 1, 32, 32, .rw, 0⟩
def HBM_TG_RANGE_FIRST : Fld := ⟨4, 0x48, 1, 1, 0, 32, .rw, 0⟩
def HBM_TG_SEED_SEED : Fld := ⟨4, 0x50, 1, 1, 0, 31, .rw, 1⟩
def HBM_TG_USER_LINE : Fld := ⟨4, 0x58, 1, 8, 0, 512, .rw, 0⟩
def HBM_TG_WORDS : Fld := ⟨4, 0x98, 1, 1, 0, 64, .ro, 0⟩
def HBM_TG_ERRS : Fld := ⟨4, 0xA0, 1, 1, 0, 32, .sat, 0⟩
def HBM_TG_FIRST_CODEWORD : Fld := ⟨4, 0xA8, 1, 1, 32, 32, .ro, 0⟩
def HBM_TG_FIRST_BEAT : Fld := ⟨4, 0xA8, 1, 1, 4, 4, .ro, 0⟩
def HBM_TG_FIRST_VALID : Fld := ⟨4, 0xA8, 1, 1, 3, 1, .ro, 0⟩

/-! R335 -/
def SHF_MAP_LIVE_N : Fld := ⟨5, 0x0, 1, 1, 16, 11, .ro, 1024⟩
def SHF_MAP_SLABS : Fld := ⟨5, 0x0, 1, 1, 8, 6, .ro, 32⟩
def SHF_MAP_EPOCH : Fld := ⟨5, 0x0, 1, 1, 2, 6, .ro, 0⟩
def SHF_MAP_STATE : Fld := ⟨5, 0x0, 1, 1, 0, 2, .ro, 0⟩
def SHF_LIVE_LIVE : Fld := ⟨5, 0x8, 32, 1, 0, 32, .ro, 4294967295⟩
def SHF_SLAB_OWNER_OWNER : Fld := ⟨8, 0xB0, 8, 1, 0, 32, .ro, 4294967295⟩
def SHF_CFG_SCRUB_SECONDS : Fld := ⟨5, 0x108, 1, 1, 16, 16, .rw, 60⟩
def SHF_CFG_BANK_UE_FENCE : Fld := ⟨5, 0x108, 1, 1, 8, 8, .rw, 4⟩
def SHF_CE : Fld := ⟨5, 0x110, 1, 1, 0, 32, .sat, 0⟩
def SHF_UE : Fld := ⟨5, 0x118, 1, 1, 0, 32, .sat, 0⟩
def SHF_INT_WRAP : Fld := ⟨5, 0x120, 1, 1, 0, 32, .sat, 0⟩
def SHF_TRAFFIC_4K : Fld := ⟨5, 0x128, 1, 1, 0, 64, .ro, 0⟩
def SHF_STAT_SAT_WRAP_SAT : Fld := ⟨5, 0x130, 1, 1, 2, 1, .w1c, 0⟩
def SHF_STAT_SAT_UE_SAT : Fld := ⟨5, 0x130, 1, 1, 1, 1, .w1c, 0⟩
def SHF_STAT_SAT_CE_SAT : Fld := ⟨5, 0x130, 1, 1, 0, 1, .w1c, 0⟩

/-! R363 -/
def TWY_DEV_ID_ID : Fld := ⟨8, 0xF0, 1, 1, 0, 12, .rw, 4095⟩
def TWY_FAB_CFG_RETRY_S : Fld := ⟨8, 0xF8, 1, 1, 0, 16, .rw, 1⟩
def TWY_ROUTE_VALID : Fld := ⟨8, 0x100, 4096, 1, 31, 1, .rw, 0⟩
def TWY_ROUTE_NCAND : Fld := ⟨8, 0x100, 4096, 1, 28, 2, .rw, 0⟩
def TWY_ROUTE_C3 : Fld := ⟨8, 0x100, 4096, 1, 18, 6, .rw, 0⟩
def TWY_ROUTE_C2 : Fld := ⟨8, 0x100, 4096, 1, 12, 6, .rw, 0⟩
def TWY_ROUTE_C1 : Fld := ⟨8, 0x100, 4096, 1, 6, 6, .rw, 0⟩
def TWY_ROUTE_C0 : Fld := ⟨8, 0x100, 4096, 1, 0, 6, .rw, 0⟩
def TWY_PORT_CFG_DATELINE : Fld := ⟨6, 0x0, 1, 1, 1, 1, .rw, 0⟩
def TWY_PORT_CFG_ENABLE : Fld := ⟨6, 0x0, 1, 1, 0, 1, .rw, 1⟩
def TWY_PORT_STATUS_LANES_OK : Fld := ⟨6, 0x8, 1, 1, 8, 8, .ro, 0⟩
def TWY_PORT_STATUS_WIDTH : Fld := ⟨6, 0x8, 1, 1, 4, 4, .ro, 0⟩
def TWY_PORT_STATUS_STATE : Fld := ⟨6, 0x8, 1, 1, 0, 2, .ro, 0⟩
def TWY_REPLAY : Fld := ⟨6, 0x10, 1, 1, 0, 32, .sat, 0⟩
def TWY_CRC : Fld := ⟨6, 0x18, 1, 1, 0, 32, .sat, 0⟩
def TWY_FEC_UNC : Fld := ⟨6, 0x20, 1, 1, 0, 32, .sat, 0⟩
def TWY_RETRAIN : Fld := ⟨6, 0x28, 1, 1, 0, 32, .sat, 0⟩
def TWY_TX_64B : Fld := ⟨6, 0x30, 1, 1, 0, 64, .ro, 0⟩
def TWY_RX_64B : Fld := ⟨6, 0x38, 1, 1, 0, 64, .ro, 0⟩
def TWY_PORT_SAT_RETRAIN_SAT : Fld := ⟨6, 0x40, 1, 1, 3, 1, .w1c, 0⟩
def TWY_PORT_SAT_FEC_SAT : Fld := ⟨6, 0x40, 1, 1, 2, 1, .w1c, 0⟩
def TWY_PORT_SAT_CRC_SAT : Fld := ⟨6, 0x40, 1, 1, 1, 1, .w1c, 0⟩
def TWY_PORT_SAT_REPLAY_SAT : Fld := ⟨6, 0x40, 1, 1, 0, 1, .w1c, 0⟩
def TWY_DROP : Fld := ⟨8, 0x8100, 1, 1, 0, 32, .sat, 0⟩
def TWY_DROP_SAT_DROP_SAT : Fld := ⟨8, 0x8108, 1, 1, 0, 1, .w1c, 0⟩
def TWY_SHARE_SEALED : Fld := ⟨3, 0xF8, 1, 1, 8, 1, .ro, 0⟩
def TWY_SHARE_SHARE : Fld := ⟨3, 0xF8, 1, 1, 0, 8, .rw, 0⟩
def TWY_TIMEOUT : Fld := ⟨3, 0x100, 1, 1, 0, 32, .sat, 0⟩
def TWY_LATE : Fld := ⟨3, 0x108, 1, 1, 0, 32, .sat, 0⟩
def TWY_AUTH_FAIL : Fld := ⟨3, 0x110, 1, 1, 0, 32, .sat, 0⟩
def TWY_BUSY : Fld := ⟨3, 0x118, 1, 1, 0, 32, .sat, 0⟩
def TWY_PITCH_SAT_BUSY_SAT : Fld := ⟨3, 0x120, 1, 1, 3, 1, .w1c, 0⟩
def TWY_PITCH_SAT_AUTH_SAT : Fld := ⟨3, 0x120, 1, 1, 2, 1, .w1c, 0⟩
def TWY_PITCH_SAT_LATE_SAT : Fld := ⟨3, 0x120, 1, 1, 1, 1, .w1c, 0⟩
def TWY_PITCH_SAT_TIMEOUT_SAT : Fld := ⟨3, 0x120, 1, 1, 0, 1, .w1c, 0⟩

/-! R393; where the HE_ registers begin in their instances is log 119 -/
def MBX_CFG_IDLE_S : Fld := ⟨8, 0x8110, 1, 1, 16, 16, .rw, 300⟩
def MBX_STATUS_SERVER : Fld := ⟨8, 0x8118, 1, 1, 30, 2, .ro, 0⟩
def MBX_STATUS_SESSIONS : Fld := ⟨8, 0x8118, 1, 1, 0, 6, .ro, 0⟩
def MBX_REQ : Fld := ⟨8, 0x8120, 1, 1, 0, 64, .ro, 0⟩
def MBX_DROP : Fld := ⟨8, 0x8128, 1, 1, 0, 32, .sat, 0⟩
def MBX_AUTH_FAIL : Fld := ⟨8, 0x8130, 1, 1, 0, 32, .sat, 0⟩
def MBX_STALE : Fld := ⟨8, 0x8138, 1, 1, 0, 32, .sat, 0⟩
def MBX_PROXY_BUSY : Fld := ⟨8, 0x8140, 1, 1, 0, 32, .sat, 0⟩
def MBX_STAT_SAT_PROXY_SAT : Fld := ⟨8, 0x8148, 1, 1, 3, 1, .w1c, 0⟩
def MBX_STAT_SAT_STALE_SAT : Fld := ⟨8, 0x8148, 1, 1, 2, 1, .w1c, 0⟩
def MBX_STAT_SAT_AUTH_SAT : Fld := ⟨8, 0x8148, 1, 1, 1, 1, .w1c, 0⟩
def MBX_STAT_SAT_DROP_SAT : Fld := ⟨8, 0x8148, 1, 1, 0, 1, .w1c, 0⟩
def HE_STATUS_LANES_OK : Fld := ⟨6, 0x48, 1, 1, 4, 4, .ro, 0⟩
def HE_STATUS_STATE : Fld := ⟨6, 0x48, 1, 1, 0, 2, .ro, 0⟩
def HE_TX_BYTES : Fld := ⟨6, 0x50, 1, 1, 0, 64, .ro, 0⟩
def HE_RX_BYTES : Fld := ⟨6, 0x58, 1, 1, 0, 64, .ro, 0⟩
def HE_FCS : Fld := ⟨6, 0x60, 1, 1, 0, 32, .sat, 0⟩
def ROCE_REFUSED : Fld := ⟨6, 0x68, 1, 1, 0, 32, .sat, 0⟩
def HE_STAT_SAT_ROCE_SAT : Fld := ⟨6, 0x70, 1, 1, 1, 1, .w1c, 0⟩
def HE_STAT_SAT_FCS_SAT : Fld := ⟨6, 0x70, 1, 1, 0, 1, .w1c, 0⟩

/-! R426 -/
def GOV_POOL_POOL : Fld := ⟨8, 0x8150, 1, 1, 0, 32, .ro, 1500000⟩
def GOV_PITCH_BUDGET_BUDGET : Fld := ⟨3, 0x128, 1, 1, 0, 32, .rw, 0⟩
def GOV_DEV_CFG_JOB_LEND_EN : Fld := ⟨8, 0x8158, 1, 1, 1, 1, .rw, 1⟩
def GOV_DEV_CFG_XPITCH_EN : Fld := ⟨8, 0x8158, 1, 1, 0, 1, .rw, 0⟩
def GOV_JOB_LEND_STEP : Fld := ⟨8, 0x8160, 1, 1, 24, 8, .rw, 20⟩
def GOV_JOB_KMAX : Fld := ⟨8, 0x8160, 1, 1, 20, 4, .rw, 8⟩
def GOV_JOB_DECAY : Fld := ⟨8, 0x8160, 1, 1, 12, 8, .rw, 64⟩
def GOV_JOB_GUY : Fld := ⟨8, 0x8160, 1, 1, 0, 5, .rw, 0⟩
def GOV_PITCH_CFG_CLK_CEIL : Fld := ⟨3, 0x130, 1, 1, 21, 3, .rw, 0⟩
def GOV_PITCH_CFG_CLK_FLOOR : Fld := ⟨3, 0x130, 1, 1, 18, 3, .rw, 5⟩
def GOV_PITCH_CFG_REPEAT : Fld := ⟨3, 0x130, 1, 1, 5, 1, .rw, 0⟩
def GOV_PITCH_CFG_V_PIN : Fld := ⟨3, 0x130, 1, 1, 4, 1, .rw, 0⟩
def GOV_PITCH_CFG_MARGIN_ALLOW : Fld := ⟨3, 0x130, 1, 1, 3, 1, .rw, 1⟩
def GOV_PITCH_CFG_LEND_JOB : Fld := ⟨3, 0x130, 1, 1, 2, 1, .rw, 1⟩
def GOV_PITCH_CFG_LEND_PITCH : Fld := ⟨3, 0x130, 1, 1, 1, 1, .rw, 1⟩
def GOV_PITCH_CFG_LEND_CAMP : Fld := ⟨3, 0x130, 1, 1, 0, 1, .rw, 1⟩
def GOV_SHARE_PEG : Fld := ⟨2, 0x180, 1, 1, 32, 8, .rw, 6⟩
def GOV_SHARE_GEN : Fld := ⟨2, 0x180, 1, 1, 24, 8, .rw, 64⟩
def GOV_SHARE_UPD : Fld := ⟨2, 0x180, 1, 1, 16, 8, .rw, 24⟩
def GOV_SHARE_BWD : Fld := ⟨2, 0x180, 1, 1, 8, 8, .rw, 80⟩
def GOV_SHARE_FWD : Fld := ⟨2, 0x180, 1, 1, 0, 8, .rw, 64⟩
def GOV_CAMP_STATUS_BUDGET : Fld := ⟨2, 0x188, 1, 1, 32, 32, .ro, 0⟩
def GOV_CAMP_STATUS_BUB_MAX : Fld := ⟨2, 0x188, 1, 1, 16, 8, .ro, 0⟩
def GOV_CAMP_STATUS_WAITERS : Fld := ⟨2, 0x188, 1, 1, 8, 8, .ro, 0⟩
def GOV_BUBBLE_CYC : Fld := ⟨2, 0x190, 1, 1, 0, 64, .ro, 0⟩
def GOV_HELD_LADDER : Fld := ⟨3, 0x138, 1, 1, 0, 64, .ro, 0⟩
def GOV_HELD_LEND : Fld := ⟨3, 0x140, 1, 1, 0, 64, .ro, 0⟩
def GOV_HELD_VOLT : Fld := ⟨3, 0x148, 1, 1, 0, 64, .ro, 0⟩
def GOV_HELD_CLK : Fld := ⟨3, 0x150, 1, 1, 0, 64, .ro, 0⟩
def GOV_THR_PEER : Fld := ⟨3, 0x158, 1, 1, 0, 32, .sat, 0⟩
def GOV_STAT_SAT_THR_PEER_SAT : Fld := ⟨3, 0x160, 1, 1, 0, 1, .w1c, 0⟩

/-! R427 -/
def LNT_STATUS_STATE : Fld := ⟨8, 0x8168, 1, 1, 29, 3, .ro, 0⟩
def LNT_STATUS_FLOW_OK : Fld := ⟨8, 0x8168, 1, 1, 28, 1, .ro, 0⟩
def LNT_STATUS_PWR_EN : Fld := ⟨8, 0x8168, 1, 1, 27, 1, .ro, 0⟩
def LNT_STATUS_ALERT : Fld := ⟨8, 0x8168, 1, 1, 26, 1, .ro, 0⟩
def LNT_STATUS_SCALE : Fld := ⟨8, 0x8168, 1, 1, 16, 9, .ro, 256⟩
def LNT_STATUS_RESTART_STICKY : Fld := ⟨8, 0x8168, 1, 1, 4, 1, .w1c, 0⟩
def LNT_STATUS_SENSOR_STICKY : Fld := ⟨8, 0x8168, 1, 1, 3, 1, .w1c, 0⟩
def LNT_STATUS_LIMIT_STICKY : Fld := ⟨8, 0x8168, 1, 1, 2, 1, .w1c, 0⟩
def LNT_STATUS_TRIP_STICKY : Fld := ⟨8, 0x8168, 1, 1, 1, 1, .w1c, 0⟩
def LNT_STATUS_COOLANT_STICKY : Fld := ⟨8, 0x8168, 1, 1, 0, 1, .w1c, 0⟩
def LNT_THERM_RESUME : Fld := ⟨8, 0x8170, 1, 1, 40, 8, .rw, 85⟩
def LNT_THERM_HARD : Fld := ⟨8, 0x8170, 1, 1, 32, 8, .rw, 105⟩
def LNT_THERM_STEP_HI : Fld := ⟨8, 0x8170, 1, 1, 24, 8, .rw, 95⟩
def LNT_THERM_STEP_LO : Fld := ⟨8, 0x8170, 1, 1, 16, 8, .rw, 90⟩
def LNT_THERM_PKG_TRIP : Fld := ⟨8, 0x8170, 1, 1, 8, 8, .ro, 115⟩
def LNT_THERM_TRIP : Fld := ⟨8, 0x8170, 1, 1, 0, 8, .ro, 110⟩
def LNT_FILT_IIR_K : Fld := ⟨8, 0x8178, 8, 1, 4, 4, .rw, 2⟩
def LNT_FILT_MEDIAN : Fld := ⟨8, 0x8178, 8, 1, 0, 2, .rw, 1⟩
def LNT_FLOW_RESUME_HOLD : Fld := ⟨8, 0x81B8, 1, 1, 0, 32, .rw, 200000000⟩
def LNT_IDLE_IDLE_ENTRY : Fld := ⟨8, 0x81C0, 1, 1, 0, 32, .rw, 2000000⟩
def LNT_WDOG_KICK_PAIR : Fld := ⟨8, 0x81C8, 1, 1, 0, 2, .wo, 0⟩
def LNT_ENERGY : Fld := ⟨8, 0x81D0, 1, 1, 0, 64, .ro, 0⟩
def LNT_PITCH_ENERGY : Fld := ⟨3, 0x168, 1, 1, 0, 64, .ro, 0⟩
def LNT_JOB_TOTAL : Fld := ⟨3, 0x170, 1, 1, 0, 64, .ro, 0⟩
def LNT_JOB_NUM_JOB : Fld := ⟨3, 0x178, 1, 1, 0, 16, .ro, 0⟩
def LNT_LIMIT_CYC : Fld := ⟨8, 0x81D8, 1, 1, 0, 64, .ro, 0⟩
def LNT_STEPS : Fld := ⟨8, 0x81E0, 1, 1, 0, 32, .sat, 0⟩
def LNT_TRIPS : Fld := ⟨8, 0x81E8, 1, 1, 0, 32, .sat, 0⟩
def LNT_FLOW_GLITCH : Fld := ⟨8, 0x81F0, 1, 1, 0, 32, .sat, 0⟩
def LNT_SENSOR : Fld := ⟨8, 0x81F8, 1, 1, 0, 32, .sat, 0⟩
def LNT_DZ_RESTART : Fld := ⟨8, 0x8200, 1, 1, 0, 32, .sat, 0⟩
def LNT_LNT_RESTART : Fld := ⟨8, 0x8208, 1, 1, 0, 32, .sat, 0⟩
def LNT_STAT_SAT_SAT : Fld := ⟨8, 0x8210, 1, 1, 0, 6, .w1c, 0⟩

/-! R456 -/
def SEC_OWNER_KEY_KEY : Fld := ⟨8, 0x8218, 1, 8, 0, 456, .ro, 0⟩
def SEC_OWNER_NEXT_KEY : Fld := ⟨8, 0x8258, 1, 8, 0, 456, .rw, 0⟩
def SEC_OWNER_CTL_ACTION : Fld := ⟨8, 0x8298, 1, 1, 0, 4, .rw, 0⟩
def SEC_PITCH_CTL_TENANCY : Fld := ⟨3, 0x180, 1, 1, 32, 32, .ro, 0⟩
def SEC_PITCH_CTL_STATE : Fld := ⟨3, 0x180, 1, 1, 8, 4, .ro, 0⟩
def SEC_PITCH_CTL_ACTION : Fld := ⟨3, 0x180, 1, 1, 0, 4, .rw, 0⟩
def SEC_PITCH_LAYOUT_PAGES : Fld := ⟨3, 0x188, 1, 2, 64, 19, .rw, 0⟩
def SEC_PITCH_LAYOUT_SLABS_1 : Fld := ⟨3, 0x188, 1, 2, 54, 6, .rw, 0⟩
def SEC_PITCH_LAYOUT_SLABS_0 : Fld := ⟨3, 0x188, 1, 2, 48, 6, .rw, 0⟩
def SEC_PITCH_LAYOUT_GUYS : Fld := ⟨3, 0x188, 1, 2, 16, 32, .rw, 0⟩
def SEC_PITCH_LAYOUT_CAMPS : Fld := ⟨3, 0x188, 1, 2, 0, 16, .rw, 0⟩
def SEC_TENANT_KEY_KEY : Fld := ⟨3, 0x198, 1, 8, 0, 456, .rw, 0⟩
def SEC_FAB0_KEY_KEY : Fld := ⟨8, 0x82A0, 1, 4, 0, 256, .rw, 0⟩
def SEC_DEBUG_CTL_STEWARD : Fld := ⟨8, 0x82C0, 1, 5, 0, 256, .rw, 0⟩
def SEC_DEBUG_FLAGS_UNLOCKED : Fld := ⟨8, 0x82E8, 1, 1, 1, 1, .ro, 0⟩
def SEC_DEBUG_FLAGS_UNLOCK : Fld := ⟨8, 0x82E8, 1, 1, 0, 1, .rw, 0⟩
def SEC_FUSE_UNSEALS : Fld := ⟨8, 0x82F0, 1, 1, 24, 8, .ro, 0⟩
def SEC_FUSE_FLOOR : Fld := ⟨8, 0x82F0, 1, 1, 16, 8, .ro, 0⟩
def SEC_FUSE_UNLOCKS : Fld := ⟨8, 0x82F0, 1, 1, 8, 8, .ro, 0⟩
def SEC_FUSE_TRANSFERS : Fld := ⟨8, 0x82F0, 1, 1, 0, 8, .ro, 0⟩
def SEC_MEAS_VALUE : Fld := ⟨8, 0x82F8, 8, 4, 0, 256, .ro, 0⟩
def SEC_LOG_HEAD_H : Fld := ⟨8, 0x83F8, 1, 4, 0, 256, .ro, 0⟩
def SEC_LOG_SEQ_SEQ : Fld := ⟨8, 0x8418, 1, 1, 0, 64, .ro, 0⟩
def SEC_LOG_OLDEST_SEQ : Fld := ⟨8, 0x8420, 1, 1, 0, 64, .ro, 0⟩
def SEC_REFUSED : Fld := ⟨8, 0x8428, 1, 1, 0, 32, .sat, 0⟩
def SEC_STAT_SAT_REFUSED_SAT : Fld := ⟨8, 0x8430, 1, 1, 0, 1, .w1c, 0⟩

/-! R486 -/
def FEN_CFG_STRIKE_LOG2 : Fld := ⟨8, 0x8438, 1, 1, 26, 6, .rw, 36⟩
def FEN_CFG_LANE_TO_LOG2 : Fld := ⟨8, 0x8438, 1, 1, 21, 5, .rw, 20⟩
def FEN_CFG_ENG_TO_LOG2 : Fld := ⟨8, 0x8438, 1, 1, 16, 5, .rw, 24⟩
def FEN_CFG_CAMP_TO_LOG2 : Fld := ⟨8, 0x8438, 1, 1, 11, 5, .rw, 26⟩
def FEN_CFG_SELFTEST_H : Fld := ⟨8, 0x8438, 1, 1, 3, 8, .rw, 24⟩
def FEN_STATE_ENG_CAUSE : Fld := ⟨0, 0x948, 1, 1, 16, 4, .ro, 0⟩
def FEN_STATE_ENG_HARD : Fld := ⟨0, 0x948, 1, 1, 12, 1, .ro, 0⟩
def FEN_STATE_ENG_HOST : Fld := ⟨0, 0x948, 1, 1, 8, 4, .ro, 0⟩
def FEN_STATE_ENG_STATE : Fld := ⟨0, 0x948, 1, 1, 0, 2, .ro, 0⟩
def FEN_STATE_CAMP_CAUSE : Fld := ⟨2, 0x198, 1, 1, 16, 4, .ro, 0⟩
def FEN_STATE_CAMP_HARD : Fld := ⟨2, 0x198, 1, 1, 12, 1, .ro, 0⟩
def FEN_STATE_CAMP_HOST : Fld := ⟨2, 0x198, 1, 1, 8, 4, .ro, 0⟩
def FEN_STATE_CAMP_STATE : Fld := ⟨2, 0x198, 1, 1, 0, 2, .ro, 0⟩
def FEN_LANE_STATE : Fld := ⟨0, 0x950, 16, 1, 0, 32, .ro, 0⟩
def HB : Fld := ⟨2, 0x1A0, 1, 1, 0, 32, .ro, 0⟩
def REL_RESIDUE : Fld := ⟨0, 0x9D0, 1, 1, 0, 32, .sat, 0⟩
def REL_DUP : Fld := ⟨0, 0x9D8, 1, 1, 0, 32, .sat, 0⟩
def REL_RERUN : Fld := ⟨0, 0x9E0, 1, 1, 0, 32, .sat, 0⟩
def REL_STAT_SAT_RERUN_SAT : Fld := ⟨0, 0x9E8, 1, 1, 2, 1, .w1c, 0⟩
def REL_STAT_SAT_DUP_SAT : Fld := ⟨0, 0x9E8, 1, 1, 1, 1, .w1c, 0⟩
def REL_STAT_SAT_RESIDUE_SAT : Fld := ⟨0, 0x9E8, 1, 1, 0, 1, .w1c, 0⟩
def REL_SKEW : Fld := ⟨8, 0x8440, 1, 1, 0, 32, .sat, 0⟩
def REL_CROSS : Fld := ⟨8, 0x8448, 1, 1, 0, 32, .sat, 0⟩
def REL_FENCES : Fld := ⟨8, 0x8450, 1, 1, 0, 32, .sat, 0⟩
def REL_MOD_SAT_FENCES_SAT : Fld := ⟨8, 0x8458, 1, 1, 2, 1, .w1c, 0⟩
def REL_MOD_SAT_CROSS_SAT : Fld := ⟨8, 0x8458, 1, 1, 1, 1, .w1c, 0⟩
def REL_MOD_SAT_SKEW_SAT : Fld := ⟨8, 0x8458, 1, 1, 0, 1, .w1c, 0⟩

/-! R487 -/
def BCN_CFG_TABLE : Fld := ⟨3, 0x1D8, 1, 1, 16, 48, .rw, 0⟩
def BCN_CFG_ENABLE : Fld := ⟨3, 0x1D8, 1, 1, 15, 1, .rw, 0⟩
def BCN_CFG_INTERVAL : Fld := ⟨3, 0x1D8, 1, 1, 0, 15, .rw, 50⟩
def BCN_STATUS_STEP : Fld := ⟨3, 0x1E0, 1, 1, 32, 32, .ro, 0⟩
def BCN_STATUS_OUTCOME : Fld := ⟨3, 0x1E0, 1, 1, 0, 2, .ro, 0⟩
def BCN_COMPARED : Fld := ⟨3, 0x1E8, 1, 1, 0, 64, .ro, 0⟩
def BCN_MISMATCH : Fld := ⟨3, 0x1F0, 1, 1, 0, 32, .sat, 0⟩
def BCN_STAT_SAT_MISMATCH_SAT : Fld := ⟨3, 0x1F8, 1, 1, 0, 1, .w1c, 0⟩

/-! R501 -/
def STU_STATUS_PHASE : Fld := ⟨8, 0x8460, 1, 1, 28, 4, .ro, 0⟩
def STU_STATUS_FAILS : Fld := ⟨8, 0x8460, 1, 1, 26, 2, .ro, 0⟩
def STU_STATUS_SLOT : Fld := ⟨8, 0x8460, 1, 1, 25, 1, .ro, 0⟩
def STU_STATUS_ACTIVE : Fld := ⟨8, 0x8460, 1, 1, 24, 1, .ro, 0⟩
def STU_STATUS_REASON : Fld := ⟨8, 0x8460, 1, 1, 16, 8, .ro, 0⟩
def STU_HISTORY_REASONS : Fld := ⟨8, 0x8468, 1, 1, 0, 24, .ro, 0⟩
def STU_STARTS : Fld := ⟨8, 0x8470, 1, 1, 0, 64, .ro, 0⟩
def STU_FAILED : Fld := ⟨8, 0x8478, 1, 1, 0, 32, .sat, 0⟩
def STU_STAT_SAT_FAILED_SAT : Fld := ⟨8, 0x8480, 1, 1, 0, 1, .w1c, 0⟩

/-- The fields of R75. -/
def rowsR75 : List Fld := [
  CNV_NAN_OUT, CNV_OVF_OUT, CNV_POISON_IN, CNV_STAT_SAT_POISON_SAT, CNV_STAT_SAT_OVF_SAT,
  CNV_STAT_SAT_NAN_SAT]

/-- The fields of R103. -/
def rowsR103 : List Fld := [
  LAD_LIMITS_CLIMB, LAD_LIMITS_SITE_DESCEND, LAD_LIMITS_STILE_MAX, LAD_LIMITS_ZTILE_MAX,
  LAD_LIMITS_SELEM_MAX, LAD_LIMITS_ZELEM_MAX]

/-- The fields of R106. -/
def rowsR106 : List Fld := [
  LAD_ZELEM, LAD_SELEM, LAD_ZTILE, LAD_STILE, LAD_TRIPS, LAD_FLOOR, LAD_HELD, LAD_PARTNER, LAD_PREPASS,
  LAD_STAT_SAT_PREPASS_SAT, LAD_STAT_SAT_PARTNER_SAT, LAD_STAT_SAT_HELD_SAT, LAD_STAT_SAT_FLOOR_SAT,
  LAD_STAT_SAT_TRIPS_SAT, LAD_STAT_SAT_STILE_SAT, LAD_STAT_SAT_ZTILE_SAT, LAD_STAT_SAT_SELEM_SAT,
  LAD_STAT_SAT_ZELEM_SAT]

/-- The fields of R140. -/
def rowsR140 : List Fld := [
  BRK_CFG_PARK_AFTER, BRK_CFG_RUNNEL_EN, BRK_STATUS_PLOT_BUSY, BRK_STATUS_PLOT_MODE, BRK_STATUS_MARGIN_OK,
  BRK_STATUS_MARGIN_REQ, BRK_STATUS_GROUPS_ON, BRK_STATUS_STATE, BRK_FRZ_TOTAL, BRK_FRZ_FEED_A,
  BRK_FRZ_FEED_B, BRK_FRZ_REQ, BRK_FRZ_DRAIN, BRK_PARKS, BRK_RNL_STALL, BRK_MARGIN_DENIED, BRK_FRZ_LANE,
  BRK_ADV_CYC, BRK_RNL_CYC, BRK_STAT_SAT_MARGIN_SAT, BRK_STAT_SAT_RNL_STALL_SAT, BRK_STAT_SAT_PARKS_SAT,
  BRK_STAT_SAT_DRAIN_SAT, BRK_STAT_SAT_REQ_SAT, BRK_STAT_SAT_FEED_B_SAT, BRK_STAT_SAT_FEED_A_SAT,
  BRK_STAT_SAT_TOTAL_SAT, BRK_LANE_SAT_LANE_SAT]

/-- The fields of R161. -/
def rowsR161 : List Fld := [
  DTM_LOSS, DTM_WIN_LOSS, DTM_SPECIAL, DTM_PASS_CYC, DTM_SLICES_LAST_B, DTM_SLICES_LAST_A,
  DTM_STAT_SAT_SPECIAL_SAT, DTM_STAT_SAT_WIN_LOSS_SAT, DTM_STAT_SAT_LOSS_SAT]

/-- The fields of R190. -/
def rowsR190 : List Fld := [
  STR_CFG_PRIO, STR_CFG_WAIT_LOG2, STR_STATUS_INFLIGHT, STR_STATUS_QUEUED, STR_STATUS_CHAIN,
  STR_STATUS_STATE, STR_POS_INDEX, STR_HALT_CODE, STR_HALT_INDEX, STR_DESC_DONE, STR_BLOCKED_CYC, STR_FAULTS,
  STR_STAT_SAT_FAULTS_SAT]

/-- The fields of R191. -/
def rowsR191 : List Fld := [
  STH_CFG_REKEEP, STH_BASE_BASE, STH_GRANULES, STH_FIRST_RESERVE, STH_FREE, STH_ENTRIES, STH_NOTKEPT,
  STH_REKEPT, STH_CHAIN_BLOCKS, STH_PUT_4K, STH_STAT_SAT_CHAIN_SAT, STH_STAT_SAT_REKEPT_SAT,
  STH_STAT_SAT_NOTKEPT_SAT]

/-- The fields of R219. -/
def rowsR219 : List Fld := [
  GS_ADD_4K, GS_HELD, GS_STALE, GS_STAT_SAT_STALE_SAT, GS_STAT_SAT_HELD_SAT]

/-- The fields of R240. -/
def rowsR240 : List Fld := [
  CMT_CFG_VOTE_TO, CMT_CFG_DECIDE_TO, CMT_CFG_QUERY_ROUNDS, CMT_CFG_NONFINITE_ABORT, CMT_STRIDE_STRIDE,
  CMT_STATUS_STEP, CMT_STATUS_ATTEMPT, CMT_STATUS_STATE, CMT_STATUS_BANK, CMT_COMMITS, CMT_ABORTS,
  CMT_INDOUBT, CMT_STAT_SAT_INDOUBT_SAT, CMT_STAT_SAT_ABORTS_SAT, UPD_NONFINITE, UPD_SR_CLAMP,
  UPD_STAT_SAT_CLAMP_SAT, UPD_STAT_SAT_NONFINITE_SAT]

/-- The fields of R286. -/
def rowsR286 : List Fld := [
  GUY_CFG_FABRIC, GUY_CFG_LOCAL_N, GUY_CFG_CAMP_MASK, GUY_CFG_PITCH]

/-- The fields of R303. -/
def rowsR303 : List Fld := [
  TAL_SCOPE_SHARED, TAL_WAITERS, TAL_OPS, TAL_FAULTS, TAL_HAND, TAL_STAT_SAT_HAND_SAT,
  TAL_STAT_SAT_FAULTS_SAT]

/-- The fields of R304. -/
def rowsR304 : List Fld := [
  FB_CFG_RESEND, GUY_OVERRUN, FB_RESENDS, FB_ROUNDS, GUY_STAT_SAT_RESENDS_SAT, GUY_STAT_SAT_OVERRUN_SAT]

/-- The fields of R305. -/
def rowsR305 : List Fld := [
  TPL_USED_SIZE, TPL_USED_USED, TPL_PARKED, TPL_HELD, TPL_AHEAD, TPL_STAT_SAT_AHEAD_SAT,
  TPL_STAT_SAT_HELD_SAT]

/-- The fields of R333. -/
def rowsR333 : List Fld := [
  HBM_MAP_EPOCH, HBM_MAP_STATE, HBM_MAP_LIVE_N, HBM_LIVE_LIVE, HBM_HASH_KEY_K2, HBM_HASH_KEY_K1,
  HBM_HASH_KEY_K0, HBM_RAS_CFG_RETIRE_MAX, HBM_RAS_CFG_PIN_MARK_CE, HBM_RAS_CFG_RETIRE_CE,
  HBM_RAS_CFG_SCRUB_HOURS, HBM_RETIRED, HBM_PC_STATUS_STATE, HBM_PC_STATUS_MARK1, HBM_PC_STATUS_MARK1_V,
  HBM_PC_STATUS_MARK0, HBM_PC_STATUS_MARK0_V, HBM_PC_STATUS_POISON_USED, HBM_CE1, HBM_CE2, HBM_UE,
  HBM_RETRAIN, HBM_INT_WRAP, HBM_TRAFFIC, HBM_PC_SAT_WRAP_SAT, HBM_PC_SAT_RETRAIN_SAT, HBM_PC_SAT_UE_SAT,
  HBM_PC_SAT_CE2_SAT, HBM_PC_SAT_CE1_SAT]

/-- The fields of R334. -/
def rowsR334 : List Fld := [
  HBM_TG_CFG_GO, HBM_TG_CFG_CHECK_ONLY, HBM_TG_CFG_PATTERN, HBM_TG_CFG_ERRS_SAT, HBM_TG_RANGE_COUNT,
  HBM_TG_RANGE_FIRST, HBM_TG_SEED_SEED, HBM_TG_USER_LINE, HBM_TG_WORDS, HBM_TG_ERRS, HBM_TG_FIRST_CODEWORD,
  HBM_TG_FIRST_BEAT, HBM_TG_FIRST_VALID]

/-- The fields of R335. -/
def rowsR335 : List Fld := [
  SHF_MAP_LIVE_N, SHF_MAP_SLABS, SHF_MAP_EPOCH, SHF_MAP_STATE, SHF_LIVE_LIVE, SHF_SLAB_OWNER_OWNER,
  SHF_CFG_SCRUB_SECONDS, SHF_CFG_BANK_UE_FENCE, SHF_CE, SHF_UE, SHF_INT_WRAP, SHF_TRAFFIC_4K,
  SHF_STAT_SAT_WRAP_SAT, SHF_STAT_SAT_UE_SAT, SHF_STAT_SAT_CE_SAT]

/-- The fields of R363. -/
def rowsR363 : List Fld := [
  TWY_DEV_ID_ID, TWY_FAB_CFG_RETRY_S, TWY_ROUTE_VALID, TWY_ROUTE_NCAND, TWY_ROUTE_C3, TWY_ROUTE_C2,
  TWY_ROUTE_C1, TWY_ROUTE_C0, TWY_PORT_CFG_DATELINE, TWY_PORT_CFG_ENABLE, TWY_PORT_STATUS_LANES_OK,
  TWY_PORT_STATUS_WIDTH, TWY_PORT_STATUS_STATE, TWY_REPLAY, TWY_CRC, TWY_FEC_UNC, TWY_RETRAIN, TWY_TX_64B,
  TWY_RX_64B, TWY_PORT_SAT_RETRAIN_SAT, TWY_PORT_SAT_FEC_SAT, TWY_PORT_SAT_CRC_SAT, TWY_PORT_SAT_REPLAY_SAT,
  TWY_DROP, TWY_DROP_SAT_DROP_SAT, TWY_SHARE_SEALED, TWY_SHARE_SHARE, TWY_TIMEOUT, TWY_LATE, TWY_AUTH_FAIL,
  TWY_BUSY, TWY_PITCH_SAT_BUSY_SAT, TWY_PITCH_SAT_AUTH_SAT, TWY_PITCH_SAT_LATE_SAT, TWY_PITCH_SAT_TIMEOUT_SAT]

/-- The fields of R393. -/
def rowsR393 : List Fld := [
  MBX_CFG_IDLE_S, MBX_STATUS_SERVER, MBX_STATUS_SESSIONS, MBX_REQ, MBX_DROP, MBX_AUTH_FAIL, MBX_STALE,
  MBX_PROXY_BUSY, MBX_STAT_SAT_PROXY_SAT, MBX_STAT_SAT_STALE_SAT, MBX_STAT_SAT_AUTH_SAT,
  MBX_STAT_SAT_DROP_SAT, HE_STATUS_LANES_OK, HE_STATUS_STATE, HE_TX_BYTES, HE_RX_BYTES, HE_FCS, ROCE_REFUSED,
  HE_STAT_SAT_ROCE_SAT, HE_STAT_SAT_FCS_SAT]

/-- The fields of R426. -/
def rowsR426 : List Fld := [
  GOV_POOL_POOL, GOV_PITCH_BUDGET_BUDGET, GOV_DEV_CFG_JOB_LEND_EN, GOV_DEV_CFG_XPITCH_EN, GOV_JOB_LEND_STEP,
  GOV_JOB_KMAX, GOV_JOB_DECAY, GOV_JOB_GUY, GOV_PITCH_CFG_CLK_CEIL, GOV_PITCH_CFG_CLK_FLOOR,
  GOV_PITCH_CFG_REPEAT, GOV_PITCH_CFG_V_PIN, GOV_PITCH_CFG_MARGIN_ALLOW, GOV_PITCH_CFG_LEND_JOB,
  GOV_PITCH_CFG_LEND_PITCH, GOV_PITCH_CFG_LEND_CAMP, GOV_SHARE_PEG, GOV_SHARE_GEN, GOV_SHARE_UPD,
  GOV_SHARE_BWD, GOV_SHARE_FWD, GOV_CAMP_STATUS_BUDGET, GOV_CAMP_STATUS_BUB_MAX, GOV_CAMP_STATUS_WAITERS,
  GOV_BUBBLE_CYC, GOV_HELD_LADDER, GOV_HELD_LEND, GOV_HELD_VOLT, GOV_HELD_CLK, GOV_THR_PEER,
  GOV_STAT_SAT_THR_PEER_SAT]

/-- The fields of R427. -/
def rowsR427 : List Fld := [
  LNT_STATUS_STATE, LNT_STATUS_FLOW_OK, LNT_STATUS_PWR_EN, LNT_STATUS_ALERT, LNT_STATUS_SCALE,
  LNT_STATUS_RESTART_STICKY, LNT_STATUS_SENSOR_STICKY, LNT_STATUS_LIMIT_STICKY, LNT_STATUS_TRIP_STICKY,
  LNT_STATUS_COOLANT_STICKY, LNT_THERM_RESUME, LNT_THERM_HARD, LNT_THERM_STEP_HI, LNT_THERM_STEP_LO,
  LNT_THERM_PKG_TRIP, LNT_THERM_TRIP, LNT_FILT_IIR_K, LNT_FILT_MEDIAN, LNT_FLOW_RESUME_HOLD,
  LNT_IDLE_IDLE_ENTRY, LNT_WDOG_KICK_PAIR, LNT_ENERGY, LNT_PITCH_ENERGY, LNT_JOB_TOTAL, LNT_JOB_NUM_JOB,
  LNT_LIMIT_CYC, LNT_STEPS, LNT_TRIPS, LNT_FLOW_GLITCH, LNT_SENSOR, LNT_DZ_RESTART, LNT_LNT_RESTART,
  LNT_STAT_SAT_SAT]

/-- The fields of R456. -/
def rowsR456 : List Fld := [
  SEC_OWNER_KEY_KEY, SEC_OWNER_NEXT_KEY, SEC_OWNER_CTL_ACTION, SEC_PITCH_CTL_TENANCY, SEC_PITCH_CTL_STATE,
  SEC_PITCH_CTL_ACTION, SEC_PITCH_LAYOUT_PAGES, SEC_PITCH_LAYOUT_SLABS_1, SEC_PITCH_LAYOUT_SLABS_0,
  SEC_PITCH_LAYOUT_GUYS, SEC_PITCH_LAYOUT_CAMPS, SEC_TENANT_KEY_KEY, SEC_FAB0_KEY_KEY, SEC_DEBUG_CTL_STEWARD,
  SEC_DEBUG_FLAGS_UNLOCKED, SEC_DEBUG_FLAGS_UNLOCK, SEC_FUSE_UNSEALS, SEC_FUSE_FLOOR, SEC_FUSE_UNLOCKS,
  SEC_FUSE_TRANSFERS, SEC_MEAS_VALUE, SEC_LOG_HEAD_H, SEC_LOG_SEQ_SEQ, SEC_LOG_OLDEST_SEQ, SEC_REFUSED,
  SEC_STAT_SAT_REFUSED_SAT]

/-- The fields of R486. -/
def rowsR486 : List Fld := [
  FEN_CFG_STRIKE_LOG2, FEN_CFG_LANE_TO_LOG2, FEN_CFG_ENG_TO_LOG2, FEN_CFG_CAMP_TO_LOG2, FEN_CFG_SELFTEST_H,
  FEN_STATE_ENG_CAUSE, FEN_STATE_ENG_HARD, FEN_STATE_ENG_HOST, FEN_STATE_ENG_STATE, FEN_STATE_CAMP_CAUSE,
  FEN_STATE_CAMP_HARD, FEN_STATE_CAMP_HOST, FEN_STATE_CAMP_STATE, FEN_LANE_STATE, HB, REL_RESIDUE, REL_DUP,
  REL_RERUN, REL_STAT_SAT_RERUN_SAT, REL_STAT_SAT_DUP_SAT, REL_STAT_SAT_RESIDUE_SAT, REL_SKEW, REL_CROSS,
  REL_FENCES, REL_MOD_SAT_FENCES_SAT, REL_MOD_SAT_CROSS_SAT, REL_MOD_SAT_SKEW_SAT]

/-- The fields of R487. -/
def rowsR487 : List Fld := [
  BCN_CFG_TABLE, BCN_CFG_ENABLE, BCN_CFG_INTERVAL, BCN_STATUS_STEP, BCN_STATUS_OUTCOME, BCN_COMPARED,
  BCN_MISMATCH, BCN_STAT_SAT_MISMATCH_SAT]

/-- The fields of R501. -/
def rowsR501 : List Fld := [
  STU_STATUS_PHASE, STU_STATUS_FAILS, STU_STATUS_SLOT, STU_STATUS_ACTIVE, STU_STATUS_REASON,
  STU_HISTORY_REASONS, STU_STARTS, STU_FAILED, STU_STAT_SAT_FAILED_SAT]

/-- Every field of every register of control space. -/
def table : List Fld :=
  rowsR75 ++ rowsR103 ++ rowsR106 ++ rowsR140 ++ rowsR161 ++ rowsR190 ++ rowsR191 ++ rowsR219 ++ rowsR240 ++ rowsR286 ++ rowsR303 ++ rowsR304 ++ rowsR305 ++ rowsR333 ++
  rowsR334 ++ rowsR335 ++ rowsR363 ++ rowsR393 ++ rowsR426 ++ rowsR427 ++ rowsR456 ++ rowsR486 ++ rowsR487 ++ rowsR501

end Sys2Proof.Machine.Reg
end

