-- ==== Sys2Proof/Machine/Flags.lean ====
section
/-! DEFINITION. The flags of the part: every statistics counter (R13, R14) with its sticky SAT bit and the event that
its saturation raises, and the operations that count and clear. -/
namespace Sys2Proof.Machine

open Sys2Proof

/-- A statistics counter: its count, the field and the bit of its SAT flag, and the code its saturation raises. A family of
256 counters has the flag of member m at bit m mod 32 of the flag family's member m div 32. -/
structure Ctr where
  cnt : Fld
  sat : Fld
  satBit : Nat
  code : Nat
  deriving DecidableEq, Repr

namespace Ctr

def CNV_NAN_OUT : Ctr := ⟨Reg.CNV_NAN_OUT, Reg.CNV_STAT_SAT_NAN_SAT, 0, Code.CNV_COUNTER_SAT⟩
def CNV_OVF_OUT : Ctr := ⟨Reg.CNV_OVF_OUT, Reg.CNV_STAT_SAT_OVF_SAT, 0, Code.CNV_COUNTER_SAT⟩
def CNV_POISON_IN : Ctr := ⟨Reg.CNV_POISON_IN, Reg.CNV_STAT_SAT_POISON_SAT, 0, Code.CNV_COUNTER_SAT⟩
def LAD_ZELEM : Ctr := ⟨Reg.LAD_ZELEM, Reg.LAD_STAT_SAT_ZELEM_SAT, 0, Code.LAD_COUNTER_SAT⟩
def LAD_SELEM : Ctr := ⟨Reg.LAD_SELEM, Reg.LAD_STAT_SAT_SELEM_SAT, 0, Code.LAD_COUNTER_SAT⟩
def LAD_ZTILE : Ctr := ⟨Reg.LAD_ZTILE, Reg.LAD_STAT_SAT_ZTILE_SAT, 0, Code.LAD_COUNTER_SAT⟩
def LAD_STILE : Ctr := ⟨Reg.LAD_STILE, Reg.LAD_STAT_SAT_STILE_SAT, 0, Code.LAD_COUNTER_SAT⟩
def LAD_TRIPS : Ctr := ⟨Reg.LAD_TRIPS, Reg.LAD_STAT_SAT_TRIPS_SAT, 0, Code.LAD_COUNTER_SAT⟩
def LAD_FLOOR : Ctr := ⟨Reg.LAD_FLOOR, Reg.LAD_STAT_SAT_FLOOR_SAT, 0, Code.LAD_COUNTER_SAT⟩
def LAD_HELD : Ctr := ⟨Reg.LAD_HELD, Reg.LAD_STAT_SAT_HELD_SAT, 0, Code.LAD_COUNTER_SAT⟩
def LAD_PARTNER : Ctr := ⟨Reg.LAD_PARTNER, Reg.LAD_STAT_SAT_PARTNER_SAT, 0, Code.LAD_COUNTER_SAT⟩
def LAD_PREPASS : Ctr := ⟨Reg.LAD_PREPASS, Reg.LAD_STAT_SAT_PREPASS_SAT, 0, Code.LAD_COUNTER_SAT⟩
def BRK_FRZ_TOTAL : Ctr := ⟨Reg.BRK_FRZ_TOTAL, Reg.BRK_STAT_SAT_TOTAL_SAT, 0, Code.BRK_COUNTER_SAT⟩
def BRK_FRZ_FEED_A : Ctr := ⟨Reg.BRK_FRZ_FEED_A, Reg.BRK_STAT_SAT_FEED_A_SAT, 0, Code.BRK_COUNTER_SAT⟩
def BRK_FRZ_FEED_B : Ctr := ⟨Reg.BRK_FRZ_FEED_B, Reg.BRK_STAT_SAT_FEED_B_SAT, 0, Code.BRK_COUNTER_SAT⟩
def BRK_FRZ_REQ : Ctr := ⟨Reg.BRK_FRZ_REQ, Reg.BRK_STAT_SAT_REQ_SAT, 0, Code.BRK_COUNTER_SAT⟩
def BRK_FRZ_DRAIN : Ctr := ⟨Reg.BRK_FRZ_DRAIN, Reg.BRK_STAT_SAT_DRAIN_SAT, 0, Code.BRK_COUNTER_SAT⟩
def BRK_PARKS : Ctr := ⟨Reg.BRK_PARKS, Reg.BRK_STAT_SAT_PARKS_SAT, 0, Code.BRK_COUNTER_SAT⟩
def BRK_RNL_STALL : Ctr := ⟨Reg.BRK_RNL_STALL, Reg.BRK_STAT_SAT_RNL_STALL_SAT, 0, Code.BRK_COUNTER_SAT⟩
def BRK_MARGIN_DENIED : Ctr := ⟨Reg.BRK_MARGIN_DENIED, Reg.BRK_STAT_SAT_MARGIN_SAT, 0, Code.BRK_COUNTER_SAT⟩
def BRK_FRZ_LANE : Ctr := ⟨Reg.BRK_FRZ_LANE, Reg.BRK_LANE_SAT_LANE_SAT, 0, Code.BRK_COUNTER_SAT⟩
def DTM_LOSS : Ctr := ⟨Reg.DTM_LOSS, Reg.DTM_STAT_SAT_LOSS_SAT, 0, Code.DTM_COUNTER_SAT⟩
def DTM_WIN_LOSS : Ctr := ⟨Reg.DTM_WIN_LOSS, Reg.DTM_STAT_SAT_WIN_LOSS_SAT, 0, Code.DTM_COUNTER_SAT⟩
def DTM_SPECIAL : Ctr := ⟨Reg.DTM_SPECIAL, Reg.DTM_STAT_SAT_SPECIAL_SAT, 0, Code.DTM_COUNTER_SAT⟩
def STR_FAULTS : Ctr := ⟨Reg.STR_FAULTS, Reg.STR_STAT_SAT_FAULTS_SAT, 0, Code.STREAM_COUNTER_SAT⟩
def STH_NOTKEPT : Ctr := ⟨Reg.STH_NOTKEPT, Reg.STH_STAT_SAT_NOTKEPT_SAT, 0, Code.STREAM_COUNTER_SAT⟩
def STH_REKEPT : Ctr := ⟨Reg.STH_REKEPT, Reg.STH_STAT_SAT_REKEPT_SAT, 0, Code.STREAM_COUNTER_SAT⟩
def STH_CHAIN_BLOCKS : Ctr := ⟨Reg.STH_CHAIN_BLOCKS, Reg.STH_STAT_SAT_CHAIN_SAT, 0, Code.STREAM_COUNTER_SAT⟩
def GS_HELD : Ctr := ⟨Reg.GS_HELD, Reg.GS_STAT_SAT_HELD_SAT, 0, Code.GS_COUNTER_SAT⟩
def GS_STALE : Ctr := ⟨Reg.GS_STALE, Reg.GS_STAT_SAT_STALE_SAT, 0, Code.GS_COUNTER_SAT⟩
def CMT_ABORTS : Ctr := ⟨Reg.CMT_ABORTS, Reg.CMT_STAT_SAT_ABORTS_SAT, 0, Code.CMT_COUNTER_SAT⟩
def CMT_INDOUBT : Ctr := ⟨Reg.CMT_INDOUBT, Reg.CMT_STAT_SAT_INDOUBT_SAT, 0, Code.CMT_COUNTER_SAT⟩
def UPD_NONFINITE : Ctr := ⟨Reg.UPD_NONFINITE, Reg.UPD_STAT_SAT_NONFINITE_SAT, 0, Code.CMT_COUNTER_SAT⟩
def UPD_SR_CLAMP : Ctr := ⟨Reg.UPD_SR_CLAMP, Reg.UPD_STAT_SAT_CLAMP_SAT, 0, Code.CMT_COUNTER_SAT⟩
def TAL_FAULTS : Ctr := ⟨Reg.TAL_FAULTS, Reg.TAL_STAT_SAT_FAULTS_SAT, 0, Code.SYNC_COUNTER_SAT⟩
def TAL_HAND : Ctr := ⟨Reg.TAL_HAND, Reg.TAL_STAT_SAT_HAND_SAT, 0, Code.SYNC_COUNTER_SAT⟩
def GUY_OVERRUN : Ctr := ⟨Reg.GUY_OVERRUN, Reg.GUY_STAT_SAT_OVERRUN_SAT, 0, Code.SYNC_COUNTER_SAT⟩
def FB_RESENDS : Ctr := ⟨Reg.FB_RESENDS, Reg.GUY_STAT_SAT_RESENDS_SAT, 0, Code.SYNC_COUNTER_SAT⟩
def TPL_HELD : Ctr := ⟨Reg.TPL_HELD, Reg.TPL_STAT_SAT_HELD_SAT, 0, Code.SYNC_COUNTER_SAT⟩
def TPL_AHEAD : Ctr := ⟨Reg.TPL_AHEAD, Reg.TPL_STAT_SAT_AHEAD_SAT, 0, Code.SYNC_COUNTER_SAT⟩
def HBM_CE1 : Ctr := ⟨Reg.HBM_CE1, Reg.HBM_PC_SAT_CE1_SAT, 0, Code.MEM_COUNTER_SAT⟩
def HBM_CE2 : Ctr := ⟨Reg.HBM_CE2, Reg.HBM_PC_SAT_CE2_SAT, 0, Code.MEM_COUNTER_SAT⟩
def HBM_UE : Ctr := ⟨Reg.HBM_UE, Reg.HBM_PC_SAT_UE_SAT, 0, Code.MEM_COUNTER_SAT⟩
def HBM_RETRAIN : Ctr := ⟨Reg.HBM_RETRAIN, Reg.HBM_PC_SAT_RETRAIN_SAT, 0, Code.MEM_COUNTER_SAT⟩
def HBM_INT_WRAP : Ctr := ⟨Reg.HBM_INT_WRAP, Reg.HBM_PC_SAT_WRAP_SAT, 0, Code.MEM_COUNTER_SAT⟩
def HBM_TG_ERRS : Ctr := ⟨Reg.HBM_TG_ERRS, Reg.HBM_TG_CFG_ERRS_SAT, 0, Code.MEM_COUNTER_SAT⟩
def SHF_CE : Ctr := ⟨Reg.SHF_CE, Reg.SHF_STAT_SAT_CE_SAT, 0, Code.MEM_COUNTER_SAT⟩
def SHF_UE : Ctr := ⟨Reg.SHF_UE, Reg.SHF_STAT_SAT_UE_SAT, 0, Code.MEM_COUNTER_SAT⟩
def SHF_INT_WRAP : Ctr := ⟨Reg.SHF_INT_WRAP, Reg.SHF_STAT_SAT_WRAP_SAT, 0, Code.MEM_COUNTER_SAT⟩
def TWY_REPLAY : Ctr := ⟨Reg.TWY_REPLAY, Reg.TWY_PORT_SAT_REPLAY_SAT, 0, Code.TWY_COUNTER_SAT⟩
def TWY_CRC : Ctr := ⟨Reg.TWY_CRC, Reg.TWY_PORT_SAT_CRC_SAT, 0, Code.TWY_COUNTER_SAT⟩
def TWY_FEC_UNC : Ctr := ⟨Reg.TWY_FEC_UNC, Reg.TWY_PORT_SAT_FEC_SAT, 0, Code.TWY_COUNTER_SAT⟩
def TWY_RETRAIN : Ctr := ⟨Reg.TWY_RETRAIN, Reg.TWY_PORT_SAT_RETRAIN_SAT, 0, Code.TWY_COUNTER_SAT⟩
def TWY_DROP : Ctr := ⟨Reg.TWY_DROP, Reg.TWY_DROP_SAT_DROP_SAT, 0, Code.TWY_COUNTER_SAT⟩
def TWY_TIMEOUT : Ctr := ⟨Reg.TWY_TIMEOUT, Reg.TWY_PITCH_SAT_TIMEOUT_SAT, 0, Code.TWY_COUNTER_SAT⟩
def TWY_LATE : Ctr := ⟨Reg.TWY_LATE, Reg.TWY_PITCH_SAT_LATE_SAT, 0, Code.TWY_COUNTER_SAT⟩
def TWY_AUTH_FAIL : Ctr := ⟨Reg.TWY_AUTH_FAIL, Reg.TWY_PITCH_SAT_AUTH_SAT, 0, Code.TWY_COUNTER_SAT⟩
def TWY_BUSY : Ctr := ⟨Reg.TWY_BUSY, Reg.TWY_PITCH_SAT_BUSY_SAT, 0, Code.TWY_COUNTER_SAT⟩
def MBX_DROP : Ctr := ⟨Reg.MBX_DROP, Reg.MBX_STAT_SAT_DROP_SAT, 0, Code.MBX_COUNTER_SAT⟩
def MBX_AUTH_FAIL : Ctr := ⟨Reg.MBX_AUTH_FAIL, Reg.MBX_STAT_SAT_AUTH_SAT, 0, Code.MBX_COUNTER_SAT⟩
def MBX_STALE : Ctr := ⟨Reg.MBX_STALE, Reg.MBX_STAT_SAT_STALE_SAT, 0, Code.MBX_COUNTER_SAT⟩
def MBX_PROXY_BUSY : Ctr := ⟨Reg.MBX_PROXY_BUSY, Reg.MBX_STAT_SAT_PROXY_SAT, 0, Code.MBX_COUNTER_SAT⟩
def HE_FCS : Ctr := ⟨Reg.HE_FCS, Reg.HE_STAT_SAT_FCS_SAT, 0, Code.MBX_COUNTER_SAT⟩
def ROCE_REFUSED : Ctr := ⟨Reg.ROCE_REFUSED, Reg.HE_STAT_SAT_ROCE_SAT, 0, Code.MBX_COUNTER_SAT⟩
def GOV_THR_PEER : Ctr := ⟨Reg.GOV_THR_PEER, Reg.GOV_STAT_SAT_THR_PEER_SAT, 0, Code.PWR_COUNTER_SAT⟩
def LNT_STEPS : Ctr := ⟨Reg.LNT_STEPS, Reg.LNT_STAT_SAT_SAT, 0, Code.PWR_COUNTER_SAT⟩
def LNT_TRIPS : Ctr := ⟨Reg.LNT_TRIPS, Reg.LNT_STAT_SAT_SAT, 1, Code.PWR_COUNTER_SAT⟩
def LNT_FLOW_GLITCH : Ctr := ⟨Reg.LNT_FLOW_GLITCH, Reg.LNT_STAT_SAT_SAT, 2, Code.PWR_COUNTER_SAT⟩
def LNT_SENSOR : Ctr := ⟨Reg.LNT_SENSOR, Reg.LNT_STAT_SAT_SAT, 3, Code.PWR_COUNTER_SAT⟩
def LNT_DZ_RESTART : Ctr := ⟨Reg.LNT_DZ_RESTART, Reg.LNT_STAT_SAT_SAT, 4, Code.PWR_COUNTER_SAT⟩
def LNT_LNT_RESTART : Ctr := ⟨Reg.LNT_LNT_RESTART, Reg.LNT_STAT_SAT_SAT, 5, Code.PWR_COUNTER_SAT⟩
def SEC_REFUSED : Ctr := ⟨Reg.SEC_REFUSED, Reg.SEC_STAT_SAT_REFUSED_SAT, 0, Code.SEC_COUNTER_SAT⟩
def REL_RESIDUE : Ctr := ⟨Reg.REL_RESIDUE, Reg.REL_STAT_SAT_RESIDUE_SAT, 0, Code.REL_COUNTER_SAT⟩
def REL_DUP : Ctr := ⟨Reg.REL_DUP, Reg.REL_STAT_SAT_DUP_SAT, 0, Code.REL_COUNTER_SAT⟩
def REL_RERUN : Ctr := ⟨Reg.REL_RERUN, Reg.REL_STAT_SAT_RERUN_SAT, 0, Code.REL_COUNTER_SAT⟩
def REL_SKEW : Ctr := ⟨Reg.REL_SKEW, Reg.REL_MOD_SAT_SKEW_SAT, 0, Code.REL_COUNTER_SAT⟩
def REL_CROSS : Ctr := ⟨Reg.REL_CROSS, Reg.REL_MOD_SAT_CROSS_SAT, 0, Code.REL_COUNTER_SAT⟩
def REL_FENCES : Ctr := ⟨Reg.REL_FENCES, Reg.REL_MOD_SAT_FENCES_SAT, 0, Code.REL_COUNTER_SAT⟩
def BCN_MISMATCH : Ctr := ⟨Reg.BCN_MISMATCH, Reg.BCN_STAT_SAT_MISMATCH_SAT, 0, Code.REL_COUNTER_SAT⟩
def STU_FAILED : Ctr := ⟨Reg.STU_FAILED, Reg.STU_STAT_SAT_FAILED_SAT, 0, Code.STU_COUNTER_SAT⟩

/-- Every statistics counter. -/
def all : List Ctr := [
  CNV_NAN_OUT, CNV_OVF_OUT, CNV_POISON_IN, LAD_ZELEM, LAD_SELEM, LAD_ZTILE, LAD_STILE, LAD_TRIPS, LAD_FLOOR,
  LAD_HELD, LAD_PARTNER, LAD_PREPASS, BRK_FRZ_TOTAL, BRK_FRZ_FEED_A, BRK_FRZ_FEED_B, BRK_FRZ_REQ,
  BRK_FRZ_DRAIN, BRK_PARKS, BRK_RNL_STALL, BRK_MARGIN_DENIED, BRK_FRZ_LANE, DTM_LOSS, DTM_WIN_LOSS,
  DTM_SPECIAL, STR_FAULTS, STH_NOTKEPT, STH_REKEPT, STH_CHAIN_BLOCKS, GS_HELD, GS_STALE, CMT_ABORTS,
  CMT_INDOUBT, UPD_NONFINITE, UPD_SR_CLAMP, TAL_FAULTS, TAL_HAND, GUY_OVERRUN, FB_RESENDS, TPL_HELD,
  TPL_AHEAD, HBM_CE1, HBM_CE2, HBM_UE, HBM_RETRAIN, HBM_INT_WRAP, HBM_TG_ERRS, SHF_CE, SHF_UE, SHF_INT_WRAP,
  TWY_REPLAY, TWY_CRC, TWY_FEC_UNC, TWY_RETRAIN, TWY_DROP, TWY_TIMEOUT, TWY_LATE, TWY_AUTH_FAIL, TWY_BUSY,
  MBX_DROP, MBX_AUTH_FAIL, MBX_STALE, MBX_PROXY_BUSY, HE_FCS, ROCE_REFUSED, GOV_THR_PEER, LNT_STEPS,
  LNT_TRIPS, LNT_FLOW_GLITCH, LNT_SENSOR, LNT_DZ_RESTART, LNT_LNT_RESTART, SEC_REFUSED, REL_RESIDUE, REL_DUP,
  REL_RERUN, REL_SKEW, REL_CROSS, REL_FENCES, BCN_MISMATCH, STU_FAILED]

end Ctr

/-- The largest value of a statistics counter (R13). -/
def ctrMax : Nat := 0xFFFFFFFF

/-- The bit of the SAT field that belongs to a counter's member `m`, and the member of the flag family it lies in. -/
def Ctr.flag (c : Ctr) (m : Nat) : Nat × Nat := if c.cnt.members = 256 then (m % 32, m / 32) else (c.satBit, 0)

/-- The DETAIL of a counter's saturation event, as far as the counter itself gives its bytes (R141, R241, R336, R364, R488, log 81). -/
def State.satDetail (s : State) (c : Ctr) (inst m : Nat) : Nat :=
  if c.code = Code.BRK_COUNTER_SAT then atBytes [(0, if c.cnt.members = 256 then m else 0xFFFF)]
  else if c.sat.block = Reg.CMT_STATUS_STEP.block ∧ c.code = Code.CMT_COUNTER_SAT then atBytes [(0, s.fld Reg.CMT_STATUS_STEP inst), (4, s.fld Reg.CMT_STATUS_ATTEMPT inst)]
  else if c.code = Code.REL_COUNTER_SAT then atBytes [(0, 0xFFFF)]
  else if c.code = Code.MEM_COUNTER_SAT then
    if c.sat.block = Reg.SHF_STAT_SAT_CE_SAT.block then
      atBytes [(10, s.fld Reg.SHF_MAP_LIVE_N inst), (12, s.fld Reg.SHF_MAP_EPOCH inst)]
    else atBytes [(10, s.fld Reg.HBM_MAP_LIVE_N), (12, s.fld Reg.HBM_MAP_EPOCH)]
  else if c.code = Code.TWY_COUNTER_SAT ∧ c.sat ∈ [Reg.TWY_PORT_SAT_REPLAY_SAT, Reg.TWY_PORT_SAT_CRC_SAT, Reg.TWY_PORT_SAT_FEC_SAT,
      Reg.TWY_PORT_SAT_RETRAIN_SAT] then
    atBytes [(2, inst), (3, s.fld Reg.TWY_PORT_STATUS_WIDTH inst)]
  else 0

/-- A statistics counter raised by `n` (R13, R14): at its largest value it stops, sets SAT and raises one event; a saturated
counter ignores further increments. `detail` holds the event's bytes that the happening gives. -/
def State.bump (s : State) (c : Ctr) (pitch location : Nat) (inst : Nat := 0) (n : Nat := 1) (m : Nat := 0) (detail : Nat := 0) : State :=
  let old := s.fld c.cnt inst m
  if old = ctrMax then s
  else if old + n < ctrMax then s.setFld c.cnt (old + n) inst m
  else
    let (b, k) := c.flag m
    ((s.setFld c.cnt ctrMax inst m).setFld c.sat (s.fld c.sat inst k ||| 2 ^ b) inst k).event c.code pitch location
      (s.satDetail c inst m ||| detail)

/-- Clearing a SAT bit zeroes the bit and its counter (R14). -/
def State.clearSat (s : State) (c : Ctr) (inst : Nat) (m : Nat := 0) : State :=
  let (b, k) := c.flag m
  let v := s.fld c.sat inst k
  (s.setFld c.cnt 0 inst m).setFld c.sat (if v.testBit b then v - 2 ^ b else v) inst k

end Sys2Proof.Machine
end

