-- ==== Sys2Proof/Machine/Numerics.lean ====
section
/-! DEFINITION. Number formats and their arithmetic (chapter 2): exact values, the one rounding of R7, the wider formats
of R48 and R49, the four-bit elements of R43 and R59 and the fine scales of R45 and R46. -/
namespace Sys2Proof.Machine

open Sys2Proof

/-- An exact value: not a number, an infinity, or (-1)^neg * m * 2^e. -/
inductive Num where
  | nan
  | inf (neg : Bool)
  | fin (neg : Bool) (m : Nat) (e : Int)
  deriving DecidableEq, Repr

/-- A wider format: its exponent and mantissa widths (R48). -/
structure Fmt where
  exp : Nat
  man : Nat
  deriving DecidableEq, Repr

/-- BF16 (R48). -/
def bf16 : Fmt := ⟨8, 7⟩
/-- FP32 (R48). -/
def fp32 : Fmt := ⟨8, 23⟩
/-- FP64 (R48). -/
def fp64 : Fmt := ⟨11, 52⟩

/-- The exponent bias. -/
def Fmt.bias (f : Fmt) : Nat := 2 ^ (f.exp - 1) - 1

/-- The number of bits. -/
def Fmt.width (f : Fmt) : Nat := 1 + f.exp + f.man

/-- The canonical NaN (R49). -/
def Fmt.nan (f : Fmt) : Nat := (2 ^ f.exp - 1) <<< f.man ||| 2 ^ (f.man - 1)

/-- Plus or minus infinity. -/
def Fmt.inf (f : Fmt) (neg : Bool) : Nat := ofBool neg <<< (f.exp + f.man) ||| (2 ^ f.exp - 1) <<< f.man

/-- The largest finite magnitude. -/
def Fmt.max (f : Fmt) : Nat := (2 ^ f.exp - 1) <<< f.man - 1

/-- The exact value of a code. -/
def Fmt.decode (f : Fmt) (b : Nat) : Num :=
  let neg := b.testBit (f.exp + f.man)
  let e := bits b (f.exp + f.man - 1) f.man
  let m := b % 2 ^ f.man
  if e = 2 ^ f.exp - 1 then (if m = 0 then .inf neg else .nan)
  else if e = 0 then .fin neg m (1 - (f.bias : Int) - f.man)
  else .fin neg (2 ^ f.man + m) ((e : Int) - f.bias - f.man)

/-- `n / d` rounded to nearest, ties to even. -/
def rneDiv (n d : Nat) : Nat :=
  let q := n / d
  let r := n % d
  if 2 * r > d ∨ (2 * r = d ∧ q % 2 = 1) then q + 1 else q

/-- `n / d * 2^e` rounded to nearest, ties to even, in units of `2^q`. -/
def rneScaled (n d : Nat) (e q : Int) : Nat :=
  if q ≤ e then rneDiv (n * 2 ^ (e - q).toNat) d else rneDiv n (d * 2 ^ (q - e).toNat)

/-- The floor of the base-2 logarithm of `n / d`, both positive. -/
def floorLog (n d : Nat) : Int :=
  let k : Int := (n.log2 : Int) - d.log2
  let big : Bool := if 0 ≤ k then decide (n < d * 2 ^ k.toNat) else decide (n * 2 ^ (-k).toNat < d)
  if big then k - 1 else k

/-- The magnitude code of `n / d * 2^e`, rounded once; at or above the infinity code when it overflows. -/
def Fmt.roundMag (f : Fmt) (n d : Nat) (e : Int) : Nat :=
  if n = 0 then 0
  else
    let emin : Int := 1 - f.bias
    let ex := floorLog n d + e
    let q := (if ex < emin then emin else ex) - f.man
    ((q - (emin - f.man)).toNat <<< f.man) + rneScaled n d e q

/-- The code of plus or minus `n / d * 2^e`, rounded to nearest, ties to even (R7); overflow goes to infinity (log 59). -/
def Fmt.round (f : Fmt) (neg : Bool) (n d : Nat) (e : Int) : Nat :=
  let mag := f.roundMag n d e
  let lim := (2 ^ f.exp - 1) <<< f.man
  (ofBool neg <<< (f.exp + f.man)) ||| (if mag < lim then mag else lim)

/-- The code of an exact value, rounded once (R7, R49). -/
def Fmt.encode (f : Fmt) : Num → Nat
  | .nan => f.nan
  | .inf neg => f.inf neg
  | .fin neg m e => f.round neg m 1 e

/-! Exact arithmetic. -/

/-- The sum, exact; a sum of zero is +0 unless both are -0 (IEEE 754). -/
def Num.add : Num → Num → Num
  | .nan, _ => .nan
  | _, .nan => .nan
  | .inf a, .inf b => if a = b then .inf a else .nan
  | .inf a, .fin .. => .inf a
  | .fin .., .inf b => .inf b
  | .fin na ma ea, .fin nb mb eb =>
    let e := if ea ≤ eb then ea else eb
    let x : Int := (ma * 2 ^ (ea - e).toNat : Nat)
    let y : Int := (mb * 2 ^ (eb - e).toNat : Nat)
    let z := (if na then -x else x) + (if nb then -y else y)
    if z = 0 then .fin (na && nb) 0 e else .fin (decide (z < 0)) z.natAbs e

/-- The product, exact. -/
def Num.mul : Num → Num → Num
  | .nan, _ => .nan
  | _, .nan => .nan
  | .inf a, .inf b => .inf (a != b)
  | .inf a, .fin b m _ => if m = 0 then .nan else .inf (a != b)
  | .fin a m _, .inf b => if m = 0 then .nan else .inf (a != b)
  | .fin a m e, .fin b n g => .fin (a != b) (m * n) (e + g)

/-- The value negated. -/
def Num.neg : Num → Num
  | .nan => .nan
  | .inf a => .inf (!a)
  | .fin a m e => .fin (!a) m e

/-- The magnitude. -/
def Num.abs : Num → Num
  | .nan => .nan
  | .inf _ => .inf false
  | .fin _ m e => .fin false m e

/-- Whether the value is zero. -/
def Num.isZero : Num → Bool
  | .fin _ 0 _ => true
  | _ => false

/-- Whether the value is a number that is not infinite. -/
def Num.isFinite : Num → Bool
  | .fin .. => true
  | _ => false

/-- Whether the first is less than the second; false with a NaN. -/
def Num.lt : Num → Num → Bool
  | .nan, _ => false
  | _, .nan => false
  | .inf a, .inf b => a && !b
  | .inf a, .fin .. => a
  | .fin .., .inf b => !b
  | .fin na ma ea, .fin nb mb eb =>
    let e := if ea ≤ eb then ea else eb
    let x : Int := (ma * 2 ^ (ea - e).toNat : Nat)
    let y : Int := (mb * 2 ^ (eb - e).toNat : Nat)
    decide ((if na then -x else x) < (if nb then -y else y))

/-- The larger of two magnitudes, for amax folds; the first when neither is larger. -/
def Num.max (a b : Num) : Num := if a.lt b then b else a

/-- A whole number as an exact value. -/
def Num.ofInt (i : Int) : Num := .fin (decide (i < 0)) i.natAbs 0

/-- A power of two. -/
def Num.pow2 (e : Int) : Num := .fin false 1 e

/-- Plus zero. -/
def Num.zero : Num := .fin false 0 0

/-! Rounded operations of one format. -/

/-- The rounded sum. -/
def Fmt.add (f : Fmt) (a b : Nat) : Nat := f.encode ((f.decode a).add (f.decode b))
/-- The rounded product. -/
def Fmt.mul (f : Fmt) (a b : Nat) : Nat := f.encode ((f.decode a).mul (f.decode b))
/-- The rounded fused multiply-add. -/
def Fmt.fma (f : Fmt) (a b c : Nat) : Nat := f.encode (((f.decode a).mul (f.decode b)).add (f.decode c))
/-- The sign turned. -/
def Fmt.negate (f : Fmt) (a : Nat) : Nat := a ^^^ 2 ^ (f.exp + f.man)
/-- The rounded difference. -/
def Fmt.sub (f : Fmt) (a b : Nat) : Nat := f.encode ((f.decode a).add (f.decode b).neg)

/-- The quotient of two exact values, rounded once (IEEE 754). -/
def Fmt.divNum (f : Fmt) : Num → Num → Nat
  | .nan, _ => f.nan
  | _, .nan => f.nan
  | .inf _, .inf _ => f.nan
  | .inf a, .fin b _ _ => f.inf (a != b)
  | .fin a _ _, .inf b => ofBool (a != b) <<< (f.exp + f.man)
  | .fin a m e, .fin b n g =>
    if n = 0 then (if m = 0 then f.nan else f.inf (a != b)) else f.round (a != b) m n (e - g)

/-- The rounded quotient. -/
def Fmt.div (f : Fmt) (a b : Nat) : Nat := f.divNum (f.decode a) (f.decode b)

/-- The integer square root, by bits from `fuel` down. -/
def isqrtFrom (n : Nat) : Nat → Nat → Nat
  | 0, r => r
  | k + 1, r => if (r + 2 ^ k) * (r + 2 ^ k) ≤ n then isqrtFrom n k (r + 2 ^ k) else isqrtFrom n k r

/-- The integer square root. -/
def isqrt (n : Nat) : Nat := isqrtFrom n (n.log2 / 2 + 1) 0

/-- The square root of an exact value, rounded once (IEEE 754). -/
def Fmt.sqrtNum (f : Fmt) : Num → Nat
  | .nan => f.nan
  | .inf neg => if neg then f.nan else f.inf false
  | .fin neg m e =>
    if m = 0 then ofBool neg <<< (f.exp + f.man)
    else if neg then f.nan
    else
      let odd := e % 2 = 1
      let m1 := if odd then 2 * m else m
      let e1 := if odd then e - 1 else e
      let k := 2 * f.man + 8
      let big := m1 * 2 ^ (2 * k)
      let r := isqrt big
      f.round false (2 * r + ofBool (decide (r * r ≠ big))) 1 (e1 / 2 - k - 1)

/-- The rounded square root. -/
def Fmt.sqrt (f : Fmt) (a : Nat) : Nat := f.sqrtNum (f.decode a)

/-- Whether a code is a NaN. -/
def Fmt.isNan (f : Fmt) (a : Nat) : Bool := decide (f.decode a = .nan)

/-- A code of one format rounded to another. -/
def convert (src dst : Fmt) (a : Nat) : Nat := dst.encode (src.decode a)

/-! E4M3 data (R48, R70). -/

/-- The exact value of an E4M3 datum. -/
def decodeE4m3 (b : Nat) : Num :=
  let neg := b.testBit 7
  let e := bits b 6 3
  let m := b % 8
  if b % 128 = 127 then .nan
  else if e = 0 then .fin neg m (-9)
  else .fin neg (8 + m) ((e : Int) - 10)

/-- The E4M3 code of a value (R70): a finite value rounds and saturates to 448, an infinity is NaN. -/
def encodeE4m3 : Num → Nat
  | .nan => 0x7F
  | .inf _ => 0x7F
  | .fin neg m e =>
    let mag := (Fmt.mk 4 3).roundMag m 1 e
    ofBool neg <<< 7 ||| (if mag ≤ 0x7E then mag else 0x7E)

/-! Four-bit elements (R43, R44, R59). -/

/-- The integer form of an element code: format 0 E2M1, 1 S4, 2 U4 (R43). -/
def elemInt (fmt code : Nat) : Int :=
  if fmt = 0 then
    let mag : Int := [0, 1, 2, 3, 4, 6, 8, 12].getD (code % 8) 0
    if 8 ≤ code % 16 then -mag else mag
  else if fmt = 1 then signed 4 code
  else (code % 16 : Nat)

/-- The power of two by which the integer form exceeds the value (R43). -/
def elemD (fmt : Nat) : Int := if fmt = 0 then 1 else 0

/-- The largest magnitude that the quantiser writes (R43). -/
def qmax (fmt : Nat) : Nat := if fmt = 0 then 6 else if fmt = 1 then 7 else 15

/-- A quotient `n / d` rounded to the extended E2M1 values (R59), in half units. -/
def roundE2m1Half (n d : Nat) : Nat :=
  if n < 2 * d then rneDiv (2 * n) d
  else if n < 4 * d then 2 * rneDiv n d
  else 4 * rneDiv n (2 * d)

/-- The E2M1 magnitude code of a magnitude in half units, at most 12. -/
def e2m1Code (half : Nat) : Nat :=
  if half ≤ 4 then half else if half ≤ 6 then 5 else if half ≤ 8 then 6 else 7

/-- The element code of the quotient of sign `neg` and magnitude `n / d`, and whether it was clamped (R59, R44). -/
def quantElem (fmt : Nat) (neg : Bool) (n d : Nat) : Nat × Bool :=
  if fmt = 0 then
    let h := roundE2m1Half n d
    let c := e2m1Code (min h 12)
    (if c = 0 then 0 else if neg then 8 + c else c, decide (12 < h))
  else
    let r := rneDiv n d
    if fmt = 1 then
      if neg then (if r ≤ 8 then ((16 - r) % 16, false) else (8, true))
      else (if r ≤ 7 then (r, false) else (7, true))
    else
      if neg ∧ r ≠ 0 then (0, true) else if neg then (0, false) else if r ≤ 15 then (r, false) else (15, true)

/-! Fine scales (R45, R46). -/

/-- What a fine-scale code says; `e4m3` selects the Scaled profile's encoding. -/
inductive Fine where
  | zero
  | poison
  | reserved
  | scale (m : Nat) (e : Int)
  deriving DecidableEq, Repr

/-- The meaning of a fine-scale code (R45, R46). -/
def fineScale (e4m3 : Bool) (code : Nat) : Fine :=
  if code = 0 then .zero
  else if e4m3 then
    if 0x80 ≤ code then .reserved
    else if code = 0x7F then .poison
    else if code < 8 then .scale code (-9)
    else .scale (8 + code % 8) ((code / 8 : Nat) - 10)
  else if code = 0xFF then .poison
  else .scale 1 ((code : Int) - 127)

/-- The largest usable fine-scale code (R58). -/
def fineMax (e4m3 : Bool) : Nat := if e4m3 then 0x7E else 0xFE

/-- The fine-scale code of the Rotated profile for `n / d * 2^e`: the smallest power of two not below it (R58). -/
def fineUe8m0 (n d : Nat) (e : Int) : Nat :=
  let k := floorLog n d
  let exact := if 0 ≤ k then decide (n = d * 2 ^ k.toNat) else decide (n * 2 ^ (-k).toNat = d)
  let x := k + e + (if exact then 0 else 1) + 127
  if x < 1 then 1 else if x > 0xFE then 0xFE else x.toNat

/-- The fine-scale code of the Scaled profile for `n / d * 2^e`: the smallest code whose value is not below it (R58). -/
def fineE4m3 (n d : Nat) (e : Int) : Nat :=
  let up (q : Int) : Nat :=
    if q ≤ e then (n * 2 ^ (e - q).toNat + d - 1) / d else (n + d * 2 ^ (q - e).toNat - 1) / (d * 2 ^ (q - e).toNat)
  let ex := floorLog n d + e
  if ex < -6 then
    let c := up (-9)
    if c < 1 then 1 else c
  else
    let c := ((ex + 6).toNat <<< 3) + up (ex - 3)
    if c > 0x7E then 0x7E else c

end Sys2Proof.Machine
end

