-- ==== Sys2Proof/Machine/Memory.lean ====
section
/-! DEFINITION. Memory as its users reach it: the local address map (R35), translation (R39), placement (R308, R328),
ownership, poison and re-form checks (R313, R315, R324), tally and guyline words as they read (R277, R290), and the
memory-side adders (R316). -/
namespace Sys2Proof.Machine

open Sys2Proof

/-! Configuration in force. -/

/-- L, the number of live pseudo-channels (R308). -/
def State.liveN (s : State) : Nat := s.fld Reg.HBM_MAP_LIVE_N

/-- Whether a physical pseudo-channel is live. -/
def State.pcLive (s : State) (n : Nat) : Bool := (s.fld Reg.HBM_LIVE_LIVE 0 (n / 32)).testBit (n % 32)

/-- The physical numbers of the live pseudo-channels, ascending (R308). -/
def State.liveList (s : State) : List Nat := (List.range 512).filter s.pcLive

/-- Whether a Shelf bank is live. -/
def State.bankLive (s : State) (die b : Nat) : Bool := (s.fld Reg.SHF_LIVE_LIVE die (b / 32)).testBit (b % 32)

/-- HBM is in self-refresh: DOZE or a stop (R332). -/
def State.hbmAsleep (s : State) : Bool := s.fld Reg.LNT_STATUS_STATE == 2 || s.fld Reg.LNT_STATUS_STATE == 4

/-- Whether the engine islands stand still (R411, R418): in every power state but ACTIVE. -/
def State.engGated (s : State) : Bool := s.fld Reg.LNT_STATUS_STATE != 0

/-- Whether the Peg-and-vector islands stand still: in every power state but ACTIVE; a stop gates them only at its step 4 (R411). -/
def State.campsGated (s : State) : Bool :=
  s.fld Reg.LNT_STATUS_STATE != 0 && !(s.fld Reg.LNT_STATUS_STATE == 4 && s.power.stop == 1 && s.power.before == 0)

/-! Cycle counters (R33), numbered by island as R425 orders them: 128 engines, 16 camps, 128 Shelf bank groups, 8 stacks, 2 link islands,
13 Harbour blocks. -/

/-- The key under which a cycle counter's last reading is kept. -/
def cycleKey (i : Nat) : Nat := 1024 + i

/-- The key under which it is kept that a counter has been read since its island stopped, so that it holds what it read. -/
def holdKey (i : Nat) : Nat := 2048 + i

/-- The security block and the flash controller powered up in STANDBY for work that needs them, their counters from 0 (R26, R33). -/
def State.standbyPower (s : State) : State :=
  if s.fld Reg.LNT_STATUS_STATE = 3 ∧ !(s.sec.powered && s.sec.flashOn) then
    { s with
      sec := { s.sec with powered := true, flashOn := true, evSeen := s.evs.nextSeq }
      rems := [291, 294].foldl (fun m i => sset 0 (sset 0 m (cycleKey i) 0) (holdKey i) 0) s.rems }
  else s

/-- Whether work in STANDBY needs the two blocks (R26): entries on their way to flash, or event records not yet taken. -/
def State.standbyWork (s : State) : Bool :=
  !s.sec.log.buffered.isEmpty || !s.sec.log.ahead.isEmpty || !s.sec.log.later.isEmpty || s.evs.nextSeq != s.sec.evSeen

/-- Islands whose clocks may run again: their counters hold no longer. -/
def State.countersRun (s : State) : State := { s with rems := sclear (holdKey 0) (holdKey 295) s.rems }

/-! Regions (R35). -/

/-- Where a local address lies; the last two carry the offset within the tally or guyline page. -/
inductive Region where
  | hbm
  | shelf
  | cove (engine : Nat)
  | store (camp : Nat)
  | tally (camp off : Nat)
  | guyline (guy off : Nat)
  | control
  | reserved
  deriving DecidableEq, Repr

/-- The start of Shelf memory. -/
def shelfBase : Nat := 0x010000000000
/-- The start of the Cove buffers. -/
def coveBase : Nat := 0x011000000000
/-- The start of the vector local stores. -/
def storeBase : Nat := 0x011100000000
/-- The start of the tally pages. -/
def tallyBase : Nat := 0x012000000000
/-- The start of the guyline pages. -/
def guyBase : Nat := 0x012002000000

/-- The region of a local address (R35). -/
def region (a : Nat) : Region :=
  if a < 2 ^ 39 then .hbm
  else if shelfBase ≤ a ∧ a < shelfBase + 2 ^ 32 then .shelf
  else if coveBase ≤ a ∧ a < coveBase + 2 ^ 28 then .cove ((a - coveBase) / 2 ^ 21)
  else if storeBase ≤ a ∧ a < storeBase + 2 ^ 26 then .store ((a - storeBase) / 2 ^ 22)
  else if tallyBase ≤ a ∧ a < tallyBase + 2 ^ 25 then .tally ((a - tallyBase) / 2 ^ 21) ((a - tallyBase) % 2 ^ 21)
  else if guyBase ≤ a ∧ a < guyBase + 2 ^ 26 then .guyline ((a - guyBase) / 2 ^ 21) ((a - guyBase) % 2 ^ 21)
  else if ctlBase ≤ a ∧ a < ctlBase + 2 ^ 36 then .control
  else .reserved

/-! Placement. -/

/-- The keyed hash f of a slot (R308). -/
def hashSlot (k0 k1 k2 slot : Nat) : Nat :=
  let x := ((slot ^^^ k0) * k1) % 2 ^ 32
  let y := x ^^^ (x >>> 15)
  ((y * k2) % 2 ^ 32) >>> 23

/-- The live index and the slot of a granule among `l` pseudo-channels (R308). -/
def placeGranule (k0 k1 k2 l g : Nat) : Nat × Nat :=
  let slot := g / l
  ((g % l + hashSlot k0 k1 k2 slot) % l, slot)

/-- The granule at a live index and slot: the inverse that R308 gives. -/
def granuleAt (k0 k1 k2 l c slot : Nat) : Nat := slot * l + (c + l - hashSlot k0 k1 k2 slot % l) % l

/-- The physical pseudo-channel and slot of an HBM address (R308). -/
def State.place (s : State) (a : Nat) : Nat × Nat :=
  let (c, slot) := placeGranule (s.fld Reg.HBM_HASH_KEY_K0) (s.fld Reg.HBM_HASH_KEY_K1) (s.fld Reg.HBM_HASH_KEY_K2)
    s.liveN (a / 256)
  (s.liveList.getD c 0, slot)

/-- The die and physical bank of a Shelf address (R328). -/
def State.shelfBank (s : State) (a : Nat) : Nat × Nat :=
  let die := (a - shelfBase) / 2 ^ 31
  let line := (a - shelfBase) % 2 ^ 31 / 64
  let live := (List.range 1024).filter (s.bankLive die)
  (die, live.getD (line % s.fld Reg.SHF_MAP_LIVE_N die) 0)

/-! Translation (R39, R432). -/

/-- The local address of a pitch address, or none where the pitch's table maps nothing. -/
def translate (m : PageMap) (a : Nat) : Option Nat :=
  match region a with
  | .hbm => m.pages[a / 2 ^ 21]?.map fun p => p * 2 ^ 21 + a % 2 ^ 21
  | .shelf =>
    let off := a - shelfBase
    let slabs := if off < 2 ^ 31 then m.slabs0 else m.slabs1
    slabs[off % 2 ^ 31 / 2 ^ 26]?.map fun n => shelfBase + n * 2 ^ 26 + off % 2 ^ 26
  | .cove e => if m.camps.testBit (e / 8) && !m.dark.testBit (e / 8) then some a else none
  | .store c => if m.camps.testBit c && !m.dark.testBit c then some a else none
  | .tally c _ => if m.camps.testBit c then some a else none
  | .guyline g _ => if m.guys.testBit g then some a else none
  | .control => none
  | .reserved => none

/-- The empty map. -/
def PageMap.empty : PageMap := { camps := 0, guys := 0, pages := [], slabs0 := [], slabs1 := [], dark := 0 }

/-- A pitch's record before it is ever assigned. -/
def PitchRec.empty : PitchRec :=
  { map := .empty, joiningPages := [], joiningSlabs := [], hbmKey := none, fabKey := none, spdKey := none, rotSeed := none }

/-- A pitch's record. -/
def State.pitchRec (s : State) (p : Nat) : PitchRec := sget .empty s.sec.pitches p

/-- A pitch's translation in force. -/
def State.mapOf (s : State) (p : Nat) : PageMap := (s.pitchRec p).map

/-- The pitch that a camp belongs to: the pitch whose map holds it, else 0. -/
def State.campPitch (s : State) (c : Nat) : Nat :=
  ((List.range 9).find? fun p => (s.mapOf p).camps.testBit c).getD 0

/-! Tally and guyline words as they read. -/

/-- A tally at reset (R277). -/
def Tally.reset : Tally := { limit := 0xFFFFFFFF, count := 0 }

/-- Whether a camp is out of service: its latch reads FENCED or RETURNING (R469, R473). -/
def State.campFenced (s : State) (c : Nat) : Bool := decide (2 ≤ s.fld Reg.FEN_STATE_CAMP_STATE c)

/-- Whether the die's redirect of a camp's tallies is set (R474). -/
def State.tallyMoved (s : State) (c : Nat) : Bool := s.rel.moved.any fun m => decide (m.1 = c)

/-- The key of a tally's word: the guest bank while a redirect is set (R282, R474). -/
def State.tallyKey (s : State) (c t : Nat) : Nat :=
  if s.tallyMoved c then (16 + c) * 1024 + t else c * 1024 + t

/-- Whether a camp's tallies can be reached (R282). -/
def State.tallyReachable (s : State) (c : Nat) : Bool := !s.campFenced c || s.tallyMoved c

/-- A tally word. -/
def State.tally (s : State) (c t : Nat) : Tally := sget .reset s.sync.tallies (s.tallyKey c t)

/-- The state with a tally word set. -/
def State.setTally (s : State) (c t : Nat) (w : Tally) : State :=
  { s with sync := { s.sync with tallies := sset .reset s.sync.tallies (s.tallyKey c t) w } }

/-- A guyline's record after a reset (R290). -/
def GuyRec.reset : GuyRec :=
  { gen := 0, releases := 0, latchEven := 0, latchOdd := 0, arrivals := 0, fbRound := 0, lastDev := 0, lastThr := 0, lastSlack := 0 }

/-- A guyline's record. -/
def State.guy (s : State) (g : Nat) : GuyRec := sget .reset s.sync.guys g

/-- The 512 bits of a guyline's record as it reads (R290). -/
def State.guyWord (s : State) (g : Nat) : Nat :=
  let r := s.guy g
  r.releases ||| r.gen <<< 32 ||| s.fld Reg.GUY_CFG_PITCH g <<< 64 ||| s.fld Reg.GUY_CFG_FABRIC g <<< 75
    ||| s.fld Reg.GUY_CFG_LOCAL_N g <<< 76 ||| s.fld Reg.GUY_CFG_CAMP_MASK g <<< 80 ||| r.latchEven <<< 96
    ||| r.latchOdd <<< 112 ||| r.arrivals <<< 256 ||| r.lastThr <<< 387 ||| r.lastDev <<< 388
    ||| r.lastSlack <<< 400 ||| r.fbRound <<< 416

/-- The bytes at a local address as a read returns them. -/
def State.bytesAt (s : State) (a n : Nat) : Bytes :=
  match region a with
  | .tally c off =>
    ((List.range n).map fun i =>
      let o := off + i
      let w := s.tally c (o / 8)
      bits (w.limit <<< 32 ||| w.count) (8 * (o % 8) + 7) (8 * (o % 8)))
  | .guyline g off => ((List.range n).map fun i => bits (s.guyWord g) (8 * (off + i) + 7) (8 * (off + i)))
  | _ => readBytes s.mem a n

/-! Checks of one access. -/

/-- How an access ends: with a value, with a fault code at a local (or unmapped pitch) address, or held. -/
inductive Acc (α : Type) where
  | ok (v : α)
  | err (code addr : Nat)
  | wait
  deriving Repr

/-- The owner of an HBM page (R313); pages above the live ones are withdrawn (R325). -/
def State.pageOwner (s : State) (page : Nat) : Nat := if s.liveN * 512 ≤ page then 0xE else sget 0xF s.ras.owners page

/-- The owner of a Shelf slab (R330). -/
def State.slabOwner (s : State) (slab : Nat) : Nat := sget 0xF s.ras.slabOwners slab

/-- Whether a descriptor in flight was issued under a translation that names a page: its camp has passed no descriptor boundary since. -/
def State.pageNamed (s : State) (page : Nat) : Bool :=
  s.slots.any fun e => (e.2.main.flights ++ ((e.2.chain.map fun c => c.2.flights).getD [])).any fun f => f.map.pages.contains page

/-- A local address after the mover's redirects, each of which stays until every camp has passed a descriptor boundary (R323). -/
def State.redirected (s : State) (a : Nat) : Nat :=
  match s.ras.redirect.find? fun r => decide (r.1 = a / 2 ^ 21) with
  | some r => if s.pageNamed r.1 then r.2 * 2 ^ 21 + a % 2 ^ 21 else a
  | none => a

/-- L and EPOCH that an event about a local address names (R336): a Shelf die's B and EPOCH for an address of its own. -/
def State.memWidth (s : State) (a : Nat) : Nat × Nat :=
  match region a with
  | .shelf => (s.fld Reg.SHF_MAP_LIVE_N ((a - shelfBase) / 2 ^ 31), s.fld Reg.SHF_MAP_EPOCH ((a - shelfBase) / 2 ^ 31))
  | _ => (s.liveN, s.fld Reg.HBM_MAP_EPOCH)

/-- The DETAIL of an event about a local address (R336): the pin or symbol position and the sub-cause beside it. -/
def State.memDetail (s : State) (a : Nat) (sub : Nat := 0) (pos : Nat := 0) : Nat :=
  atBytes [(0, a), (8, pos), (9, sub), (10, (s.memWidth a).1), (12, (s.memWidth a).2)]

/-- What a 64-byte line lets a pitch do: 0 to go on, 1 to wait, or a fault code (R282, R313, R315, R322-R324, R331).
`whole` tells a full write, which poison does not stop. -/
def State.lineGate (s : State) (pitch a : Nat) (whole : Bool) : Nat :=
  match region a with
  | .hbm =>
    if s.fld Reg.HBM_MAP_STATE = 1 then Code.MEM_REFORM
    else if s.liveN * 2 ^ 30 ≤ a then Code.ADDRESS_RESERVED
    else if s.pageOwner (a / 2 ^ 21) ≠ pitch then Code.MEM_OWNER_MISMATCH
    else if s.hbmAsleep ∨ (s.ras.moving.map (·.1)) = some (a / 2 ^ 21) ∨ s.fld Reg.HBM_PC_STATUS_STATE (s.place a).1 = 1 then 1
    else if a / 64 ∈ s.ras.poison ∧ ¬whole then Code.MEM_POISONED
    else 0
  | .shelf =>
    let die := (a - shelfBase) / 2 ^ 31
    let slab := (a - shelfBase) / 2 ^ 26
    if s.fld Reg.SHF_MAP_STATE die = 1 then Code.MEM_REFORM
    else if s.fld Reg.SHF_MAP_SLABS die ≤ slab % 32 then Code.ADDRESS_RESERVED
    else if s.slabOwner slab ≠ pitch then Code.MEM_OWNER_MISMATCH
    else if a / 64 ∈ s.ras.poison ∧ ¬whole then Code.MEM_POISONED
    else 0
  | .cove _ => 0
  | .store _ => 0
  | .tally c off =>
    if 2 ^ 13 ≤ off then Code.ADDRESS_RESERVED
    else if !s.tallyReachable c then Code.TALLY_UNREACHABLE
    else if s.campsGated then 1
    else 0
  | .guyline _ off => if 64 ≤ off then Code.ADDRESS_RESERVED else 0
  | .control => Code.ADDRESS_RESERVED
  | .reserved => Code.ADDRESS_RESERVED

/-- The pieces of a run of bytes that lie in one 64-byte line each: start and length. -/
def linePieces (a n : Nat) : List (Nat × Nat) :=
  if n = 0 then []
  else (List.range ((a + n - 1) / 64 + 1 - a / 64)).map fun i =>
    let lo := max a (64 * (a / 64 + i))
    (lo, min (a + n) (64 * (a / 64 + i + 1)) - lo)

/-- Whether a read of tally words has the form that R278 asks, whole 4-byte halves, and one of a guyline's record that of R290, an aligned
load (log 34). -/
def tallyForm (a n : Nat) : Bool :=
  match region a with
  | .tally .. => a % 4 == 0 && n % 4 == 0
  | .guyline .. => [1, 2, 4, 8, 16, 32, 64].contains n && a % n == 0
  | _ => true

/-- What a pitch address that its table does not map answers: a re-form of the memory it lies in, else ADDRESS_RESERVED (R38, R324,
R331). -/
def State.unmapped (s : State) (a : Nat) : Nat :=
  match region a with
  | .hbm => if s.fld Reg.HBM_MAP_STATE = 1 then Code.MEM_REFORM else Code.ADDRESS_RESERVED
  | .shelf => if s.fld Reg.SHF_MAP_STATE ((a - shelfBase) / 2 ^ 31) = 1 then Code.MEM_REFORM else Code.ADDRESS_RESERVED
  | _ => Code.ADDRESS_RESERVED

/-- A read by a pitch through a translation (R38, R39): piece by piece, the first failure deciding. -/
def State.readPieces (s : State) (pitch : Nat) (m : PageMap) : List (Nat × Nat) → Acc Bytes
  | [] => .ok []
  | (a, n) :: rest =>
    match translate m a with
    | none => .err (s.unmapped a) a
    | some l =>
      let l := s.redirected l
      let g := s.lineGate pitch l false
      if g = 1 then .wait
      else if g ≠ 0 then .err g l
      else
        match s.readPieces pitch m rest with
        | .ok bs => .ok (s.bytesAt l n ++ bs)
        | e => e

/-- A read of `n` bytes at a pitch address. -/
def State.readAt (s : State) (pitch : Nat) (m : PageMap) (a n : Nat) : Acc Bytes :=
  if !tallyForm a n then .err Code.ADDRESS_RESERVED a else s.readPieces pitch m (linePieces a n)

/-- A read of one little-endian number. -/
def State.readNum (s : State) (pitch : Nat) (m : PageMap) (a n : Nat) : Acc Nat :=
  match s.readAt pitch m a n with
  | .ok bs => .ok (ofBytes bs)
  | .err c l => .err c l
  | .wait => .wait

/-- Where an address lies when a write may not go there: a tally or guyline page (R278, R290), or a Cove buffer when
the path is not its own port's (R42; `mover` names the camp whose DMA mover writes, or none). -/
def writeRefusal (a : Nat) (mover : Option Nat) : Nat :=
  match region a with
  | .cove e => if mover = some (e / 8) then 0 else Code.COVE_WRITE_REFUSED
  | .tally .. => Code.ADDRESS_RESERVED
  | .guyline .. => Code.ADDRESS_RESERVED
  | _ => 0

/-- Whether every piece of a write may be performed: 0, 1 to wait, or the first fault code and its address. -/
def State.writeGate (s : State) (pitch : Nat) (m : PageMap) (mover : Option Nat) : List (Nat × Nat) → Nat × Nat
  | [] => (0, 0)
  | (a, n) :: rest =>
    match translate m a with
    | none => (s.unmapped a, a)
    | some l =>
      let l := s.redirected l
      let r := writeRefusal l mover
      if r ≠ 0 then (r, l)
      else
        let g := s.lineGate pitch l (decide (n = 64))
        if g ≠ 0 then (g, l) else s.writeGate pitch m mover rest

/-- One codeword or line read or written, counted in its traffic counter (R333, R335). -/
def State.countLine (s : State) (l : Nat) : State :=
  match region l with
  | .hbm => s.accum Reg.HBM_TRAFFIC 1 (s.place l).1
  | .shelf =>
    let die := (l - shelfBase) / 2 ^ 31
    let total := sget 0 s.rems die + 64
    { (s.accum Reg.SHF_TRAFFIC_4K (total / 4096) die) with rems := sset 0 s.rems die (total % 4096) }
  | _ => s

/-- Bytes stored piece by piece, each piece at its local address; a whole line loses its poison (R315, log 37). -/
def State.storePieces (s : State) (m : PageMap) : List (Nat × Nat) → Bytes → State
  | [], _ => s
  | (a, n) :: rest, bs =>
    let l := s.redirected ((translate m a).getD 0)
    let s1 := (s.store l (bs.take n)).countLine l
    let s2 := if n = 64 then { s1 with ras := { s1.ras with poison := s1.ras.poison.filter (· ≠ l / 64) } } else s1
    s2.storePieces m rest (bs.drop n)

/-- A write of bytes at a pitch address, checked whole before it is made (log 12). -/
def State.writeAt (s : State) (pitch : Nat) (m : PageMap) (mover : Option Nat) (a : Nat) (bs : Bytes) : Acc State :=
  let ps := linePieces a bs.length
  let (g, l) := s.writeGate pitch m mover ps
  if g = 1 then .wait else if g ≠ 0 then .err g l else .ok (s.storePieces m ps bs)

/-! Adders (R316). -/

/-- The element types of an add request. -/
inductive AddType where
  | fp32 | bf16 | widening | int32 | int64
  deriving DecidableEq, Repr

/-- The bytes of an element in memory. -/
def AddType.size : AddType → Nat
  | .fp32 => 4 | .bf16 => 2 | .widening => 4 | .int32 => 4 | .int64 => 8

/-- The bytes of an addend. -/
def AddType.addend : AddType → Nat
  | .fp32 => 4 | .bf16 => 2 | .widening => 2 | .int32 => 4 | .int64 => 8

/-- The element type that an operand code names. -/
def AddType.ofCode (n : Nat) : AddType :=
  if n = 0 then .fp32 else if n = 1 then .bf16 else if n = 2 then .widening else if n = 3 then .int32 else .int64

/-- A two's complement sum of `w` bits, and 1 when it wrapped (log 71). -/
def addWrap (w a b : Nat) : Nat × Nat :=
  let z := signed w a + signed w b
  ((a + b) % 2 ^ w, ofBool (decide (z ≠ signed w ((a + b) % 2 ^ w))))

/-- One element added at its adder: the new element, and 1 when an integer sum wrapped. -/
def addElem (t : AddType) (old x : Nat) : Nat × Nat :=
  match t with
  | .fp32 => (fp32.add old x, 0)
  | .bf16 => (bf16.add old x, 0)
  | .widening => (fp32.encode ((fp32.decode old).add (bf16.decode x)), 0)
  | .int32 => addWrap 32 old x
  | .int64 => addWrap 64 old x

/-- A run of elements added: the addends as numbers in order, `none` where the mask leaves an element alone. -/
def addRun (t : AddType) : Bytes → List (Option Nat) → Bytes × Nat
  | old, [] => (old, 0)
  | old, x :: rest =>
    let o := ofBytes (old.take t.size)
    let (v, w) := match x with
      | some x => addElem t o x
      | none => (o, 0)
    let (bs, ws) := addRun t (old.drop t.size) rest
    (toBytes t.size v ++ bs, w + ws)

/-- The counter of wrapped integer adds at a local address, with its instance and location. -/
def State.countWraps (s : State) (pitch l n : Nat) : State :=
  if n = 0 then s
  else match region l with
  | .hbm => s.bump Ctr.HBM_INT_WRAP pitch (locPc (s.place l).1) (s.place l).1 n (detail := atBytes [(0, l)])
  | .shelf => s.bump Ctr.SHF_INT_WRAP pitch (locBank (s.shelfBank l).1 0) (s.shelfBank l).1 n (detail := atBytes [(0, l)])
  | _ => s

/-- The wraps of an add counted where each line stands: its pieces, the bytes before, the addends. -/
def State.countRun (s : State) (pitch : Nat) (m : PageMap) (t : AddType) : List (Nat × Nat) → Bytes → List (Option Nat) → State
  | [], _, _ => s
  | (a, n) :: rest, old, xs =>
    let k := n / t.size
    (s.countWraps pitch (s.redirected ((translate m a).getD 0)) (addRun t (old.take n) (xs.take k)).2).countRun pitch m t rest (old.drop n)
      (xs.drop k)

/-- An add of elements at a pitch address, which must lie in HBM or Shelf memory (R316). -/
def State.addAt (s : State) (pitch : Nat) (m : PageMap) (t : AddType) (a : Nat) (xs : List (Option Nat)) : Acc State :=
  let n := xs.length * t.size
  match s.readAt pitch m a n with
  | .wait => .wait
  | .err c l => .err c l
  | .ok old =>
    let sum : Acc State := match s.writeAt pitch m none a (addRun t old xs).1 with
      | .ok s1 => .ok (s1.countRun pitch m t (linePieces a n) old xs)
      | e => e
    match region ((translate m a).getD 0) with
    | .cove _ => .err Code.COVE_WRITE_REFUSED a
    | .hbm => sum
    | .shelf => sum
    | _ => .err Code.ADDRESS_RESERVED a

/-- The location of an event about a local address (R336). -/
def State.locMem (s : State) (l : Nat) : Nat :=
  match region l with
  | .hbm => locPc (s.place l).1
  | .shelf => locBank (s.shelfBank l).1 (s.shelfBank l).2
  | .cove e => locEngine e
  | .store c => locVector c
  | .tally c off => locTally c (off / 8)
  | .guyline g _ => locGuy g
  | _ => locPackage

end Sys2Proof.Machine
end

