-- ==== Sys2Proof/Machine/Fabric.lean ====
section
/-! DEFINITION. The Tideway fabric below its collectives (chapter 12): packets, routing, the link layer of each port, the
pair tracker, requests at their source, and the link's own happenings. -/
namespace Sys2Proof.Machine

open Sys2Proof

/-! Packets (R344, R345). -/

/-- The packet kinds. -/
def kindRead : Nat := 0x01
def kindWrite : Nat := 0x02
def kindAdd : Nat := 0x03
def kindAddReduce : Nat := 0x04
def kindAmo : Nat := 0x05
def kindPull : Nat := 0x06
def kindSignal : Nat := 0x08
def kindCompletion : Nat := 0x10
def kindMessage : Nat := 0x18

/-- An empty packet. -/
def blankPacket : Packet :=
  { kind := 0, subtype := 0, pitch := 0, job := 0, src := 0, dst := 0, addr := 0, seqn := 0, tag := 0, status := 0, etype := 0,
    hops := 0, iv := 0, vl := 0, body := [] }

/-- The class of a kind: 0 WRITE, 1 RESPONSE, 2 SIGNAL, 3 CONTROL. -/
def pktClass (p : Packet) : Nat :=
  if p.kind = kindSignal then 2 else if p.kind = kindCompletion then 1 else if p.kind = kindMessage then 3 else 0

/-- Whether a packet is a request, which is answered when it is discarded (R348). -/
def isRequest (p : Packet) : Bool := pktClass p == 0 || pktClass p == 2

/-- Whether a packet is a writing packet under R297. -/
def isWriting (p : Packet) : Bool := decide (p.kind ∈ [kindWrite, kindAdd, kindAddReduce, kindAmo])

/-- The 256-bit header of a packet (R344); LEN is the length of its payload. -/
def pktHeader (p : Packet) : Nat :=
  p.addr <<< 208 ||| p.seqn <<< 176 ||| p.tag <<< 160 ||| p.job <<< 144 ||| p.status <<< 128 ||| p.body.length <<< 119 ||| p.etype <<< 116
    ||| p.hops <<< 112 ||| p.pitch <<< 108 ||| p.subtype <<< 104 ||| p.kind <<< 96 ||| p.src <<< 84 ||| p.dst <<< 72 ||| p.iv

/-- The nonce of a packet (R349): SRC, DST and IV, which are the header's low 96 bits, in the header's order (log 126). -/
def pktNonce (p : Packet) : Bytes := (toBytes 32 (pktHeader p)).take 12

/-- The additional data of a packet (R349): its header with HOPS zero. -/
def pktAad (p : Packet) : Bytes := toBytes 32 (pktHeader { p with hops := 0 })

/-- The bytes of a packet that leaves its source (R344, R349): header, encrypted payload, tag. -/
def pktWire (key : Nat) (p : Packet) : Bytes := toBytes 32 (pktHeader p) ++ gcmSeal (toBytes 32 key) (pktNonce p) (pktAad p) p.body

/-! Flits (R339). -/

/-- The header of a flit without its CRC. -/
def flitHeader (ftype seq ack cls vl cred : Nat) : Nat :=
  seq <<< 116 ||| ack <<< 104 ||| ftype <<< 100 ||| cls <<< 98 ||| vl <<< 97 ||| cred <<< 64

/-- The 256 bytes of a flit: its header with the CRC over all of it, then its payload, zero to the end. -/
def flitBytes (ftype seq ack cls vl cred : Nat) (payload : Bytes) : Bytes :=
  let h := flitHeader ftype seq ack cls vl cred
  let body := payload ++ List.replicate (240 - payload.length) 0
  toBytes 16 (h ||| crc32 (toBytes 16 h ++ body)) ++ body

/-- The location of packet and collective events: Harbour block 0x01 (R364). -/
def locFabric : Nat := locHarbour 1

/-- The DETAIL of a fabric event (R364). -/
def fabDetail (dev port width ident addr : Nat) : Nat := atBytes [(0, dev), (2, port), (3, width), (4, ident), (8, addr)]

/-! Job and device. -/

/-- No job. -/
def Job.none : Job :=
  { num := 0, parts := [], gsize := 0, bf16Master := false, siteBase := 0, tensors := [], notKept := [], sizes := [], offered := [], rose := false, ending := false }

/-- The job of a pitch; number 0 when none runs. -/
def State.job (s : State) (p : Nat) : Job := sget .none s.jobs p

/-- The state with a pitch's job set. -/
def State.setJob (s : State) (p : Nat) (j : Job) : State := { s with jobs := sset .none s.jobs p j }

/-- This device's ID; 0xFFF while none is assigned, when no packet is sent or accepted. -/
def State.devId (s : State) : Nat := s.fld Reg.TWY_DEV_ID_ID

/-- Whether a pitch may send packets: the device has an ID (R363) and the pitch a fabric key (R443). -/
def State.canSend (s : State) (pitch : Nat) : Bool := s.devId != 0xFFF && (s.pitchRec pitch).fabKey.isSome

/-! Ports. -/

/-- A port whose link has carried nothing. -/
def PortRec.empty : PortRec :=
  { nextSeq := 0, expected := 0, buffer := [], queue := [], turn := 0, serving := [], deficit := [], replays := 0, nakSent := false,
    credit := [], owed := [], wasDown := true }

/-- A port's link layer. -/
def State.port (s : State) (n : Nat) : PortRec := sget .empty s.fab.ports n

/-- The state with a port's link layer set. -/
def State.setPort (s : State) (n : Nat) (r : PortRec) : State := { s with fab := { s.fab with ports := sset .empty s.fab.ports n r } }

/-- Whether a port is up. -/
def State.portUp (s : State) (n : Nat) : Bool := s.fld Reg.TWY_PORT_STATUS_STATE n == 2

/-- The CRED field: up to 15 flits of buffer space for each class and lane (R339). -/
def PortRec.cred (r : PortRec) : Nat :=
  (List.range 8).foldl (fun n k => n ||| min 15 (sget 0 r.owed k) <<< (4 * k)) 0

/-- The port after the space named in its CRED field is returned. -/
def PortRec.paid (r : PortRec) : PortRec :=
  { r with owed := (List.range 8).foldl (fun o k => sset 0 o k (sget 0 o k - min 15 (sget 0 o k))) r.owed }

/-- The port sends one flit, which carries its ACK and CRED. -/
def State.sendFlit (s : State) (n ftype seq cls vl : Nat) (payload : Bytes) : State :=
  let r := s.port n
  ((s.setPort n r.paid).accum Reg.TWY_TX_64B 4 n).send
    (.flit n ftype seq r.expected cls vl r.cred (flitBytes ftype seq r.expected cls vl r.cred payload))

/-- A pitch's fabric share in 1/256; pitch 0 always holds 4 (R353). -/
def State.fabricShare (s : State) (p : Nat) : Nat := if p = 0 then 4 else s.fld Reg.TWY_SHARE_SHARE p

/-- The bytes that a pitch may send in one turn of its class: in proportion to its share, and enough for any packet (R353, log 42). -/
def State.quantum (s : State) (p : Nat) : Nat := 304 * max 1 (s.fabricShare p)

/-- The class whose flit leaves next (R353): CONTROL first, else the next of the other three with something to send. -/
def PortRec.nextClass (r : PortRec) : Option Nat :=
  [3, (r.turn + 1) % 3, (r.turn + 2) % 3, r.turn % 3].find? fun c => r.queue.any fun x => pktClass x.pkt == c

/-- The packet of a class, in one lane if it is given, that a flit takes its next bytes from, and the port with the turn taken: one begun goes
on; CONTROL leaves in the order sent (R347); the other classes serve their pitches in deficit round robin (R353). -/
def State.pickItem (s : State) (r : PortRec) (cls : Nat) (vl : Option Nat) : Option PortItem × PortRec :=
  let mine := r.queue.filter fun x => pktClass x.pkt == cls && (match vl with
    | some v => x.pkt.vl == v
    | none => true)
  match mine.find? (·.begun) with
  | some x => (some x, r)
  | none =>
    if cls = 3 then (mine.head?, r)
    else
      let cur := sget 0 r.serving cls
      let first (q : Nat) : Option PortItem := mine.find? fun x => x.pkt.pitch == q
      match (first cur).filter fun x => decide (x.wire.length ≤ sget 0 r.deficit (16 * cls + cur)) with
      | some x => (some x, { r with deficit := sset 0 r.deficit (16 * cls + cur) (sget 0 r.deficit (16 * cls + cur) - x.wire.length) })
      | none =>
        match ((List.range 9).map fun i => (cur + 1 + i) % 9).find? fun q => (first q).isSome with
        | none => (none, r)
        | some q =>
          let left := (if q = cur then 0 else sget 0 r.deficit (16 * cls + q)) + s.quantum q
          let x := first q
          (x, { r with
            serving := sset 0 r.serving cls q
            deficit := sset 0 (if (first cur).isNone then sset 0 r.deficit (16 * cls + cur) 0 else r.deficit) (16 * cls + q)
              (left - (x.map (·.wire.length)).getD 0) })

/-- A packet of a queue after some of its bytes have left. -/
def cutItem (x : PortItem) (n : Nat) : List PortItem → List PortItem
  | [] => []
  | y :: rest =>
    if y = x then (if x.wire.length ≤ n then rest else { x with wire := x.wire.drop n, begun := true } :: rest)
    else y :: cutItem x n rest

/-- A flit's payload filled with packets of its class and lane, back to back (R339). -/
def State.fillFlit (s : State) (cls vl : Nat) : Nat → PortRec → FlitRec → PortRec × FlitRec
  | 0, r, f => (r, f)
  | fuel + 1, r, f =>
    let room := 240 - f.payload.length
    match s.pickItem r cls (some vl) with
    | (some x, r1) =>
      if room = 0 then (r, f)
      else s.fillFlit cls vl fuel { r1 with queue := cutItem x room r1.queue }
        { f with pkts := f.pkts ++ [x.pkt], payload := f.payload ++ x.wire.take room }
    | (none, _) => (r, f)

/-- The next flit of a port, and the port without what it carries. -/
def State.nextFlit (s : State) (r : PortRec) : Option (PortRec × FlitRec) :=
  match r.nextClass with
  | none => none
  | some cls =>
    match (s.pickItem r cls none).1 with
    | none => none
    | some x =>
      some (s.fillFlit cls x.pkt.vl 6 { r with turn := if cls = 3 then r.turn else cls }
        { seq := r.nextSeq, cls := cls, vl := x.pkt.vl, pkts := [], payload := [] })

/-- A port's waiting packets leave in flits, which stay in the replay buffer, while fewer than 2,047 are unacknowledged (R340). -/
def State.drainPort (n : Nat) : Nat → State → State
  | 0, s => s
  | fuel + 1, s =>
    let r := s.port n
    if 2047 ≤ r.buffer.length ∨ !s.portUp n then s
    else match s.nextFlit r with
      | none => s
      | some (r1, f) =>
        let k := 2 * f.cls + f.vl
        let s1 := s.setPort n { r1 with
          buffer := r1.buffer ++ [f], nextSeq := (r1.nextSeq + 1) % 4096
          credit := sset 0 r1.credit k (sget 0 r1.credit k - 1) }
        State.drainPort n fuel (s1.sendFlit n 0 f.seq f.cls f.vl f.payload)

/-- As many flits as a port's waiting packets can need. -/
def PortRec.flits (r : PortRec) : Nat := 2 * r.queue.length

/-- A packet given to a port as the bytes that it travels in. -/
def State.portSend (s : State) (n : Nat) (p : Packet) (wire : Bytes) : State :=
  let r := s.port n
  let r1 : PortRec := { r with queue := r.queue ++ [{ pkt := p, wire := wire, begun := false }] }
  State.drainPort n r1.flits (s.setPort n r1)

/-! Routing (R347, R348). -/

/-- The candidate ports of a destination that are not down, in order; none when the entry is not valid. -/
def State.candidates (s : State) (dst : Nat) : List Nat :=
  if s.fld Reg.TWY_ROUTE_VALID 0 dst = 0 then []
  else ([s.fld Reg.TWY_ROUTE_C0 0 dst, s.fld Reg.TWY_ROUTE_C1 0 dst, s.fld Reg.TWY_ROUTE_C2 0 dst,
    s.fld Reg.TWY_ROUTE_C3 0 dst].take (s.fld Reg.TWY_ROUTE_NCAND 0 dst + 1)).filter fun n => s.fld Reg.TWY_PORT_STATUS_STATE n != 0

/-- Of several ports, the first with the most credit for a class and lane (log 42). -/
def State.mostCredit (s : State) (k : Nat) : List Nat → Option Nat
  | [] => none
  | n :: rest =>
    match s.mostCredit k rest with
    | none => some n
    | some m => if sget 0 (s.port n).credit k < sget 0 (s.port m).credit k then some m else some n

/-- The port that a packet leaves by; 36 for this device itself (log 44). With no candidate up, the packet waits at the first that trains
(log 126). -/
def State.pickPort (s : State) (p : Packet) : Option Nat :=
  let c := s.candidates p.dst
  let up := c.filter s.portUp
  if p.dst = 0xFFF then none
  else if p.dst = s.devId then some 36
  else if up.isEmpty then c.head?
  else if pktClass p = 3 then up.head?
  else s.mostCredit (2 * pktClass p + p.vl) up

/-- A packet leaves by a port, in the bytes given. -/
def State.emit (s : State) (n : Nat) (p : Packet) (wire : Bytes) : State :=
  if n = 36 then s.send (.packet 36 p)
  else
    let p1 : Packet := if s.fld Reg.TWY_PORT_CFG_DATELINE n = 1 then { p with vl := 1 } else p
    (s.portSend n p1 wire).send (.packet n p1)

/-- The bytes of a packet of this device under its pitch's fabric key. -/
def State.wireOf (s : State) (p : Packet) : Bytes := ((s.pitchRec p.pitch).fabKey.map fun k => pktWire k p).getD []

/-- One unanswered discard (R348). -/
def State.drop (s : State) : State := s.bump Ctr.TWY_DROP 0 locFabric

/-- The next IV toward a destination, and the state that has used it (R349). -/
def State.nextIv (s : State) (pitch dst : Nat) : Nat × State :=
  let k := pitch * 4096 + dst
  let v := sget 0 s.fab.ivs k
  (v, { s with fab := { s.fab with ivs := sset 0 s.fab.ivs k (v + 1) } })

/-- A packet that is no request is sent from here; without a route it is discarded and counted, and nothing leaves of a pitch that has no
fabric key here (R349, log 126). -/
def State.sendPlain (s : State) (p : Packet) : State :=
  if !s.canSend p.pitch then s
  else
    let (iv, s1) := s.nextIv p.pitch p.dst
    let p1 : Packet := { p with src := s.devId, iv := iv }
    match s1.pickPort p1 with
    | some n => s1.emit n p1 (s1.wireOf p1)
    | none => s1.drop

/-- The COMPLETION of a request (R345, R346). -/
def State.answer (s : State) (p : Packet) (status : Nat) (data : Bytes) : State :=
  s.sendPlain { blankPacket with
    kind := kindCompletion, pitch := p.pitch, job := p.job, dst := p.src, tag := p.tag, status := status, body := data }

/-- A packet that cannot go on is answered with a code, when it is a request, and discarded (R348). -/
def State.reject (s : State) (p : Packet) (code : Nat) : State :=
  if isRequest p then (s.event code p.pitch locFabric (fabDetail p.src 0 0 p.tag p.addr)).answer p code []
  else s.drop

/-- A packet that leaves the source router or is forwarded, in the bytes given. -/
def State.route (s : State) (p : Packet) (wire : Bytes) : State :=
  match s.pickPort p with
  | some n => s.emit n p wire
  | none => s.reject p Code.FABRIC_NO_ROUTE

/-- A control message from this device (R354): `n` bytes of a body. -/
def State.message (s : State) (pitch job subtype dst body n : Nat) : State :=
  s.sendPlain { blankPacket with
    kind := kindMessage, subtype := subtype, pitch := pitch, job := job, dst := dst, body := toBytes n body }

/-! Requests at their source (R297, R351, R352). -/

/-- The number of the oldest writing packet without a COMPLETION toward a pair. -/
def State.oldestWrite (s : State) (pitch dst : Nat) : Option Nat :=
  (s.fab.reqs.find? fun r => isWriting r.pkt && decide (r.stage ≠ 0 ∧ r.pkt.pitch = pitch ∧ r.pkt.dst = dst)).map (·.pkt.seqn)

/-- Whether the next writing packet toward a pair stays within 1,024 numbers of its oldest without a COMPLETION (R351). -/
def State.windowOpen (s : State) (pitch dst : Nat) : Bool :=
  match s.oldestWrite pitch dst with
  | none => true
  | some w => decide ((sget 0 s.sync.wseq (pitch * 4096 + dst) + 2 ^ 32 - w) % 2 ^ 32 < 1023)

/-- The tags in use: of requests under way, and of timed-out ones that rest (R352). -/
def State.usedTags (s : State) : List Nat := (s.fab.reqs.filter (·.stage ≠ 0)).map (·.pkt.tag) ++ s.fab.late.map (·.1)

/-- The lowest tag from 1 that is in no use (log 43). -/
def State.freeTag (s : State) : Nat :=
  let used := s.usedTags
  ((List.range (used.length + 1)).find? fun t => decide (t + 1 ∉ used)).getD 0 + 1

/-- Whether a request may leave now: its pitch may send, a 16-bit tag is free (R344), and a writing packet has room (R351). -/
def State.mayLeave (s : State) (p : Packet) : Bool :=
  s.canSend p.pitch && decide (s.freeTag < 2 ^ 16) && (!isWriting p || s.windowOpen p.pitch p.dst)

/-- A request leaves the source router with its IV, its tag and its write number or watermark. -/
def State.leave (s : State) (r : FabReq) : State :=
  let p := r.pkt
  let tag := s.freeTag
  let k := p.pitch * 4096 + p.dst
  let w := sget 0 s.sync.wseq k
  let w1 := if isWriting p then (w + 1) % 2 ^ 32 else w
  let (iv, s1) := s.nextIv p.pitch p.dst
  let p1 : Packet := { p with
    src := s.devId, iv := iv, tag := tag, seqn := if isWriting p then w1 else if p.kind = kindSignal then w else p.seqn }
  let s2 : State := { s1 with
    sync := { s1.sync with wseq := sset 0 s1.sync.wseq k w1 }
    fab := { s1.fab with reqs := s1.fab.reqs ++ [{ r with pkt := p1, stage := 1 }] } }
  s2.route p1 (s2.wireOf p1)

/-- Whether a writing packet toward the same pair waits already; those go first. -/
def State.writeWaits (s : State) (p : Packet) : Bool :=
  isWriting p && s.fab.reqs.any fun r => isWriting r.pkt && decide (r.stage = 0 ∧ r.pkt.pitch = p.pitch ∧ r.pkt.dst = p.dst)

/-- A request made here: it leaves, or waits until it may. -/
def State.request (s : State) (p : Packet) (o : Origin) : State :=
  if !s.mayLeave p ∨ s.writeWaits p then
    { s with fab := { s.fab with reqs := s.fab.reqs ++ [{ pkt := p, origin := o, stage := 0 }] } }
  else s.leave { pkt := p, origin := o, stage := 1 }

/-- The requests that wait leave, oldest first, as far as they may (R351). -/
def State.pump (s : State) : State :=
  (s.fab.reqs.filter fun r => decide (r.stage = 0)).foldl (fun t r =>
    if t.mayLeave r.pkt then ({ t with fab := { t.fab with reqs := t.fab.reqs.erase r } } : State).leave r else t) s

/-- The pairs of a pitch forgotten in a map keyed by pitch * 4,096 + device. -/
def dropPitch {β : Type} (p : Nat) (m : Sparse β) : Sparse β := sclear (p * 4096) ((p + 1) * 4096) m

/-- A pitch's fabric key has been installed or destroyed: every entry and every floor of the pitch is cleared (R350). -/
def State.forgetPairs (s : State) (p : Nat) : State :=
  { s with fab := { s.fab with pairs := dropPitch p s.fab.pairs, floors := dropPitch p s.fab.floors } }

/-! Arrival (R349, R350). -/

/-- A pair of which nothing is known. -/
def PairRec.empty : PairRec := { top := 0, seen := [] }

/-- What the pair tracker makes of an arriving packet: 0 accepted, 1 refused and counted, 2 no free entry. Packets of this
device to itself pass no tracker. A packet more than 4,096 below the highest IV is refused (log 14). -/
def State.trackPacket (s : State) (p : Packet) (tagOk : Bool) : Nat × State :=
  let k := p.pitch * 4096 + p.src
  if p.src = s.devId then (ofBool (!tagOk), s)
  else if !tagOk ∨ (s.pitchRec p.pitch).fabKey = none ∨ p.iv < sget 0 s.fab.floors k then (1, s)
  else
    let known := s.fab.pairs.any fun e => decide (e.1 = k)
    let r := sget .empty s.fab.pairs k
    if known ∧ (p.iv ∈ r.seen ∨ p.iv + 4097 < r.top) then (1, s)
    else if !known ∧ 512 ≤ s.fab.pairs.length then (2, s)
    else
      let top := max r.top (p.iv + 1)
      let seen := (p.iv :: r.seen).filter fun v => decide (top ≤ v + 4097)
      (0, { s with fab := { s.fab with pairs := sset .empty s.fab.pairs k { top := top, seen := seen } } })

/-- A packet that is refused is answered, unless it is itself an answer (log 127). -/
def State.deny (s : State) (p : Packet) (code : Nat) : State := if p.kind = kindCompletion then s else s.answer p code []

/-- FABRIC_AUTH_FAIL of a packet (R345, R350, R364): its event, and its answer. -/
def State.authFail (s : State) (p : Packet) : State :=
  (s.event Code.FABRIC_AUTH_FAIL p.pitch locFabric (fabDetail p.src 0 0 p.tag p.addr)).deny p Code.FABRIC_AUTH_FAIL

/-- A packet for this device is checked: accepted, or discarded and answered as R350 says. -/
def State.accept (s : State) (p : Packet) (tagOk : Bool) : Bool × State :=
  let (c, s1) := s.trackPacket p tagOk
  if c = 0 then (true, s1)
  else if c = 2 then (false, s1.deny p Code.FABRIC_BUSY)
  else (false, (s1.bump Ctr.TWY_AUTH_FAIL p.pitch locFabric p.pitch).authFail p)

/-- Numbers that now follow SETTLED without a gap are settled too (R297). -/
def advanceSettled : Nat → Nat → List Nat → Nat × List Nat
  | 0, v, more => (v, more)
  | fuel + 1, v, more =>
    if (v + 1) % 2 ^ 32 ∈ more then advanceSettled fuel ((v + 1) % 2 ^ 32) (more.filter (· ≠ (v + 1) % 2 ^ 32)) else (v, more)

/-- A writing packet's number is settled (R297, R346). -/
def State.settle (s : State) (p : Packet) : State :=
  if !(isWriting p) then s
  else
    let k := p.pitch * 4096 + p.src
    let more := p.seqn :: (sget [] s.sync.beyond k).filter (· ≠ p.seqn)
    let (v, rest) := advanceSettled more.length (sget 0 s.sync.settled k) more
    { s with sync := { s.sync with settled := sset 0 s.sync.settled k v, beyond := sset [] s.sync.beyond k rest } }

/-- Whether the store of 64 READYs and ABORTs of a pitch is full (R358). -/
def State.collStoreFull (s : State) (pitch : Nat) : Bool :=
  decide (64 ≤ (s.fab.collHeld.filter fun h => decide (h.pitch = pitch)).length)

/-- Whether a MESSAGE of a subtype is for this device and arrives: while the store of any pitch is full, the CONTROL class stays in the
link (R358). -/
def State.takesMessage (s : State) (p : Packet) (subtype : Nat) : Bool :=
  decide (p.kind = kindMessage ∧ p.subtype = subtype ∧ p.dst = s.devId ∧ s.devId ≠ 0xFFF) && !(List.range 9).any s.collStoreFull

/-- A request that is refused: its event, its error completion, and its number settled (R346). -/
def State.refuse (s : State) (p : Packet) (code : Nat) : State :=
  ((s.event code p.pitch locFabric (fabDetail p.src 0 0 p.tag p.addr)).answer p code []).settle p

/-! Rows of the link. -/

/-- ACK is taken: every covered flit leaves the replay buffer (R340, compared by R16). -/
def PortRec.acked (r : PortRec) (ack : Nat) : PortRec :=
  let kept := r.buffer.filter fun f => !newer 12 ack f.seq
  { r with buffer := kept, replays := if kept.length < r.buffer.length then 0 else r.replays }

/-- CRED is taken. -/
def PortRec.credited (r : PortRec) (cred : Nat) : PortRec :=
  { r with credit := (List.range 8).foldl (fun c k => sset 0 c k (sget 0 c k + (bits cred (4 * k + 3) (4 * k) : Nat))) r.credit }

/-- A flit's ACK and CRED are taken, and waiting flits leave. -/
def State.takeAck (s : State) (n ack cred : Nat) : State :=
  let r := ((s.port n).acked ack).credited cred
  State.drainPort n r.flits (s.setPort n r)

/-- Every buffered flit is sent again, oldest first (R341). -/
def State.resend (s : State) (n : Nat) : State :=
  (s.port n).buffer.foldl (fun t f => t.sendFlit n 0 f.seq f.cls f.vl f.payload) s

/-- A port begins to train (R342). -/
def State.retrainPort (s : State) (n : Nat) : State :=
  (((s.setFld Reg.TWY_PORT_STATUS_STATE 1 n).setPort n { s.port n with replays := 0 }).bump Ctr.TWY_RETRAIN 0 (locPort n) n).event
    Code.LINK_RETRAIN 0 (locPort n) (fabDetail 0 n (s.fld Reg.TWY_PORT_STATUS_WIDTH n) 0 0)

/-- A replay is needed: the ninth without progress is a retrain (R342, log 15). -/
def State.replay (s : State) (n : Nat) : State :=
  let r := s.port n
  if r.buffer = [] ∨ !s.portUp n then s
  else if 8 ≤ r.replays then s.retrainPort n
  else ((s.setPort n { r with replays := r.replays + 1 }).bump Ctr.TWY_REPLAY 0 (locPort n) n).resend n

/-- DATA_FLIT_RECEIVE (R341): a flit with a good CRC and the SEQ expected is accepted; every other is discarded and
counted, with one NAK for the SEQ expected. -/
def execDataFlitReceive (port : TwPort) (crcOk : Bool) (seq ack : Fin 4096) (cls : Fin 4) (vl : Fin 2) (cred : BitVec 32)
    (fecUnc : Nat) (s : State) : Host.Outcome State Fault Refusal :=
  let n := port.val
  if !s.portUp n then .next s
  else
    let s1 := (s.bump Ctr.TWY_FEC_UNC 0 (locPort n) n fecUnc).accum Reg.TWY_RX_64B 4 n
    let r := s1.port n
    if crcOk ∧ seq.val = r.expected then
      let k := 2 * cls.val + vl.val
      .next ((s1.setPort n { r with
        expected := (r.expected + 1) % 4096, nakSent := false, owed := sset 0 r.owed k (sget 0 r.owed k + 1) }).takeAck n ack.val
          cred.toNat)
    else
      let s2 := s1.bump Ctr.TWY_CRC 0 (locPort n) n
      if r.nakSent then .next s2 else .next ((s2.setPort n { r with nakSent := true }).sendFlit n 2 0 0 0 [])

/-- NAK_RECEIVE (R341): the NAK's ACK is taken, and the sender replays. A flit with a bad CRC is discarded (log 16). -/
def execNakReceive (port : TwPort) (crcOk : Bool) (ack : Fin 4096) (cred : BitVec 32) (s : State) :
    Host.Outcome State Fault Refusal :=
  let n := port.val
  if !s.portUp n then .next s
  else
    let s1 := s.accum Reg.TWY_RX_64B 4 n
    if crcOk then .next ((s1.takeAck n ack.val cred.toNat).replay n) else .next s1

/-- IDLE_FLIT_RECEIVE (R340): the flit's ACK and CRED are taken. -/
def execIdleFlitReceive (port : TwPort) (crcOk : Bool) (ack : Fin 4096) (cred : BitVec 32) (s : State) :
    Host.Outcome State Fault Refusal :=
  let n := port.val
  if !s.portUp n then .next s
  else
    let s1 := s.accum Reg.TWY_RX_64B 4 n
    if crcOk then .next (s1.takeAck n ack.val cred.toNat) else .next s1

/-- IDLE_FLIT_TIMER (R340): a receiver that has sent nothing for 256 port cycles sends an idle flit. -/
def execIdleFlitTimer (port : TwPort) (s : State) : Host.Outcome State Fault Refusal :=
  if s.portUp port.val then .next (s.sendFlit port.val 1 0 0 0 []) else .next s

/-- REPLAY_TIMEOUT (R341): the oldest unacknowledged flit has waited 3,200 port cycles. -/
def execReplayTimeout (port : TwPort) (s : State) : Host.Outcome State Fault Refusal := .next (s.replay port.val)

/-- The width and lanes that a mask of good lanes allows (R342): 8, 4 low, 4 high, the lowest good pair, or none. -/
def widest (good : Nat) : Nat × Nat :=
  if good = 0xFF then (8, 0xFF)
  else if good &&& 0x0F = 0x0F then (4, 0x0F)
  else if good &&& 0xF0 = 0xF0 then (4, 0xF0)
  else if good &&& 0x03 = 0x03 then (2, 0x03)
  else if good &&& 0x0C = 0x0C then (2, 0x0C)
  else if good &&& 0x30 = 0x30 then (2, 0x30)
  else if good &&& 0xC0 = 0xC0 then (2, 0xC0)
  else (0, 0)

/-- The distinct packets of a list of flits, in order. -/
def flitPackets (l : List FlitRec) : List Packet := (l.flatMap (·.pkts)).eraseDups

/-- What becomes of a packet in the replay buffer of a port that went down (R343). -/
def State.lostPacket (s : State) (n : Nat) (p : Packet) : State :=
  if isRequest p then
    (s.event Code.FABRIC_LINK_DOWN p.pitch locFabric (fabDetail p.src n 0 p.tag p.addr)).answer p Code.FABRIC_LINK_DOWN []
  else s

/-- A port goes down (R343): its replay buffer is dealt with by class, a packet that had begun to leave with it, and packets still waiting
for it are routed again. -/
def State.portDown (s : State) (n : Nat) : State :=
  let r := s.port n
  let sent := flitPackets r.buffer
  let lost := sent ++ ((r.queue.filter (·.begun)).map (·.pkt)).filter (· ∉ sent)
  let waiting := r.queue.filter fun x => !x.begun
  let s1 := (((s.setFld Reg.TWY_PORT_STATUS_STATE 0 n).setFld Reg.TWY_PORT_STATUS_WIDTH 0 n).setFld Reg.TWY_PORT_STATUS_LANES_OK 0 n).setPort n
    { PortRec.empty with credit := r.credit }
  let s2 := if r.wasDown then s1 else s1.event Code.PORT_DOWN 0 (locPort n) (fabDetail 0 n 0 0 0)
  waiting.foldl (fun t x => t.route x.pkt x.wire) (lost.foldl (fun t p => t.lostPacket n p) s2)

/-- Training ends with some lanes good (R342, R343). -/
def State.trained (s : State) (n good : Nat) : State :=
  if s.fld Reg.TWY_PORT_STATUS_STATE n ≠ 1 then s
  else
    let (w, lanes) := widest good
    if w = 0 then s.portDown n
    else
      let old := s.fld Reg.TWY_PORT_STATUS_WIDTH n
      let r := s.port n
      let s1 := (((s.setFld Reg.TWY_PORT_STATUS_STATE 2 n).setFld Reg.TWY_PORT_STATUS_WIDTH w n).setFld
        Reg.TWY_PORT_STATUS_LANES_OK lanes n).setPort n { r with wasDown := false }
      let s2 := if r.wasDown then s1.event Code.PORT_RESTORED 0 (locPort n) (fabDetail 0 n w 0 0) else s1
      let s3 := if !r.wasDown ∧ w < old then s2.event Code.LINK_NARROWED 0 (locPort n) (fabDetail 0 n w 0 0) else s2
      State.drainPort n r.flits (s3.resend n)

/-- LINK_RETRAIN_DONE (R342): training ends with the lanes of `good` passed. -/
def execLinkRetrainDone (port : TwPort) (good : BitVec 8) (s : State) : Host.Outcome State Fault Refusal :=
  .next (s.trained port.val good.toNat)

/-- LINK_RETRAIN_TIMEOUT (R342): every lane that has not finished fails. -/
def execLinkRetrainTimeout (port : TwPort) (finished good : BitVec 8) (s : State) : Host.Outcome State Fault Refusal :=
  .next (s.trained port.val (finished &&& good).toNat)

/-- Firmware retrains a port that is down (R343, log 72). -/
def State.retryPort (s : State) (n : Nat) : State :=
  (s.setPort n { s.port n with wasDown := true }).retrainPort n

/-- DOWN_PORT_RETRY (R343): a down port that is not held down is retrained every RETRY_S seconds. -/
def execDownPortRetry (port : TwPort) (s : State) : Host.Outcome State Fault Refusal :=
  let n := port.val
  if s.fld Reg.TWY_PORT_STATUS_STATE n = 0 ∧ s.fld Reg.TWY_PORT_CFG_ENABLE n = 1 ∧ s.fld Reg.TWY_FAB_CFG_RETRY_S ≠ 0 then
    .next (s.retryPort n)
  else .next s

/-- Whether R345 and R354 list a packet's kind and a message's subtype. -/
def kindListed (p : Packet) : Bool :=
  if p.kind = kindMessage then decide (1 ≤ p.subtype ∧ p.subtype ≤ 5)
  else decide (p.kind ∈ [kindRead, kindWrite, kindAdd, kindAddReduce, kindAmo, kindPull, kindSignal, kindCompletion])

/-- PACKET_FORWARD (R345, R347-R349): a packet for another device goes on undecrypted, its body and its tag as they came, or is answered and
discarded. A packet of no listed kind is discarded at its destination and answered; the listed kinds are their own rows' there (log 116). -/
def execPacketForward (pkt : Packet) (s : State) (tag : BitVec 128 := 0) : Host.Outcome State Fault Refusal :=
  if s.devId = 0xFFF then .next s
  else if pkt.dst = s.devId then
    if kindListed pkt then .next s
    else .next (s.authFail pkt)
  else if pkt.dst ≠ 0xFFF ∧ 15 ≤ pkt.hops then .next (s.reject pkt Code.FABRIC_HOP_LIMIT)
  else
    let p : Packet := { pkt with hops := pkt.hops + 1 }
    .next (s.route p (toBytes 32 (pktHeader p) ++ p.body ++ toBytes 16 tag.toNat))

/-- PAIR_ENTRY_IDLE (R350): an entry without an unsettled write is freed, and its highest IV becomes its floor. -/
def execPairEntryIdle (pitch : Pitch) (src : DevId) (s : State) : Host.Outcome State Fault Refusal :=
  let k := pitch.val * 4096 + src.val
  if s.fab.pairs.any (fun e => decide (e.1 = k)) ∧ sget [] s.sync.beyond k = [] then
    let r := sget PairRec.empty s.fab.pairs k
    .next { s with fab := { s.fab with
      floors := sset 0 s.fab.floors k (max r.top (sget 0 s.fab.floors k)), pairs := sset .empty s.fab.pairs k .empty } }
  else .next s

/-- FABRIC_BUSY_RESEND (R350): a packet refused with FABRIC_BUSY is resent and counted. -/
def execFabricBusyResend (tag : BitVec 16) (s : State) : Host.Outcome State Fault Refusal :=
  match s.fab.reqs.find? fun r => decide (r.stage = 2 ∧ r.pkt.tag = tag.toNat) with
  | none => .next s
  | some r =>
    let (iv, s1) := s.nextIv r.pkt.pitch r.pkt.dst
    let p : Packet := { r.pkt with iv := iv }
    let s2 : State := { s1 with fab := { s1.fab with
      reqs := s1.fab.reqs.map fun x => if x = r then { r with pkt := p, stage := 1 } else x } }
    .next ((s2.bump Ctr.TWY_BUSY p.pitch locFabric p.pitch).route p (s2.wireOf p))

end Sys2Proof.Machine
end

