-- ==== Sys2Proof/Machine/Sync.lean ====
section
/-! DEFINITION. Tallies, guylines and signals as shared operations (chapter 10), with the slots and Peg cores that wait on
them. -/
namespace Sys2Proof.Machine

open Sys2Proof

/-! Slots and cores. -/

/-- A list that runs nothing. -/
def Frame.empty : Frame := { base := 0, count := none, next := 0, fetched := [], flights := [], completed := [] }

/-- An idle slot. -/
def StreamSlot.idle : StreamSlot :=
  { state := 0, queue := [], run := none, main := .empty, chain := none, faulted := [], touched := [], resume := none, resumeTouched := [],
    leg := 0, legStart := none, legMax := 0,
    collsIssued := [], aborting := false, home := 0 }

/-- A slot's state; slots are numbered camp * 4 + slot, guest contexts 64 + host * 4 + context (R474). -/
def State.slot (s : State) (k : Nat) : StreamSlot := sget .idle s.slots k

/-- The state with a slot set. -/
def State.setSlot (s : State) (k : Nat) (x : StreamSlot) : State := { s with slots := sset .idle s.slots k x }

/-- The list that a slot runs now: its chain list while one runs (R184). -/
def StreamSlot.frame (x : StreamSlot) : Frame := match x.chain with
  | some (_, f) => f
  | none => x.main

/-- The slot with the list it runs now replaced. -/
def StreamSlot.setFrame (x : StreamSlot) (f : Frame) : StreamSlot := match x.chain with
  | some (c, _) => { x with chain := some (c, f) }
  | none => { x with main := f }

/-- A Peg core at rest: registers zero (log 8), xpegwait 30. -/
def PegRec.idle : PegRec :=
  { regs := [], trap := 0, trapValue := 0, block := none, arrivals := [], outstanding := [], failed := [], waitLog := 30 }

/-- A Peg core's state. -/
def State.peg (s : State) (p : Nat) : PegRec := sget .idle s.pegs p

/-- The state with a Peg core set. -/
def State.setPeg (s : State) (p : Nat) (x : PegRec) : State := { s with pegs := sset .idle s.pegs p x }

/-- A core's register written; x0 discards the value. -/
def PegRec.setReg (x : PegRec) (rd v : Nat) : PegRec :=
  if rd = 0 then x else { x with regs := sset 0 x.regs rd (v % 2 ^ 64) }

/-- A core's register read; x0 reads zero. -/
def PegRec.reg (x : PegRec) (r : Nat) : Nat := if r = 0 then 0 else sget 0 x.regs r

/-- The blocked instruction retires with a result. -/
def PegRec.retire (x : PegRec) (rd v : Nat) : PegRec := { (x.setReg rd v) with block := none }

/-- The camp of an agent; a guest context acts for its host camp. -/
def Agent.camp : Agent → Nat
  | .slot k => if k < 64 then k / 4 else (k - 64) / 4
  | .peg p => p / 4

/-- The camp that an arrival of an agent counts as: a guest context arrives as the camp whose stream it runs (R474). -/
def State.agentFor (s : State) (a : Agent) : Nat :=
  match a with
  | .slot k => if k < 64 then k / 4 else (s.slot k).home / 4
  | .peg p => p / 4

/-- The slot or guest context that now runs the streams of a camp's slot (R474). -/
def State.slotFor (s : State) (c i : Nat) : Nat :=
  match s.rel.moved.find? fun m => decide (m.1 = c) with
  | some m => 64 + 4 * m.2 + i
  | none => 4 * c + i

/-- Whether an agent is a Peg core. -/
def Agent.isPeg : Agent → Bool
  | .slot _ => false
  | .peg _ => true

/-- The issuer code of R306 for an agent. -/
def Agent.code : Agent → Nat
  | .slot k => k % 4
  | .peg p => 4 + p % 4

/-! Tally operations (R277-R285). -/

/-- The DETAIL of a tally event (R306). -/
def tallyDetail (count amount tally issuer camp dev : Nat) : Nat :=
  atBytes [(0, count), (4, amount), (8, tally), (10, issuer), (11, camp), (12, dev)]

/-- Whether a tally is declared shared (R284). -/
def State.tallyShared (s : State) (c t : Nat) : Bool := (s.fld Reg.TAL_SCOPE_SHARED c (t / 32)).testBit (t % 32)

/-- A slot's balances after an amount added to (or taken from) a tally (R284). -/
def State.touch (s : State) (k c t : Nat) (delta : Int) : State :=
  if s.tallyShared c t then s
  else
    let x := s.slot k
    let key := c * 1024 + t
    let known := x.touched.any fun e => decide (e.1 = key)
    let b := sget 0 x.touched key + delta
    let others := x.touched.filter fun e => decide (e.1 ≠ key)
    s.setSlot k { x with touched := if known ∨ b ≠ 0 then insertKey key b others else x.touched }
where
  /-- Insertion in key order that keeps a zero balance: a touched tally stays in the table. -/
  insertKey (key : Nat) (b : Int) : Sparse Int → Sparse Int
    | [] => [(key, b)]
    | (a, v) :: rest => if key < a then (key, b) :: (a, v) :: rest else (a, v) :: insertKey key b rest

/-- The flight of a frame that waits: the last one issued. -/
def markLast (f : Frame) : Frame :=
  match f.flights.reverse with
  | [] => f
  | x :: rest => { f with flights := (({ x with done := true } : Flight) :: rest).reverse }

/-- The instance of the STR_ registers and the location that a slot acts under: a guest context keeps its own slot's. -/
def State.slotHome (s : State) (k : Nat) : Nat := if k < 64 then k else (s.slot k).home

/-- The cycles that a blocked slot has been blocked for are counted (R190): a number that the manual does not fix (log 26). -/
def State.countBlocked (s : State) (k : Nat) : State :=
  if (s.slot k).state = 2 then
    let (d, t) := s.draw (2 ^ 40)
    t.accum Reg.STR_BLOCKED_CYC d (s.slotHome k)
  else s

/-- An agent freed from a wait or a barrier: a slot runs on with its descriptor satisfied (R168), a core retires with
rd 0 (R272). -/
def State.free (s : State) (a : Agent) : State :=
  let s1 : State := { s with sync := { s.sync with longWaits := s.sync.longWaits.filter (· ≠ a) } }
  match a with
  | .slot k =>
    let x := s1.slot k
    (s1.countBlocked k).setSlot k { (x.setFrame (markLast x.frame)) with state := if x.state = 2 then 1 else x.state }
  | .peg p =>
    let x := s1.peg p
    match x.block with
    | some (.wait rd ..) => s1.setPeg p (x.retire rd 0)
    | some (.bar rd _) => s1.setPeg p (x.retire rd 0)
    | some (.wfence rd _) => s1.setPeg p (x.retire rd 0)
    | none => s1

/-- The head of a tally's queue served for as long as it fits (R280). -/
def State.serveQueue (c t : Nat) : Nat → State → State
  | 0, s => s
  | fuel + 1, s =>
    match s.sync.waits.find? fun w => decide (w.camp = c ∧ w.tally = t) with
    | none => s
    | some w =>
      let y := s.tally c t
      if y.count < w.amount then s
      else
        let s1 := s.setTally c t { y with count := y.count - w.amount }
        let s2 : State := { s1 with sync := { s1.sync with waits := s1.sync.waits.erase w } }
        let s3 := s2.free w.agent
        let s4 := match w.agent with
          | .slot k => s3.touch k c t (-(w.amount : Int))
          | .peg _ => s3
        State.serveQueue c t fuel s4

/-- A tally's queue served (R280); no queue is longer than 128. -/
def State.serve (s : State) (c t : Nat) : State := State.serveQueue c t 129 s

/-- A tally operation that its camp faults: counted, and its event raised at the tally (R303, R306). -/
def State.tallyFault (s : State) (code c t amount issuer camp dev : Nat) : State :=
  let p := s.campPitch c
  (s.bump Ctr.TAL_FAULTS p (locCamp c) c).event code p (locTally c t) (tallyDetail (s.tally c t).count amount t issuer camp dev)

/-- COUNT raised by an amount (R279): the fault code, or 0, and the state. -/
def State.tallyAdd (s : State) (c t amount issuer camp dev : Nat) : Nat × State :=
  if amount = 0 then (0, s)
  else if !s.tallyReachable c then (Code.TALLY_UNREACHABLE, s.tallyFault Code.TALLY_UNREACHABLE c t amount issuer camp dev)
  else
    let y := s.tally c t
    if y.limit < y.count + amount then (Code.TALLY_OVERFLOW, s.tallyFault Code.TALLY_OVERFLOW c t amount issuer camp dev)
    else (0, ((s.setTally c t { y with count := y.count + amount }).accum Reg.TAL_OPS 1 c).serve c t)

/-- COUNT lowered at once (R279). -/
def State.tallyTake (s : State) (c t amount issuer camp : Nat) : Nat × State :=
  if amount = 0 then (0, s)
  else if !s.tallyReachable c then (Code.TALLY_UNREACHABLE, s.tallyFault Code.TALLY_UNREACHABLE c t amount issuer camp 0)
  else
    let y := s.tally c t
    if y.count < amount then (Code.TALLY_UNDERFLOW, s.tallyFault Code.TALLY_UNDERFLOW c t amount issuer camp 0)
    else (0, (s.setTally c t { y with count := y.count - amount }).accum Reg.TAL_OPS 1 c)

/-- A wait joins the tally's queue, which is served at once (R279, R280). -/
def State.tallyWait (s : State) (c t amount : Nat) (a : Agent) : Nat × State :=
  if !s.tallyReachable c then (Code.TALLY_UNREACHABLE, s.tallyFault Code.TALLY_UNREACHABLE c t amount a.code a.camp 0)
  else if (s.tally c t).limit < amount then
    (Code.TALLY_LIMIT_INVALID, s.tallyFault Code.TALLY_LIMIT_INVALID c t amount a.code a.camp 0)
  else
    let s1 := s.accum Reg.TAL_OPS 1 c
    let s2 : State := { s1 with sync := { s1.sync with
      waits := s1.sync.waits ++ [{ camp := c, tally := t, agent := a, amount := amount }] } }
    (0, s2.serve c t)

/-- A wait that leaves its queue unserved; those behind move up and are served (R280). -/
def State.leaveQueue (s : State) (a : Agent) : State :=
  match s.sync.waits.find? fun w => decide (w.agent = a) with
  | none => s
  | some w => ({ s with sync := { s.sync with waits := s.sync.waits.erase w } } : State).serve w.camp w.tally

/-- Whether a LIMIT store is accepted (R278). -/
def State.limitOk (s : State) (c t v : Nat) : Bool :=
  decide ((s.tally c t).count ≤ v) && s.sync.waits.all fun w => !(decide (w.camp = c ∧ w.tally = t)) || decide (w.amount ≤ v)

/-! Guylines (R286-R291). -/

/-- LOCAL_N as it acts (R286). -/
def State.localN (s : State) (g : Nat) : Nat :=
  let n := s.fld Reg.GUY_CFG_LOCAL_N g
  if n = 0 ∨ 8 < n then 1 else n

/-- The state with a guyline's record set. -/
def State.setGuy (s : State) (g : Nat) (r : GuyRec) : State := { s with sync := { s.sync with guys := sset .reset s.sync.guys g r } }

/-- Byte c of ARRIVALS: the arrivals toward GEN and toward GEN + 1 (R290). -/
def GuyRec.arrived (r : GuyRec) (c : Nat) : Nat × Nat := (bits r.arrivals (8 * c + 3) (8 * c), bits r.arrivals (8 * c + 7) (8 * c + 4))

/-- The record with byte c of ARRIVALS set. -/
def GuyRec.setArrived (r : GuyRec) (c lo hi : Nat) : GuyRec :=
  let old := bits r.arrivals (8 * c + 7) (8 * c)
  { r with arrivals := r.arrivals - (old <<< (8 * c)) + ((lo + 16 * hi) <<< (8 * c)) }

/-- A camp's latch set on a phase. -/
def GuyRec.latch (r : GuyRec) (phase c : Nat) : GuyRec :=
  if phase % 2 = 0 then { r with latchEven := r.latchEven ||| 2 ^ c } else { r with latchOdd := r.latchOdd ||| 2 ^ c }

/-- The latches of a phase. -/
def GuyRec.latches (r : GuyRec) (phase : Nat) : Nat := if phase % 2 = 0 then r.latchEven else r.latchOdd

/-- A guyline event (R306). -/
def State.guyFault (s : State) (code g : Nat) (a : Agent) : State :=
  s.event code (s.campPitch a.camp) (locGuy g) (tallyDetail (s.guy g).gen 0 g a.code a.camp 0)

/-- An arrival (R287, R289, R291): a fault code, or 0 with the round (modulo 4) it counted toward. -/
def State.arrive (s : State) (g : Nat) (a : Agent) (fabric : Bool) : Nat × Nat × State :=
  let c := s.agentFor a
  let p := s.fld Reg.GUY_CFG_PITCH g
  if !(s.fld Reg.GUY_CFG_CAMP_MASK g).testBit c ∨ p = 0 ∨ s.campPitch c ≠ p ∨ decide (s.fld Reg.GUY_CFG_FABRIC g = 1) ≠ fabric then
    (Code.BARRIER_NOT_MEMBER, 0, s.guyFault Code.BARRIER_NOT_MEMBER g a)
  else
    let n := s.localN g
    let r := s.guy g
    let (lo, hi) := r.arrived c
    if lo < n then
      let r1 := r.setArrived c (lo + 1) hi
      (0, r.gen, s.setGuy g (if lo + 1 = n then r1.latch r.gen c else r1))
    else if hi < n then
      let r1 := r.setArrived c lo (hi + 1)
      (0, (r.gen + 1) % 4, s.setGuy g (if hi + 1 = n then r1.latch (r.gen + 1) c else r1))
    else
      (Code.BARRIER_OVERRUN, 0, (s.bump Ctr.GUY_OVERRUN p (locHarbour 0x0C) p).guyFault Code.BARRIER_OVERRUN g a)

/-- Whether every participating camp's latch of the current phase is set (R288). -/
def State.roundComplete (s : State) (g : Nat) : Bool :=
  let m := s.fld Reg.GUY_CFG_CAMP_MASK g
  m != 0 && ((s.guy g).latches (s.guy g).gen &&& m) == m

/-- The record after the release of its round (R288). -/
def GuyRec.release (r : GuyRec) : GuyRec :=
  { r with
    gen := (r.gen + 1) % 4
    releases := (r.releases + 1) % 2 ^ 32
    latchEven := if r.gen % 2 = 0 then 0 else r.latchEven
    latchOdd := if r.gen % 2 = 0 then r.latchOdd else 0
    arrivals := (List.range 16).foldl (fun n c => n + bits r.arrivals (8 * c + 7) (8 * c + 4) <<< (8 * c)) 0 }

/-- The release of a guyline's round: its waiters leave, its cores' pending arrivals end (R288, R274). -/
def State.releaseRound (s : State) (g : Nat) : State :=
  let r := s.guy g
  let mine := s.sync.guyWaits.filter fun w => decide (w.guy = g ∧ w.round = r.gen)
  let s1 := s.setGuy g r.release
  let s2 : State := { s1 with
    sync := { s1.sync with guyWaits := s1.sync.guyWaits.filter fun w => !decide (w.guy = g ∧ w.round = r.gen) }
    pegs := s1.pegs.map fun e => (e.1, { e.2 with arrivals := e.2.arrivals.filter fun x => !decide (x = (g, r.gen)) }) }
  mine.foldl (fun t w => t.free w.agent) s2

/-- A guyline reset (R286, R290): the record, and the pending arrivals of the pitch's cores on it. A core that waits there is neither
released nor faulted, and no round frees it any more: it leaves at its timeout or an interrupt. -/
def State.resetGuy (s : State) (g : Nat) : State :=
  let s1 := s.setGuy g .reset
  { s1 with
    sync := { s1.sync with
      arrives := s1.sync.arrives.filter (·.1 ≠ g), arriving := s1.sync.arriving.filter (·.1 ≠ g)
      guyWaits := s1.sync.guyWaits.filter fun w => !(decide (w.guy = g) && w.agent.isPeg)
      bubbled := s1.sync.bubbled.filter (· ≠ g) }
    pegs := s1.pegs.map fun e => (e.1, { e.2 with arrivals := e.2.arrivals.filter fun x => decide (x.1 ≠ g) }) }

/-- GUY_CFG written (R290). -/
def State.writeGuyCfg (s : State) (g value : Nat) : State :=
  ((((s.setFld Reg.GUY_CFG_PITCH (bits value 7 0) g).setFld Reg.GUY_CFG_CAMP_MASK (bits value 23 8) g).setFld
    Reg.GUY_CFG_LOCAL_N (bits value 27 24) g).setFld Reg.GUY_CFG_FABRIC (bits value 28 28) g).resetGuy g

/-! Fabric barriers (R292-R294). -/

/-- The pitch whose running job has a number, if any. -/
def State.pitchOfJob (s : State) (num : Nat) : Option Nat :=
  if num = 0 then none else (List.range 9).find? fun p => (s.job p).num == num

/-- A fabric barrier body (R293): 1 ARRIVE, 2 RELEASE. -/
def barrierBody (msg sender lastDev lastThr thr slack guy job round : Nat) : Nat :=
  round ||| job <<< 48 ||| guy <<< 64 ||| slack <<< 80 ||| thr <<< 98 ||| lastThr <<< 99 ||| lastDev <<< 100
    ||| sender <<< 112 ||| msg <<< 124

/-- The unit sends ARRIVE for the current fabric round to the root (R292), carrying THR and the last round's SLACK. -/
def State.sendArrive (s : State) (g : Nat) (thr : Bool) : State :=
  let j := s.job (s.fld Reg.GUY_CFG_PITCH g)
  let r := s.guy g
  s.message (s.fld Reg.GUY_CFG_PITCH g) j.num 1 (j.parts.headD 0)
    (barrierBody 1 s.devId 0 0 (ofBool thr) (if r.fbRound = 0 then 0 else r.lastSlack) g j.num r.fbRound) 16

/-- The local end of a fabric round (R292): the round releases, FB_ROUND and FB_ROUNDS rise, the last round is recorded. -/
def State.endFabricRound (s : State) (g lastDev lastThr slack : Nat) : State :=
  let s1 := (s.releaseRound g).accum Reg.FB_ROUNDS 1 (s.fld Reg.GUY_CFG_PITCH g)
  let r := s1.guy g
  let s2 := s1.setGuy g { r with
    fbRound := (r.fbRound + 1) % 2 ^ 32, lastDev := lastDev, lastThr := lastThr, lastSlack := min slack 0xFFFF }
  { s2 with sync := { s2.sync with
    arriving := s2.sync.arriving.filter (·.1 ≠ g), arrives := s2.sync.arrives.filter (·.1 ≠ g) } }

/-! Signals (R295-R300). -/

/-- The entries of a pitch's part of the tide pool (R299): pitch 0 always, a pitch from 1 to 8 while assigned. -/
def State.poolSize (s : State) (p : Nat) : Nat :=
  let holds (q : Nat) : Bool := q == 0 || s.fld Reg.SEC_PITCH_CTL_STATE q == 2 || s.fld Reg.SEC_PITCH_CTL_STATE q == 3
  let n := ((List.range 9).filter holds).length
  if holds p then 8 + (256 - 8 * n) * s.fabricShare p / 256 else 0

/-- The entries of a pitch's part that hold signals. -/
def State.poolUsed (s : State) (p : Nat) : Nat := (s.sync.pool.filter fun x => decide (x.pitch = p) && !x.held).length

/-- SETTLED of a pair (R297). -/
def State.settled (s : State) (p dev : Nat) : Nat := sget 0 s.sync.settled (p * 4096 + dev)

/-- The lead camp of a pitch: its lowest-numbered camp that is not fenced, else its lowest (R177). -/
def State.leadCamp (s : State) (pitch : Nat) : Nat :=
  let cs := (List.range 16).filter (s.mapOf pitch).camps.testBit
  ((cs.find? fun c => !s.campFenced c).getD (cs.headD 0))

/-- The pitch that a GS_ register or event of an add belongs to, and where the register's saturation is raised (R219). -/
def State.leadSlot (s : State) (pitch : Nat) : Nat := locSlot (4 * s.leadCamp pitch + 2)

/-! Hand-setting (R301). -/

/-- A hand-setting act: counted and reported (R301, log 31). -/
def State.handSet (s : State) (pitch camp loc detail : Nat) : State :=
  (s.bump Ctr.TAL_HAND pitch (locCamp camp) camp).event Code.HAND_SET pitch loc detail

end Sys2Proof.Machine
end

