-- ==== Sys2Proof/Machine/Budget.lean ====
section
/-! DEFINITION. Power budgets (R401-R405): the budget of a pitch with its job ledger, its division among camps, and what a RELEASE
does to the ledger. -/
namespace Sys2Proof.Machine

open Sys2Proof

/-- The camps of a pitch's layout. -/
def State.pitchCamps (s : State) (p : Nat) : List Nat := (List.range 16).filter (s.mapOf p).camps.testBit

/-- Whether a pitch is sealed. -/
def State.sealed (s : State) (p : Nat) : Bool := s.fld Reg.SEC_PITCH_CTL_STATE p == 3

/-- A lending bit of a pitch as it acts: REPEAT makes it 0 (R407). -/
def State.lends (s : State) (f : Fld) (p : Nat) : Bool := s.fld f p == 1 && s.fld Reg.GOV_PITCH_CFG_REPEAT p == 0

/-- A ledger with nothing in it. -/
def Ledger.empty : Ledger := { counts := [], calm := 0 }

/-- A pitch's ledger. -/
def State.ledger (s : State) (p : Nat) : Ledger := sget .empty s.power.ledgers p

/-- Whether job lending runs on a pitch (R404). -/
def State.jobLends (s : State) (p : Nat) : Bool :=
  decide (1 < (s.job p).parts.length) && s.fld Reg.GOV_DEV_CFG_JOB_LEND_EN == 1 && s.lends Reg.GOV_PITCH_CFG_LEND_JOB p && !s.sealed p

/-- The sum of a pitch's camp floors, in mW. -/
def State.floorSum (s : State) (p : Nat) : Nat := ((s.pitchCamps p).map Config.idleFloor).sum

/-- What pitches 1-8 other than one have been given. -/
def State.otherBudgets (s : State) (p : Nat) : Nat :=
  (((List.range 9).filter fun q => q != 0 && q != p).map fun q => s.fld Reg.GOV_PITCH_BUDGET_BUDGET q).sum

/-- STEP of GOV_JOB in mW; 0 acts as 1 W. -/
def State.lendStep (s : State) : Nat := 1000 * max 1 (s.fld Reg.GOV_JOB_LEND_STEP)

/-- A pitch's budget: the Warden's value with the ledger's adjustment (R401, R404). -/
def State.pitchBudget (s : State) (p : Nat) : Nat :=
  let base := s.fld Reg.GOV_PITCH_BUDGET_BUDGET p
  if !s.jobLends p then base
  else
    let j := s.job p
    let l := s.ledger p
    let k := l.counts.getD (j.parts.findIdx (· = s.devId)) 0
    let total := l.counts.sum
    let n : Int := (j.parts.length : Int) - 1
    let adjusted : Int := (base : Int) + ((s.lendStep : Int) * ((k : Int) * n - ((total : Int) - (k : Int)))).fdiv n
    max (s.floorSum p) (min adjusted.toNat (s.fld Reg.GOV_POOL_POOL - s.otherBudgets p))

/-- GOV_CAMP_STATUS.BUDGET of a camp: its budget after SCALE (R410). -/
def State.showBudget (s : State) (c : Nat) : State :=
  s.setFld Reg.GOV_CAMP_STATUS_BUDGET (sget 0 s.power.budgets c * s.fld Reg.LNT_STATUS_SCALE / 256) c

/-- A camp's budget set (log 87). -/
def State.setBudget (s : State) (c v : Nat) : State :=
  ({ s with power := { s.power with budgets := sset 0 s.power.budgets c v } } : State).showBudget c

/-- A pitch's budget split into equal base budgets (R401). -/
def State.splitBudget (s : State) (p : Nat) : State :=
  let cs := s.pitchCamps p
  cs.foldl (fun t c => t.setBudget c (s.pitchBudget p / max 1 cs.length)) s

/-- The rule of R402 over members with a base and a demand. -/
def rebalance (l : List (Nat × Nat)) : List Nat :=
  let keep (x : Nat × Nat) : Nat := if x.2 < x.1 then min x.1 (x.2 + x.1 / 16) else x.1
  let released := (l.map fun x => x.1 - keep x).sum
  let wanted := (l.map fun x => x.2 - x.1).sum
  l.map fun x => if x.1 < x.2 then min x.2 (x.1 + released * (x.2 - x.1) / wanted) else keep x

/-- A ledger after one RELEASE (R404). -/
def Ledger.release (l : Ledger) (n kmax decay : Nat) (x : Option Nat) : Ledger :=
  let counts := if l.counts.length = n then l.counts else List.replicate n 0
  match x with
  | some i => { counts := counts.mapIdx fun k v => if k = i ∧ v < kmax then v + 1 else v, calm := 0 }
  | none => if decay ≤ l.calm + 1 then { counts := List.replicate n 0, calm := 0 } else { counts := counts, calm := l.calm + 1 }

/-- THROTTLE_PEER for a RELEASE that names a throttled peer (R405). -/
def State.throttlePeer (s : State) (p dev : Nat) : State :=
  let s1 := s.bump Ctr.GOV_THR_PEER p (locSlot (4 * s.leadCamp p)) p (detail := atBytes [(8, dev)])
  let now := s1.fld Reg.FB_ROUNDS p
  if s1.power.peers.any fun x => decide (x.1 = p ∧ x.2.1 = dev ∧ now < x.2.2 + 4096) then s1
  else
    ({ s1 with power := { s1.power with
        peers := (s1.power.peers.filter fun x => !decide (x.1 = p ∧ x.2.1 = dev)) ++ [(p, dev, now)] } } : State).event Code.THROTTLE_PEER p
      (locSlot (4 * s.leadCamp p)) (atBytes [(8, dev)])

/-- A fabric round ends on this device (R292), and its RELEASE updates the ledger and names a throttled peer (R404, R405). -/
def State.roundReleased (s : State) (g lastDev lastThr slack : Nat) : State :=
  let p := s.fld Reg.GUY_CFG_PITCH g
  let j := s.job p
  let s1 := s.endFabricRound g lastDev lastThr slack
  let s2 := if s1.jobLends p ∧ s1.fld Reg.GOV_JOB_GUY = g then
      let x := if lastThr = 1 then some (j.parts.findIdx (· = lastDev)) else none
      let l := (s1.ledger p).release j.parts.length (s1.fld Reg.GOV_JOB_KMAX) (max 1 (s1.fld Reg.GOV_JOB_DECAY)) x
      ({ s1 with power := { s1.power with ledgers := sset .empty s1.power.ledgers p l } } : State).splitBudget p
    else s1
  if lastThr = 1 ∧ 1 < j.parts.length ∧ lastDev ≠ s.devId then s2.throttlePeer p lastDev else s2

end Sys2Proof.Machine
end

