-- ==== Sys2Proof/Machine/Operands.lean ====
section
/-! DEFINITION. The operand forms of descriptors: header and body fields, address fields, the decoding checks in their
order, and the memory records that descriptors name (chapter 09). -/
namespace Sys2Proof.Machine

open Sys2Proof

/-! The header (R243, R244). -/

/-- The type codes. -/
def tMatmul : Nat := 0x01
def tQuantise : Nat := 0x02
def tConvert : Nat := 0x03
def tVprog : Nat := 0x04
def tDmaCopy : Nat := 0x08
def tDmaReduce : Nat := 0x09
def tGather : Nat := 0x0A
def tSignal : Nat := 0x10
def tWait : Nat := 0x11
def tTake : Nat := 0x12
def tBarrier : Nat := 0x13
def tStashPut : Nat := 0x18
def tStashGet : Nat := 0x19
def tDigest : Nat := 0x20
def tCommit : Nat := 0x21
def tFencePoint : Nat := 0x22
def tNop : Nat := 0x3E
def tEnd : Nat := 0x3F

/-- TYPE of a descriptor. -/
def dType (w : Nat) : Nat := bits w 7 0
/-- AFTER. -/
def dAfter (w : Nat) : Bool := bit w 8
/-- LEG. -/
def dLeg (w : Nat) : Bool := bit w 9
/-- SIG_EN. -/
def dSigEn (w : Nat) : Bool := bit w 10
/-- SIG_CAMP. -/
def dSigCamp (w : Nat) : Nat := bits w 14 11
/-- SIG_TALLY. -/
def dSigTally (w : Nat) : Nat := bits w 24 15
/-- ENG_MASK. -/
def dEngMask (w : Nat) : Nat := bits w 32 25
/-- WDOG_LOG2. -/
def dWdog (w : Nat) : Nat := bits w 37 33

/-- The types of R244. -/
def listedTypes : List Nat :=
  [tMatmul, tQuantise, tConvert, tVprog, tDmaCopy, tDmaReduce, tGather, tSignal, tWait, tTake, tBarrier, tStashPut, tStashGet,
   tDigest, tCommit, tFencePoint, tNop, tEnd]

/-- Types that run on engines. -/
def engineTypes : List Nat := [tMatmul, tQuantise, tConvert]
/-- Types without a watchdog. -/
def noWatchdogTypes : List Nat := [tSignal, tWait, tTake, tBarrier, tCommit, tFencePoint, tNop, tEnd]
/-- Types that may not carry LEG. -/
def noLegTypes : List Nat := [tGather, tStashPut, tStashGet, tDigest, tCommit, tFencePoint, tEnd]
/-- Types that a chain list may not hold (R185). -/
def noChainTypes : List Nat := [tStashPut, tStashGet, tDigest, tCommit, tFencePoint, tEnd]

/-! Address fields (R246). -/

/-- The address slots of a type: the low bit, whether the slot is a global address field, and the alignment that R249 asks
of a record it names (1 for none). -/
def addrSlots (t : Nat) : List (Nat × Bool × Nat) :=
  if t = tMatmul then [(64, false, 32), (128, false, 32), (192, false, 64)]
  else if t = tQuantise then [(64, false, 32), (128, false, 32), (192, false, 1)]
  else if t = tConvert then [(64, false, 32), (128, false, 32)]
  else if t = tVprog then [(64, false, 1), (128, false, 64), (192, false, 1)]
  else if t = tDmaCopy ∨ t = tDmaReduce then [(64, true, 1), (128, true, 1)]
  else if t = tGather then [(64, true, 1), (128, false, 1), (192, false, 1)]
  else if t = tStashPut then [(64, false, 1)]
  else if t = tStashGet ∨ t = tDigest then [(64, false, 1), (128, false, 1)]
  else []

/-- The address of a slot as written. -/
def slotAddr (w lo : Nat) : Nat := bits w (lo + 47) lo
/-- The BANK mark of a slot. -/
def slotBank (w lo : Nat) : Nat := bits w (lo + 49) (lo + 48)
/-- DEV of a global slot. -/
def slotDev (w lo : Nat) : Nat := bits w (lo + 61) (lo + 50)
/-- REMOTE of a global slot. -/
def slotRemote (w lo : Nat) : Bool := bit w (lo + 62)

/-- An address with its bank mark resolved (R226, R246): bank B lies CMT_STRIDE above bank A. -/
def resolveBank (mark bank stride a : Nat) : Nat :=
  if mark = 1 then (a + bank * stride) % 2 ^ 48 else if mark = 2 then (a + (1 - bank) * stride) % 2 ^ 48 else a

/-! Decoding (R245). -/

/-- The ranges that a type's map marks RSVD, beside the upper bits of its address slots. -/
def reservedRanges (t : Nat) : List (Nat × Nat) :=
  if t = tMatmul then [(511, 340), (325, 325), (319, 319), (315, 315)]
  else if t = tQuantise then [(511, 324)]
  else if t = tConvert then [(511, 264), (255, 192)]
  else if t = tVprog then [(511, 273)]
  else if t = tDmaCopy then [(511, 416), (255, 192)]
  else if t = tDmaReduce then [(511, 424), (255, 192)]
  else if t = tGather then [(511, 480), (447, 432)]
  else if t = tSignal ∨ t = tWait ∨ t = tTake then [(511, 160), (127, 91)]
  else if t = tBarrier then [(511, 70)]
  else if t = tStashPut then [(511, 288), (255, 208)]
  else if t = tStashGet then [(511, 337), (255, 192)]
  else if t = tDigest then [(511, 306), (255, 192)]
  else if t = tCommit ∨ t = tFencePoint then [(511, 96)]
  else [(511, 64)]

/-- Every reserved range of a descriptor. -/
def allReserved (t : Nat) : List (Nat × Nat) :=
  (63, 38) :: reservedRanges t ++ ((addrSlots t).map fun x => if x.2.1 then (x.1 + 63, x.1 + 63) else (x.1 + 63, x.1 + 50))
    ++ (if t ∈ engineTypes then [] else [(32, 25)]) ++ (if t ∈ noWatchdogTypes then [(37, 33)] else [])

/-- The lowest of several bit positions. -/
def lowest : List Nat → Option Nat
  | [] => none
  | p :: rest => match lowest rest with
    | none => some p
    | some q => some (min p q)

/-- The positions of those checks that fail. -/
def failing (l : List (Bool × Nat)) : List Nat := (l.filter (·.1)).map (·.2)

/-- The bytes of a source element of a DMA_REDUCE OP, and those at its destination (R359). -/
def reduceSizes (op : Nat) : Nat × Nat :=
  if op = 1 then (2, 2) else if op = 3 then (8, 8) else if op = 5 then (2, 4) else (4, 4)

/-- The token axis of a MATMUL operand: whether it lies on the record's K axis (R255). -/
def tokenOnK (tok ax other : Nat) : Bool := if tok = 3 then ax == 0 else if tok = other then ax == 1 else false

/-- The NOPS that each built-in program takes (R260), and whether it uses a table pair. -/
def builtinProgram (prog : Nat) : Option (Nat × Bool) :=
  match prog with
  | 0x01 => some (7, false) | 0x02 => some (2, true) | 0x03 => some (3, true) | 0x04 => some (3, true)
  | 0x05 => some (5, true) | 0x06 => some (3, false) | 0x07 => some (6, false) | 0x08 => some (2, true)
  | 0x09 => some (3, true) | 0x0A => some (3, false) | 0x0B => some (2, false) | 0x0C => some (3, false)
  | 0x0D => some (2, false) | _ => none

/-- The field-value checks of one type (R245 step 3 and the type's own section), with each field's low bit (log 36). -/
def typeFails (t w camps : Nat) (legs : Bool) : List (Bool × Nat) :=
  if t = tMatmul then
    let tok := bits w 339 338
    let mode := bits w 305 304
    [(mode = 3, 304), (bits w 309 308 = 3, 308), (bits w 317 316 = 3, 316), (bits w 321 320 = 3, 320), (bits w 323 322 = 3, 322),
     (bits w 327 326 = 3, 326),
     (bits w 317 316 ∈ [1, 2] ∧ bits w 321 320 ≠ 0, 320), (bits w 323 322 ∈ [1, 2] ∧ bits w 327 326 ≠ 0, 326),
     (mode = 0 ∧ bits w 332 328 ≠ 0, 328), (mode = 0 ∧ bits w 337 333 ≠ 0, 333),
     (mode ∈ [1, 2] ∧ bits w 307 306 ≠ 0, 306), (mode ∈ [1, 2] ∧ bits w 314 312 ≠ 0, 312), (mode ∈ [1, 2] ∧ bits w 287 256 ≠ 0, 256),
     (legs ∧ tok = 0, 338),
     (legs ∧ bits w 317 316 ≠ 0 ∧ tokenOnK tok (bits w 318 318) 1, 338),
     (legs ∧ bits w 323 322 ≠ 0 ∧ tokenOnK tok (bits w 324 324) 2, 338)]
  else if t = tQuantise then [(bits w 321 320 = 3, 320)]
  else if t = tConvert then [(3 < bits w 259 256, 256), (bits w 259 256 ∈ [0, 3] ∧ bits w 263 260 ≠ 0, 260)]
  else if t = tVprog then
    let prog := bits w 263 256
    let nops := bits w 267 264
    match builtinProgram prog with
    | some (n, pair) => [(nops ≠ n, 264), (bit w 272 ≠ pair, 272), (bits w 255 192 ≠ 0, 192)]
    | none => [(prog ≠ 0xFF, 256), (prog = 0xFF ∧ (nops = 0 ∨ 8 < nops), 264)]
  else if t = tDmaCopy then [(slotRemote w 64 && slotRemote w 128, 126)]
  else if t = tDmaReduce then
    let op := bits w 419 416
    let coll := bits w 421 420
    let (ss, ds) := reduceSizes op
    [(5 < op, 416), (1 < coll, 420), (slotRemote w 64 && slotRemote w 128, 126), (coll = 1 ∧ slotRemote w 64, 126),
     (coll = 1 ∧ slotRemote w 128, 190),
     (op ≤ 5 ∧ bits w 319 288 % ss ≠ 0, 288), (op ≤ 5 ∧ slotAddr w 64 % ss ≠ 0, 64), (op ≤ 5 ∧ bits w 367 320 % ss ≠ 0, 320),
     (op ≤ 5 ∧ slotAddr w 128 % ds ≠ 0, 128), (op ≤ 5 ∧ bits w 415 368 % ds ≠ 0, 368)]
  else if t = tGather then [(bits w 417 416 = 3, 416), (bits w 417 416 ∈ [1, 2] ∧ slotRemote w 64, 126)]
  else if t = tSignal then
    [(bits w 75 64 ≠ 0 ∧ !bit w 76, 64), (!bit w 76 && !camps.testBit (bits w 80 77), 77)]
  else if t = tWait ∨ t = tTake then
    [(bits w 75 64 ≠ 0 ∧ !bit w 76, 64), (bit w 76, 76), (!camps.testBit (bits w 80 77), 77)]
  else if t = tStashPut then
    [(bits w 159 128 % 64 ≠ 0 ∨ bits w 159 128 = 0, 128), (bits w 191 160 % 64 ≠ 0, 160)]
  else if t = tStashGet then
    [(bits w 287 256 % 64 ≠ 0 ∨ bits w 287 256 = 0, 256), (bits w 319 288 % 64 ≠ 0, 288)]
  else if t = tDigest then [(1 < bits w 305 304, 304)]
  else []

/-- The checks of step 3 that hold of every type. -/
def commonFails (t w camps : Nat) : List (Bool × Nat) :=
  [(dLeg w && decide (t ∈ noLegTypes), 9), (dSigEn w && decide (t = tEnd), 10),
   (dSigEn w && decide (t ≠ tEnd) && !camps.testBit (dSigCamp w), 11)]
  ++ ((addrSlots t).flatMap fun x =>
    [(decide (slotBank w x.1 = 3), x.1 + 48), (decide (slotAddr w x.1 % x.2.2 ≠ 0), x.1),
     (x.2.1 && !slotRemote w x.1 && decide (slotDev w x.1 ≠ 0), x.1 + 50)])

/-- How decoding ends (R245): a code and the lowest bit position that fails, or none. `legs` tells a descriptor that runs
in a leg section (log 29). -/
def decodeFault (w idx camps : Nat) (legs : Bool) : Option (Nat × Nat) :=
  let t := dType w
  if t ∉ listedTypes ∨ (idx = 0xFFFFFFFF ∧ t ≠ tEnd) then some (Code.DESC_TYPE_INVALID, 0)
  else match lowest (failing ((allReserved t).map fun r => (decide (bits w r.1 r.2 ≠ 0), r.2))) with
    | some p => some (Code.DESC_RESERVED_SET, p)
    | none =>
      match lowest (failing (commonFails t w camps ++ typeFails t w camps legs)) with
      | some p => some (Code.DESC_FIELD_INVALID, p)
      | none => none

/-! Plain tensor records (R249). -/

/-- A plain record as read. -/
structure Plain where
  fmt : Nat
  mxs : Nat
  pitch : Nat
  cols : Nat
  rows : Nat
  base : Nat
  deriving DecidableEq, Repr

/-- The bytes of an element of a format (FMT 6 aside). -/
def fmtSize (f : Nat) : Nat := if f = 0 then 2 else if f = 1 then 4 else if f = 2 then 8 else if f = 3 then 1 else if f = 4 then 4 else 8

/-- The fields of a plain record's 32 bytes. -/
def plainOf (w : Nat) : Plain :=
  { fmt := bits w 227 224, mxs := bits w 223 176, pitch := bits w 175 128, cols := bits w 127 96, rows := bits w 95 64, base := bits w 47 0 }

/-- The bytes of one row. -/
def Plain.rowBytes (r : Plain) : Nat := if r.fmt = 6 then (r.cols + 31) / 32 * 16 else r.cols * fmtSize r.fmt

/-- The alignment of BASE and PITCH. -/
def Plain.unit (r : Plain) : Nat := if r.fmt = 6 then 16 else fmtSize r.fmt

/-- Whether the 32 bytes are a valid plain record (R249). -/
def plainValid (w : Nat) : Bool :=
  let r := plainOf w
  bits w 255 228 == 0 && bits w 63 48 == 0 && decide (r.fmt ≤ 6) && (r.fmt == 6 || r.mxs == 0) && r.base % r.unit == 0
    && r.pitch % r.unit == 0 && (decide (r.rows ≤ 1) || decide (r.rowBytes ≤ r.pitch))

/-- The address of an element. -/
def Plain.at (r : Plain) (row col : Nat) : Nat := r.base + row * r.pitch + col * fmtSize r.fmt

/-! The fields of the bodies. -/

/-- TOK_AX of a MATMUL. -/
def mTok (w : Nat) : Nat := bits w 339 338
/-- MODE of a MATMUL: 0 four-bit, 1 Datum-32, 2 Datum-64. -/
def mMode (w : Nat) : Nat := bits w 305 304
/-- PLOT of a MATMUL. -/
def mPlot (w : Nat) : Nat := bits w 311 310
/-- PATH of a MATMUL. -/
def mPath (w : Nat) : Nat := bits w 309 308
/-- PROFILE of a MATMUL. -/
def mProfile (w : Nat) : Nat := bits w 307 306
/-- SITE of a MATMUL. -/
def mSite (w : Nat) : Nat := bits w 303 288
/-- STEP of a MATMUL. -/
def mStep (w : Nat) : Nat := bits w 287 256
/-- LIMSET of a MATMUL. -/
def mLimset (w : Nat) : Nat := bits w 314 312

end Sys2Proof.Machine
end

