-- ==== Sys2Proof/Machine/Vote.lean ====
section
/-! DEFINITION. Slots and flights by number, and the commit unit's votes and aborts (R234-R239). -/
namespace Sys2Proof.Machine

open Sys2Proof

/-! Slots by number. -/

/-- The camp whose sequencer holds a slot or guest context. -/
def slotCamp (k : Nat) : Nat := if k < 64 then k / 4 else (k - 64) / 4

/-- The pitch of a slot. -/
def State.slotPitch (s : State) (k : Nat) : Nat := s.campPitch (slotCamp k)

/-- The translation that a slot issues under. -/
def State.slotMap (s : State) (k : Nat) : PageMap := s.mapOf (s.slotPitch k)

/-- Every flight of a slot. -/
def StreamSlot.allFlights (x : StreamSlot) : List Flight := x.main.flights ++ ((x.chain.map (fun c => c.2.flights)).getD [])

/-- A change to the flight of a number, wherever it is. -/
def StreamSlot.mapFlight (x : StreamSlot) (uid : Nat) (g : Flight → Flight) : StreamSlot :=
  let upd (f : Frame) : Frame := { f with flights := f.flights.map fun fl => if fl.uid = uid then g fl else fl }
  { x with main := upd x.main, chain := x.chain.map (fun c => (c.1, upd c.2)) }

/-- The slot whose flight has a number. -/
def State.slotOf (s : State) (uid : Nat) : Option Nat :=
  (s.slots.find? fun e => e.2.allFlights.any fun f => decide (f.uid = uid)).map (·.1)

/-- The flight of a number, with its slot. -/
def State.flightOf (s : State) (uid : Nat) : Option (Nat × Flight) :=
  match s.slotOf uid with
  | none => none
  | some k => ((s.slot k).allFlights.find? fun f => decide (f.uid = uid)).map fun f => (k, f)

/-- The state with the flight of a number changed. -/
def State.setFlight (s : State) (uid : Nat) (g : Flight → Flight) : State :=
  match s.slotOf uid with
  | none => s
  | some k => s.setSlot k ((s.slot k).mapFlight uid g)

/-- The DETAIL of the codes of R241. -/
def commitDetail (step attempt cause dev : Nat) : Nat := atBytes [(0, step), (4, attempt), (5, cause), (6, dev)]

/-! The commit unit of a pitch. -/

/-- A commit unit with no attempt. -/
def CommitRec.none : CommitRec :=
  { issued := [], vote := 0, cause := 0, ready := [], decided := 0, why := 0, who := 0, acked := [], rounds := 0, last := Option.none,
    fenced := [], owed := [] }

/-- A pitch's commit unit. -/
def State.commitRec (s : State) (p : Nat) : CommitRec := sget .none s.commits p

/-- The state with a commit unit set. -/
def State.setCommit (s : State) (p : Nat) (c : CommitRec) : State := { s with commits := sset .none s.commits p c }

/-- STEP, ATTEMPT and STATE of CMT_STATUS. -/
def State.cmtStep (s : State) (p : Nat) : Nat := s.fld Reg.CMT_STATUS_STEP p
/-- ATTEMPT. -/
def State.cmtAttempt (s : State) (p : Nat) : Nat := s.fld Reg.CMT_STATUS_ATTEMPT p
/-- STATE: 0 none, 1 open, 2 voted, 3 IN_DOUBT, 4 COMMITTED, 5 ABORTED. -/
def State.cmtState (s : State) (p : Nat) : Nat := s.fld Reg.CMT_STATUS_STATE p

/-- The leader of a pitch's job (R222). -/
def State.leader (s : State) (p : Nat) : Nat := (s.job p).parts.headD s.devId

/-- Whether this device is the leader. -/
def State.leads (s : State) (p : Nat) : Bool := s.leader p == s.devId

/-- The other participants. -/
def State.peers (s : State) (p : Nat) : List Nat := (s.job p).parts.filter (· ≠ s.devId)

/-- The KIND codes of R234. -/
def voteReady : Nat := 1
/-- VOTE_ABORT. -/
def voteAbort : Nat := 2
/-- DECIDE_COMMIT. -/
def decideCommit : Nat := 3
/-- DECIDE_ABORT. -/
def decideAbort : Nat := 4
/-- DECIDE_ACK. -/
def decideAck : Nat := 5
/-- QUERY. -/
def queryKind : Nat := 6
/-- STATE_REPLY. -/
def stateReply : Nat := 7

/-- A commit message body (R234). -/
def commitBody (sender cause state kind attempt job step : Nat) : Nat :=
  step ||| job <<< 48 ||| attempt <<< 72 ||| kind <<< 80 ||| state <<< 84 ||| cause <<< 88 ||| sender <<< 96

/-- A commit message of an attempt. -/
def State.sendCommitOf (s : State) (p dst kind cause state attempt step : Nat) : State :=
  s.message p (s.job p).num 2 dst (commitBody s.devId cause state kind attempt (s.job p).num step) 16

/-- A commit message of the current attempt. -/
def State.sendCommit (s : State) (p dst kind cause state : Nat) : State :=
  s.sendCommitOf p dst kind cause state (s.cmtAttempt p) (s.cmtStep p)

/-- A commit message to every other participant. -/
def State.tellPeers (s : State) (p kind cause : Nat) : State := (s.peers p).foldl (fun t d => t.sendCommit p d kind cause 0) s

/-- A commit event (R241, log 65). -/
def State.commitEvent (s : State) (p code cause dev : Nat) : State :=
  s.event code p (locHarbour 0x0C) (commitDetail (s.cmtStep p) (s.cmtAttempt p) cause dev)

/-- The attempt number that a step's next attempt takes (R239). -/
def State.nextAttempt (s : State) (p step : Nat) : Nat :=
  if s.cmtState p = 5 ∧ s.cmtStep p = step then (s.cmtAttempt p + 1) % 256 else 0

/-- Whether a step is newer than the last COMMITTED one (R235). -/
def State.stepFresh (s : State) (p step : Nat) : Bool :=
  match (s.commitRec p).last with
  | some l => newer 32 step l
  | none => true

/-- The decision of the current attempt, so far as participants have still to acknowledge it (R236). -/
def State.decisionOwed (s : State) (p : Nat) : List OwedDecision :=
  let c := s.commitRec p
  let left := (s.peers p).filter (· ∉ c.acked)
  if c.decided = 0 ∨ left = [] then []
  else [{ step := s.cmtStep p, attempt := s.cmtAttempt p, kind := if c.decided = 1 then decideCommit else decideAbort, cause := c.why, devs := left }]

/-- The next attempt opens (R235); a decision not acknowledged by all goes on being sent (R236). -/
def State.openAttempt (s : State) (p step : Nat) : State :=
  let a := s.nextAttempt p step
  let c := s.commitRec p
  (((s.setFld Reg.CMT_STATUS_STEP step p).setFld Reg.CMT_STATUS_ATTEMPT a p).setFld Reg.CMT_STATUS_STATE 1 p).setCommit p
    { CommitRec.none with last := c.last, fenced := c.fenced, owed := c.owed ++ s.decisionOwed p }

/-- The COMMITs of an attempt end in flight, with a code or completed; they then complete or fault (R168, R236). -/
def State.endCommits (s : State) (p code : Nat) : State :=
  (s.commitRec p).issued.foldl (fun t x => t.setFlight x.2 fun f => { f with left := 0, done := true, code := code }) s

/-- An IN_DOUBT attempt is settled (R237). -/
def State.resolved (s : State) (p old cause dev : Nat) : State := if old = 3 then s.commitEvent p Code.COMMIT_RESOLVED cause dev else s

/-- ABORT takes effect on this device (R236). -/
def State.applyAbort (s : State) (p cause dev : Nat) : State :=
  let old := s.cmtState p
  let s1 := (s.setFld Reg.CMT_STATUS_STATE 5 p).bump Ctr.CMT_ABORTS p (locHarbour 0x0C) p
  let c := s1.commitRec p
  (((s1.setCommit p { c with why := cause, who := dev, fenced := [] }).commitEvent p Code.COMMIT_ABORT cause dev).resolved p old cause dev).endCommits p
    Code.COMMIT_ABORT

/-- The leader decides ABORT, tells every other participant, and applies it at once (R236). -/
def State.leaderAbort (s : State) (p cause dev : Nat) : State :=
  let c := s.commitRec p
  (((s.setCommit p { c with decided := 2 }).tellPeers p decideAbort cause).applyAbort p cause dev)

/-- This device votes ABORT (R235). -/
def State.castAbort (s : State) (p cause : Nat) : State :=
  let c := s.commitRec p
  let s1 := (s.setCommit p { c with vote := 2, cause := cause }).setFld Reg.CMT_STATUS_STATE 2 p
  if s1.leads p then s1.leaderAbort p cause s1.devId else s1.sendCommit p (s1.leader p) voteAbort cause 0

/-- Whether a camp of a pitch keeps the device from voting READY (R235): its UPD slot is HALTED, or, with no COMMIT of its own issued,
it has been fenced since the last attempt was settled (log 122) or is fenced with its work not moved. -/
def State.campStops (s : State) (p c : Nat) : Bool :=
  (s.slot (s.slotFor c 2)).state == 4
    || ((decide (c ∈ (s.commitRec p).fenced) || (s.campFenced c && !s.tallyMoved c))
      && !((s.commitRec p).issued.any fun x => decide (x.1 = c)))

/-- A camp is fenced: an attempt that opens before it is settled again counts it (R235). -/
def State.noteCampFence (s : State) (c : Nat) : State :=
  let p := s.campPitch c
  let r := s.commitRec p
  if c ∈ r.fenced ∨ (s.job p).num = 0 then s else s.setCommit p { r with fenced := r.fenced ++ [c] }

/-- The camps of a pitch. -/
def State.campsOf (s : State) (p : Nat) : List Nat := (List.range 16).filter (s.mapOf p).camps.testBit

/-- A device whose attempt is open votes ABORT where R235 makes it (causes 1 and 3). -/
def State.voteCheck (s : State) (p : Nat) : State :=
  if s.cmtState p ≠ 1 ∨ (s.commitRec p).vote ≠ 0 then s
  else if (s.campsOf p).any (s.campStops p) then s.castAbort p 1
  else if (s.job p).rose ∧ s.fld Reg.CMT_CFG_NONFINITE_ABORT p = 1 then s.castAbort p 3
  else s

end Sys2Proof.Machine
end

