-- ==== Sys2Proof/Machine/Streams.lean ====
section
/-! DEFINITION. Stream slots (chapter 06): fetch, issue, completion, faults and resumption, with the rows of the
synchronisation and control descriptors that need no other unit. -/
namespace Sys2Proof.Machine

open Sys2Proof

/-- MBATCH of the record that a slot runs. -/
def StreamSlot.mbatch (x : StreamSlot) : Nat := (x.run.map (·.mbatch)).getD 0

/-- LEG_LEN of the record that a slot runs. -/
def StreamSlot.legLen (x : StreamSlot) : Nat := (x.run.map (·.legLen)).getD 0

/-- Whether a camp's sequencer runs: its island is clocked and the camp is not fenced (log 73). -/
def State.campRuns (s : State) (c : Nat) : Bool := !s.campsGated && decide (s.fld Reg.FEN_STATE_CAMP_STATE c < 2)

/-- The index of the oldest descriptor that has not completed (STR_POS). -/
def StreamSlot.oldest (x : StreamSlot) : Nat :=
  let faults := x.faulted.map (·.idx)
  match lowest (faults ++ x.main.flights.map (·.idx)) with
  | some i => min i x.main.next
  | none => x.main.next

/-- The DETAIL of a stream event (R193). -/
def streamDetail (block sub mbatch idx : Nat) : Nat := atBytes [(0, block), (2, sub), (4, mbatch), (8, idx)]

/-- The DETAIL of a descriptor event (R276). -/
def descDetail (pos sub type mbatch idx : Nat) : Nat := atBytes [(0, pos), (2, sub), (3, type), (4, mbatch), (8, idx)]

/-- The event of an access that a unit of a pitch could not make (R336, log 32, 81); of one to a fenced camp's tally words, that of
R282 and R306, with the code of the issuer and its camp. -/
def State.memEvent (s : State) (pitch code a : Nat) (issuer : Nat := 8) (camp : Nat := 0) : State :=
  match region a, decide (code = Code.TALLY_UNREACHABLE) with
  | .tally c off, true => s.tallyFault code c (off / 8) 0 issuer camp 0
  | _, _ => s.event code pitch (s.locMem a) (s.memDetail a)

/-! Start records (R165, R166). -/

/-- The record of 32 bytes. -/
def startRecOf (w : Nat) : StartRec :=
  { list := bits w 47 0, mbatch := bits w 127 96, legLen := bits w 159 128, endTally := bits w 186 177, endCamp := bits w 190 187,
    endEn := bit w 191 }

/-- Whether a start record passes R166 for a pitch. -/
def State.startRecOk (s : State) (pitch w : Nat) : Bool :=
  bits w 255 208 == 0 && bits w 176 160 == 0 && bits w 95 48 == 0 && bits w 207 192 == (s.job pitch).num && (s.job pitch).num != 0
    && (!bit w 191 || (s.mapOf pitch).camps.testBit (bits w 190 187)) && bits w 5 0 == 0 && bits w 159 128 % 64 == 0

/-- A start record submitted to a slot: 0 accepted, 1 queue full, 2 refused by R166. -/
def State.submit (s : State) (k w : Nat) : Nat × State :=
  let x := s.slot k
  if !s.startRecOk (s.slotPitch k) w then
    (2, s.event Code.STREAM_SETTING_INVALID (s.slotPitch k) (locSlot (s.slotHome k)) (streamDetail 0 0 (bits w 127 96) 0))
  else if 4 ≤ x.queue.length then (1, s)
  else (0, s.setSlot k { x with queue := x.queue ++ [startRecOf w] })

/-! Fetch (R167, R242). -/

/-- The fetched descriptor of an index. -/
def Frame.entry (f : Frame) (i : Nat) : Option (Nat × Nat × Nat) := f.fetched.find? fun e => decide (e.1 = i)

/-- The index from which the window of 32 counts. -/
def Frame.window (f : Frame) : Nat := (f.flights.head?.map (·.idx)).getD f.next

/-- The next index to fetch, or none when the window is full or the list ends. -/
def Frame.wanted (f : Frame) : Option Nat :=
  let i : Nat := match f.fetched.getLast? with
    | some e => e.1 + 1
    | none => f.next
  let ended : Bool := match f.fetched.getLast? with
    | some e => e.2.1 == 0 && dType e.2.2 == tEnd && f.count.isNone
    | none => false
  if ended ∨ 2 ^ 32 ≤ i ∨ f.window + 32 ≤ i ∨ (f.count.map (fun n => decide (n ≤ i))) = some true then none else some i

/-- A frame's fetches go as far as they can (log 33). -/
def State.fetchFrame (s : State) (pitch : Nat) (m : PageMap) : Nat → Frame → Frame
  | 0, f => f
  | fuel + 1, f =>
    match f.wanted with
    | none => f
    | some i =>
      match s.readNum pitch m (f.base + 64 * i) 64 with
      | .ok w => s.fetchFrame pitch m fuel { f with fetched := f.fetched ++ [(i, 0, w)] }
      | .err code _ => s.fetchFrame pitch m fuel { f with fetched := f.fetched ++ [(i, code, 0)] }
      | .wait => f

/-- A slot forgets what it no longer holds: fetched descriptors below the oldest and outside the leg section, and
completions that no longer stand behind an incomplete descriptor. -/
def StreamSlot.prune (x : StreamSlot) : StreamSlot :=
  let f := x.frame
  let low := match lowest (x.faulted.map (·.idx) ++ f.flights.map (·.idx)) with
    | some i => min i f.next
    | none => f.next
  let low := (x.legStart.map (min low ·)).getD low
  let behind (e : DoneRec) : Bool := match f.flights.head? with
    | some h => decide (h.uid < e.uid)
    | none => false
  let ahead (e : DoneRec) : Bool :=
    if e.sect = x.legStart then decide (x.leg < e.leg ∨ e.leg = x.leg ∧ f.next ≤ e.idx) else decide (f.next ≤ e.idx)
  let done := if x.faulted ≠ [] then f.completed else f.completed.filter fun e => behind e || ahead e
  x.setFrame { f with fetched := f.fetched.filter (fun e => decide (low ≤ e.1)), completed := done }

/-- The completions of a list that stand behind a descriptor still in flight. -/
def Frame.behind (f : Frame) : List DoneRec :=
  match f.flights.head? with
  | some h => f.completed.filter fun e => decide (h.uid < e.uid)
  | none => []

/-- A slot's window slides and its fetches go on. -/
def State.refill (s : State) (k : Nat) : State :=
  let x := (s.slot k).prune
  s.setSlot k (x.setFrame (s.fetchFrame (s.slotPitch k) (s.slotMap k) 33 x.frame))

/-- STREAM_TAKE_RECORD (R167): an idle slot takes its oldest record and starts fetching. -/
def execStreamTakeRecord (k : SlotKey) (s : State) : Host.Outcome State Fault Refusal :=
  let x := s.slot k.val
  match x.queue with
  | [] => .next s
  | r :: rest =>
    if x.state = 0 ∧ s.campRuns (slotCamp k.val) ∧ s.fld Reg.FEN_STATE_CAMP_STATE (slotCamp k.val) = 0 then
      .next ((s.setSlot k.val { StreamSlot.idle with
        state := 1, queue := rest, run := some r, main := { Frame.empty with base := r.list }, home := x.home }).refill k.val)
    else .next s

/-! Issue (R168, R188, R245). -/

/-- The leg section's bookkeeping before the next descriptor: completed ones are passed over, a section goes back for its
next leg or ends (R188). -/
def StreamSlot.normalise : Nat → StreamSlot → StreamSlot
  | 0, x => x
  | fuel + 1, x =>
    let f := x.frame
    let atEnd := f.count == some f.next
    let flag := if atEnd then some false
      else (f.entry f.next).map fun e => e.2.1 == 0 && dLeg e.2.2 && x.legLen != 0
    match flag, x.legStart with
    | none, _ => x
    | some false, some a =>
      if (x.leg + 1) * x.legLen < x.legMax then
        StreamSlot.normalise fuel { (x.setFrame { f with next := a }) with leg := x.leg + 1 }
      else StreamSlot.normalise fuel { x with leg := 0, legStart := none, legMax := 0 }
    | some g, st =>
      if f.completed.any (fun e => decide (e.idx = f.next ∧ e.leg = x.leg)) then
        StreamSlot.normalise fuel { (x.setFrame { f with next := f.next + 1 }) with
          legStart := if g then some (st.getD f.next) else st }
      else if g then { x with legStart := some (st.getD f.next) } else x

/-- The next descriptor of a slot as it issues. -/
structure Issue where
  k : Nat
  pitch : Nat
  camp : Nat
  idx : Nat
  leg : Nat
  inLeg : Bool
  w : Nat
  bank : Nat
  map : PageMap
  mbatch : Nat
  deriving DecidableEq, Repr

/-- Whether later descriptors are held back by one in flight (R168). -/
def holdsBack (f : Flight) : Bool :=
  let t := dType f.word
  (decide (t ∈ [tWait, tTake, tBarrier]) && !f.done) || decide (t ∈ [tCommit, tFencePoint, tEnd])

/-- Whether every earlier descriptor of the stream has completed. -/
def StreamSlot.alone (x : StreamSlot) : Bool :=
  match x.chain with
  | some (_, f) => f.flights.isEmpty && decide (x.main.flights.length ≤ 1)
  | none => x.main.flights.isEmpty

/-- The state in which a slot's halt can be seen: with nothing left in flight it is HALTED at the lowest faulted index
(R172). -/
def State.settleHalt (s : State) (k : Nat) : State :=
  let x := s.slot k
  if x.state = 3 ∧ !x.aborting ∧ x.allFlights = [] then
    match x.faulted.foldl (fun (b : Option FaultRec) r => match b with
        | none => some r
        | some q => if r.idx < q.idx then some r else some q) none with
    | none => s
    | some r =>
      let h := s.slotHome k
      (((s.setSlot k { x with state := 4, chain := none }).setFld Reg.STR_HALT_CODE r.code h).setFld Reg.STR_HALT_INDEX r.idx h).voteCheck
        (s.slotPitch k)
  else s

/-- A chain list whose descriptors have all ended after a fault: the STASH_GET that runs it ends with it, and has not completed. -/
def StreamSlot.dropChain (x : StreamSlot) : StreamSlot :=
  match x.chain with
  | some (ch, f) => if x.state = 3 ∧ f.flights = [] then
      { x with chain := none, main := { x.main with flights := x.main.flights.filter fun g => decide (g.uid ≠ ch.get) } } else x
  | none => x

/-- Whether a flight belongs to the chain list that runs. -/
def StreamSlot.inChain (x : StreamSlot) (uid : Nat) : Bool :=
  match x.chain with
  | some (_, f) => f.flights.any fun g => decide (g.uid = uid)
  | none => false

/-- Where a descriptor of a chain list faults in the stream: at the STASH_GET that runs the list (log 17). -/
def StreamSlot.faultPlace (x : StreamSlot) (r : FaultRec) : FaultRec :=
  match x.chain with
  | some (ch, _) =>
    match x.main.flights.find? fun g => decide (g.uid = ch.get) with
    | some g => { r with idx := g.idx, leg := g.leg, sect := g.sect, sectMax := g.sectMax }
    | none => r
  | none => r

/-- A fault is counted and the slot stops issuing (R172); signals of later descriptors are never performed. -/
def State.slotFaulted (s : State) (k uid : Nat) (r : FaultRec) : State :=
  let s1 := (s.countBlocked k).bump Ctr.STR_FAULTS (s.slotPitch k) (locSlot (s.slotHome k)) (s.slotHome k)
    (detail := streamDetail 0 0 (s.slot k).mbatch r.idx)
  let x := s1.slot k
  let drop (f : Frame) : Frame :=
    { f with flights := f.flights.filter fun g => !(decide (dType g.word = tSignal) && !g.begun && decide (uid < g.uid)) }
  let x1 : StreamSlot := { x with state := 3, faulted := x.faulted ++ [r], main := drop x.main, chain := x.chain.map (fun c => (c.1, drop c.2)) }
  (s1.setSlot k x1.dropChain).settleHalt k

/-- A descriptor that faults at issue, its event already raised. -/
def State.issueFault (s : State) (i : Issue) (code : Nat) : State :=
  let x := s.slot i.k
  let s1 := s.setSlot i.k (x.setFrame { x.frame with next := i.idx + 1 })
  ({ s1 with issued := s1.issued + 1 } : State).slotFaulted i.k s1.issued
    (x.faultPlace { idx := i.idx, leg := i.leg, sect := x.legStart, sectMax := x.legMax, code := code })

/-- A descriptor that faults at issue with a code of R276 at a bit position. -/
def State.issueFaultAt (s : State) (i : Issue) (code pos sub : Nat) : State :=
  (s.event code i.pitch (locSlot (s.slotHome i.k)) (descDetail pos sub (dType i.w) i.mbatch i.idx)).issueFault i code

/-- A descriptor that faults at issue because a read or write of its own did (R38). -/
def State.issueFaultMem (s : State) (i : Issue) (code a : Nat) : State := (s.memEvent i.pitch code a (i.k % 4) i.camp).issueFault i code

/-- The flight of an issued descriptor. -/
def Issue.flight (i : Issue) (uid : Nat) (sect : Option Nat) (left : Nat) (begun done : Bool) (keep : List Nat) : Flight :=
  { uid := uid, idx := i.idx, leg := i.leg, sect := sect, sectMax := 0, word := i.w, bank := i.bank, map := i.map, left := left,
    begun := begun, done := done, code := 0, keep := keep }

/-- A descriptor issues: it joins the flights, and the slot goes on to the next index. -/
def State.fly (s : State) (i : Issue) (left : Nat) (begun done : Bool) (keep : List Nat := []) (axis : Nat := 0) : State :=
  let x := s.slot i.k
  let m := if i.inLeg then max x.legMax axis else x.legMax
  let fl := { (i.flight s.issued x.legStart left begun done keep) with sectMax := m }
  let f := x.frame
  ({ (s.setSlot i.k { (x.setFrame { f with next := i.idx + 1, flights := f.flights ++ [fl] }) with legMax := m }) with
    issued := s.issued + 1 } : State)

/-- How an issue row begins: the row does not happen now, the descriptor faults before its own checks, or it goes on. -/
inductive Begin where
  | stutter
  | faulted (s : State)
  | go (i : Issue) (s : State)

/-- Which tallies a descriptor would touch with a non-zero amount (R284): camp, number and amount. -/
def touches (w : Nat) : List (Nat × Nat × Nat) :=
  (if dSigEn w then [(dSigCamp w, dSigTally w, 1)] else [])
  ++ (if (decide (dType w ∈ [tWait, tTake]) || (decide (dType w = tSignal) && !bit w 76)) && bits w 159 128 != 0 then
      [(bits w 80 77, bits w 90 81, bits w 159 128)] else [])

/-- The keys of the private tallies that a descriptor touches, each once. -/
def State.touchKeys (s : State) (w : Nat) : List Nat :=
  (((touches w).filter fun c => !s.tallyShared c.1 c.2.1).map fun c => c.1 * 1024 + c.2.1).eraseDups

/-- The private tallies of a slot's table, with those that its descriptors under way touch before they end (R284, log 123). -/
def State.touchPlan (s : State) (k : Nat) : List Nat :=
  ((s.slot k).touched.map (·.1) ++ (s.slot k).allFlights.flatMap fun f => s.touchKeys f.word).eraseDups

/-- The touch of a descriptor that would need a 257th entry (R284): camp, number and amount. -/
def State.touchFault (s : State) (k w : Nat) : Option (Nat × Nat × Nat) :=
  let plan := s.touchPlan k
  match ((s.touchKeys w).filter fun x => !plan.contains x).drop (256 - plan.length) with
  | [] => none
  | x :: _ => (touches w).find? fun c => decide (c.1 * 1024 + c.2.1 = x)

/-- A slot at its next descriptor, with the window fetched up to it. -/
def State.atNext (s : State) (k : Nat) : StreamSlot :=
  let x := StreamSlot.normalise 80 (s.slot k)
  match x.frame.entry x.frame.next with
  | some _ => x
  | none => StreamSlot.normalise 80 (((s.setSlot k x).refill k).slot k)

/-- The common part of every issue row: the slot runs, the window has room, R168 lets the descriptor issue (at most 32 in flight in
the slot, those of the main list and of a chain list together), and its decoding (R245), the touched table (R284) and the chain rule
(R185) let it go on. -/
def State.beginIssue (s : State) (k t : Nat) : Begin :=
  let x := s.atNext k
  let f := x.frame
  match x.run, f.entry f.next with
  | some r, some (_, fault, w) =>
    if x.state ≠ 1 ∨ !s.campRuns (slotCamp k) ∨ 32 ≤ x.allFlights.length ∨ 32 ≤ f.flights.length + f.behind.length
        ∨ f.flights.any holdsBack
        ∨ f.count = some f.next ∨ (s.fld Reg.FEN_STATE_CAMP_STATE (slotCamp k) = 1 ∧ t ≠ tFencePoint) then .stutter
    else
      let p := s.slotPitch k
      let m := s.slotMap k
      let inLeg := dLeg w && r.legLen != 0
      let i : Issue :=
        { k := k, pitch := p, camp := slotCamp k, idx := f.next, leg := x.leg, inLeg := inLeg, w := w
          bank := s.fld Reg.CMT_STATUS_BANK p, map := m, mbatch := r.mbatch }
      let s1 := s.setSlot k x
      if fault ≠ 0 then .faulted (s1.issueFaultMem i fault (f.base + 64 * f.next))
      else if dType w ∈ listedTypes ∧ dType w ≠ t then .stutter
      else if (dAfter w || decide (t ∈ [tFencePoint, tCommit, tEnd])) && dType w == t && !x.alone then .stutter
      else match decodeFault w f.next m.camps inLeg with
        | some (code, pos) => .faulted (s1.issueFaultAt i code pos 0)
        | none =>
          if x.chain.isSome ∧ t ∈ noChainTypes then
            .faulted ((s1.event Code.CHAIN_LIST_INVALID p (locSlot (s.slotHome k)) (streamDetail 0 0 r.mbatch f.next)).issueFault i
              Code.CHAIN_LIST_INVALID)
          else match s.touchFault k w with
            | some c => .faulted ((s1.event Code.TALLY_TOUCH_FULL p (locTally c.1 c.2.1)
                (tallyDetail (s.tally c.1 c.2.1).count c.2.2 c.2.1 (k % 4) (slotCamp k) 0)).issueFault i Code.TALLY_TOUCH_FULL)
            | none => .go i s1
  | _, _ => .stutter

/-- An issue row: the common part, the type's own effect (none where an access must wait), and the window's next
fetches. -/
def State.issueRow (s : State) (k t : Nat) (effect : State → Issue → Option State) : State :=
  match s.beginIssue k t with
  | .stutter => s
  | .faulted s1 => s1
  | .go i s1 =>
    match effect s1 i with
    | some s2 => s2.refill k
    | none => s

/-! Flights under way. -/

/-- The flight at a place of a slot's running list. -/
def State.flightAt (s : State) (k : Nat) (chain : Bool) (n : Nat) : Option Flight :=
  let x := s.slot k
  if chain then (x.chain.bind fun c => c.2.flights[n]?) else x.main.flights[n]?

/-- Added to a flight's code whose event has been raised where it was met. -/
def toldCode : Nat := 2 ^ 16

/-- One part of a flight ends with a code (0 for good); the first code met stands. -/
def Flight.part (f : Flight) (code : Nat) : Flight := { f with left := f.left - 1, code := if f.code = 0 then code else f.code }

/-- A flight leaves its list. -/
def StreamSlot.removeFlight (x : StreamSlot) (uid : Nat) : StreamSlot :=
  let upd (f : Frame) : Frame := { f with flights := f.flights.filter fun fl => decide (fl.uid ≠ uid) }
  { x with main := upd x.main, chain := x.chain.map (fun c => (c.1, upd c.2)) }

/-- A flight that ends with a fault, its event already raised (R172). -/
def State.flightFaulted (s : State) (k : Nat) (f : Flight) (code : Nat) : State :=
  let x := s.slot k
  let r : FaultRec := { idx := f.idx, leg := f.leg, sect := f.sect, sectMax := f.sectMax, code := code }
  ((s.setSlot k (x.removeFlight f.uid)).slotFaulted k f.uid (if x.inChain f.uid then x.faultPlace r else r)).refill k

/-- A flight's completion signal (R243, R283): its code, or 0. -/
def State.completionSignal (s : State) (k : Nat) (f : Flight) : Nat × State :=
  if !dSigEn f.word then (0, s)
  else
    let (code, t) := s.tallyAdd (dSigCamp f.word) (dSigTally f.word) 1 (k % 4) (slotCamp k) 0
    if code ≠ 0 then (code, t) else (0, t.touch k (dSigCamp f.word) (dSigTally f.word) 1)

/-- A slot at whose FENCE_POINT its stream can restart (R270): its MARK and index, and the balances as they stand. -/
def StreamSlot.atFencePoint (x : StreamSlot) (f : Flight) : StreamSlot :=
  if dType f.word = tFencePoint then { x with resume := some (bits f.word 95 64, f.idx), resumeTouched := x.touched } else x

/-- A flight that completes: its completion signal, or the fault of that signal; then it is counted and
leaves, and the window slides. -/
def State.flightDone (s : State) (k : Nat) (f : Flight) : State :=
  let (code, s1) := s.completionSignal k f
  if code ≠ 0 then s1.flightFaulted k f code
  else
    let x := s1.slot k
    let inMain := x.main.flights.any fun g => decide (g.uid = f.uid)
    let mark (fr : Frame) : Frame := { fr with completed := fr.completed ++ [{ uid := f.uid, idx := f.idx, leg := f.leg, sect := f.sect }] }
    let x1 := (x.removeFlight f.uid).atFencePoint f
    let x2 := if inMain then { x1 with main := mark x1.main } else { x1 with chain := x1.chain.map (fun c => (c.1, mark c.2)) }
    (((s1.setSlot k x2.dropChain).accum Reg.STR_DESC_DONE 1 (s1.slotHome k)).settleHalt k).refill k

/-! SIGNAL, WAIT, TAKE, BARRIER (R265, R266, R279-R291). -/

/-- AMOUNT, TALLY and CAMP of the synchronisation body. -/
def yAmount (w : Nat) : Nat := bits w 159 128
def yTally (w : Nat) : Nat := bits w 90 81
def yCamp (w : Nat) : Nat := bits w 80 77

/-- The pitch address of a tally (R35). -/
def tallyAddr (c t : Nat) : Nat := tallyBase + c * 2 ^ 21 + t * 8

/-- A SIGNAL performs: at its tally here, or as a packet to its device (R279, R295, R298). -/
def State.performSignal (s : State) (k : Nat) (f : Flight) : Nat × State :=
  let w := f.word
  let amount := yAmount w
  if amount = 0 then (0, s.setFlight f.uid fun g => { g with begun := true, done := true })
  else if bit w 76 then
    let p := s.slotPitch k
    (0, (s.setFlight f.uid fun g => { g with begun := true, done := true, left := 1 }).request
      { blankPacket with kind := kindSignal, pitch := p, job := (s.job p).num, dst := bits w 75 64, addr := tallyAddr (yCamp w) (yTally w),
                         body := toBytes 4 amount } (.flight f.uid 0))
  else
    let (code, s1) := s.tallyAdd (yCamp w) (yTally w) amount (k % 4) (slotCamp k) 0
    if code ≠ 0 then (code, s1)
    else (0, (s1.touch k (yCamp w) (yTally w) amount).setFlight f.uid fun g => { g with begun := true, done := true })

/-- SIGNAL (R265, R168): it issues in order, and performs at once when nothing earlier is incomplete. -/
def execSignal (k : SlotKey) (s : State) : Host.Outcome State Fault Refusal :=
  .next (s.issueRow k.val tSignal fun s1 i =>
    let now := (s1.slot k.val).alone
    let s2 := s1.fly i 0 false false
    if now then
      match (s2.flightOf s1.issued) with
      | some (_, f) =>
        let (code, s3) := s2.performSignal k.val f
        if code ≠ 0 then some (s3.flightFaulted k.val f code) else some s3
      | none => some s2
    else some s2)

/-- WAIT (R265, R279, R280): it joins its tally's queue and blocks the slot until it is served. -/
def execWait (k : SlotKey) (s : State) : Host.Outcome State Fault Refusal :=
  .next (s.issueRow k.val tWait fun s1 i =>
    if yAmount i.w = 0 then some (s1.fly i 0 true true)
    else
      let s2 := s1.fly i 0 true false
      let s3 := s2.setSlot k.val { s2.slot k.val with state := 2 }
      let (code, s4) := s3.tallyWait (yCamp i.w) (yTally i.w) (yAmount i.w) (.slot k.val)
      if code ≠ 0 then
        match s4.flightOf s1.issued with
        | some (_, f) => some (s4.flightFaulted k.val f code)
        | none => some s4
      else some s4)

/-- TAKE (R265, R279): it subtracts at once. -/
def execTake (k : SlotKey) (s : State) : Host.Outcome State Fault Refusal :=
  .next (s.issueRow k.val tTake fun s1 i =>
    if yAmount i.w = 0 then some (s1.fly i 0 true true)
    else
      let (code, s2) := s1.tallyTake (yCamp i.w) (yTally i.w) (yAmount i.w) (k.val % 4) i.camp
      if code ≠ 0 then some (s2.issueFault i code)
      else some ((s2.touch k.val (yCamp i.w) (yTally i.w) (-(yAmount i.w : Int))).fly i 0 true true))

/-- BARRIER (R266, R287-R291): it arrives at its guyline and blocks the slot until its round is released. -/
def execBarrier (k : SlotKey) (s : State) : Host.Outcome State Fault Refusal :=
  .next (s.issueRow k.val tBarrier fun s1 i =>
    let g := bits i.w 68 64
    let (code, round, s2) := s1.arrive g (.slot k.val) (bit i.w 69)
    if code ≠ 0 then some (s2.issueFault i code)
    else
      let s3 := s2.fly i 0 true false
      let s4 := s3.setSlot k.val { s3.slot k.val with state := 2 }
      some ({ s4 with sync := { s4.sync with guyWaits := s4.sync.guyWaits ++ [{ guy := g, agent := .slot k.val, round := round }] } }))

/-- NOP (R244): it issues and completes. -/
def execNop (k : SlotKey) (s : State) : Host.Outcome State Fault Refusal :=
  .next (s.issueRow k.val tNop fun s1 i => some (s1.fly i 0 true true))

/-- The first touched tally whose balance is not zero (R285). -/
def residue (l : Sparse Int) : Option (Nat × Int) := l.find? fun e => decide (e.2 ≠ 0)

/-- END (R171): the residue check, the end signal, and the return to idle. -/
def execEndStream (k : SlotKey) (s : State) : Host.Outcome State Fault Refusal :=
  match s.beginIssue k.val tEnd with
  | .stutter => .next s
  | .faulted s1 => .next s1
  | .go i s1 =>
    let x := s1.slot k.val
    match residue x.touched with
    | some (key, b) =>
      .next ((s1.event Code.TALLY_RESIDUE i.pitch (locTally (key / 1024) (key % 1024))
        (tallyDetail (unsigned 32 b) 0 (key % 1024) (k.val % 4) i.camp 0)).issueFault i Code.TALLY_RESIDUE)
    | none =>
      match x.run with
      | none => .next s
      | some r =>
        let (code, s2) := if r.endEn then s1.tallyAdd r.endCamp r.endTally 1 (k.val % 4) i.camp 0 else (0, s1)
        if code ≠ 0 then .next (s2.issueFault i code)
        else
          .next ((s2.setSlot k.val { StreamSlot.idle with queue := (s2.slot k.val).queue, home := x.home }).accum Reg.STR_DESC_DONE 1
            (s2.slotHome k.val))

/-! Resumption (R173). -/

/-- Whether one faulted descriptor stood before another in the stream. -/
def FaultRec.before (a b : FaultRec) : Bool := 
  if a.sect = b.sect then decide (a.leg < b.leg ∨ a.leg = b.leg ∧ a.idx < b.idx) else decide (a.idx < b.idx)

/-- The earliest faulted descriptor (log 68). -/
def earliest : List FaultRec → Option FaultRec
  | [] => none
  | r :: rest => match earliest rest with
    | none => some r
    | some q => if q.before r then some q else some r

/-- RESUME_RETRY, and RESUME_SKIP when `skip`: the halted slot goes on from its first faulted descriptor, fetching again from there on;
what completed is passed over, and so are the faulted ones of a skip. -/
def State.resumeSlot (s : State) (k : Nat) (skip : Bool) : State :=
  let x := s.slot k
  match earliest x.faulted with
  | none => s
  | some r =>
    if x.state ≠ 4 then s
    else
      let marks := if skip then x.faulted.map fun q => ({ uid := s.issued, idx := q.idx, leg := q.leg, sect := q.sect } : DoneRec) else []
      (s.setSlot k { x with
        state := 1, faulted := [], leg := r.leg, legStart := r.sect, legMax := r.sectMax
        main := { x.main with
          next := r.idx, completed := x.main.completed ++ marks
          fetched := (x.main.fetched.takeWhile fun e => e.2.1 == 0).filter fun e => decide (e.1 < r.idx) } }).refill k

/-- ABORT of a halted slot (R173): idle, without a check or an end signal, its queue kept. -/
def State.abortHalted (s : State) (k : Nat) : State :=
  let x := s.slot k
  if x.state ≠ 4 then s else s.setSlot k { StreamSlot.idle with queue := x.queue, home := x.home }

end Sys2Proof.Machine
end

