-- ==== Sys2Proof/Machine/Dma.lean ====
section
/-! DEFINITION. The DMA mover's own descriptors: DMA_COPY, point-to-point DMA_REDUCE, indexed GATHER, the Stash with its
recompute chains, and the watchdog of R247 (chapters 06 and 09). -/
namespace Sys2Proof.Machine

open Sys2Proof

/-! Rows. -/

/-- The rows of an array read in order. -/
def State.readRows (s : State) (pitch : Nat) (m : PageMap) (base stride len : Nat) : Nat → Acc (List Bytes)
  | 0 => .ok []
  | n + 1 =>
    match s.readRows pitch m base stride len n with
    | .ok rows =>
      match s.readAt pitch m (base + n * stride) len with
      | .ok bs => .ok (rows ++ [bs])
      | .err c a => .err c a
      | .wait => .wait
    | e => e

/-- Rows written in order; a write that fails leaves none (log 12). -/
def State.writeRows (s : State) (pitch : Nat) (m : PageMap) (mover : Option Nat) (stride : Nat) : Nat → List Bytes → Acc State
  | _, [] => .ok s
  | base, r :: rest =>
    match s.writeAt pitch m mover base r with
    | .ok s1 => s1.writeRows pitch m mover stride (base + stride) rest
    | e => e

/-- The pieces of a run of bytes that cross no 256-byte boundary: start and length. -/
def spans256 (a n : Nat) : List (Nat × Nat) :=
  if n = 0 then []
  else (List.range ((a + n - 1) / 256 + 1 - a / 256)).map fun i =>
    let lo := max a (256 * (a / 256 + i))
    (lo, min (a + n) (256 * (a / 256 + i + 1)) - lo)

/-- Free bytes (log 2). -/
def State.drawBytes (s : State) : Nat → Bytes × State
  | 0 => ([], s)
  | n + 1 =>
    let (v, s1) := s.draw 256
    let (bs, s2) := s1.drawBytes n
    (v :: bs, s2)

/-- Free rows (log 27). -/
def State.drawRows (s : State) (len : Nat) : Nat → List Bytes × State
  | 0 => ([], s)
  | n + 1 =>
    let (r, s1) := s.drawBytes len
    let (rs, s2) := s1.drawRows len n
    (r :: rs, s2)

/-- Whether any row of one array meets a row of another. -/
def rowsMeet (a sa b sb len rows : Nat) : Bool :=
  (List.range rows).any fun i => (List.range rows).any fun j => decide (a + i * sa < b + j * sb + len ∧ b + j * sb < a + i * sa + len)

/-! The DMA body (R262-R264). -/

/-- DST_PITCH, SRC_PITCH, ROW_BYTES, ROWS. -/
def mvDstPitch (w : Nat) : Nat := bits w 415 368
def mvSrcPitch (w : Nat) : Nat := bits w 367 320
def mvRowBytes (w : Nat) : Nat := bits w 319 288
def mvRows (w : Nat) : Nat := bits w 287 256

/-- The address of a slot with its bank resolved for an issue. -/
def State.issueAddr (s : State) (i : Issue) (lo : Nat) : Nat :=
  resolveBank (slotBank i.w lo) i.bank (s.fld Reg.CMT_STRIDE_STRIDE i.pitch) (slotAddr i.w lo)

/-- The rows of the token axis that a leg covers (R188): first and count; all of them outside a section. -/
def State.legRange (s : State) (i : Issue) (n : Nat) : Nat × Nat :=
  if i.inLeg then
    let l := (s.slot i.k).legLen
    let a := min n (i.leg * l)
    (a, min n ((i.leg + 1) * l) - a)
  else (0, n)

/-- A request packet of a descriptor. -/
def State.flightRequest (s : State) (uid : Nat) (i : Issue) (p : Packet) (dst : Nat) : State :=
  s.request { p with pitch := i.pitch, job := (s.job i.pitch).num } (.flight uid dst)

/-- READ packets for rows at a device; each answer goes to its place in the destination rows. -/
def remoteReads (dev src dst sp dp len rows : Nat) : List (Packet × Nat) :=
  (List.range rows).flatMap fun r => (spans256 (src + r * sp) len).map fun x =>
    ({ blankPacket with kind := kindRead, dst := dev, addr := x.1, seqn := x.2 }, dst + r * dp + (x.1 - (src + r * sp)))

/-- WRITE packets for rows at a device. -/
def remoteWrites (dev dst dp : Nat) : Nat → List Bytes → List (Packet × Nat)
  | _, [] => []
  | r, bs :: rest =>
    ((spans256 (dst + r * dp) bs.length).map fun x =>
      ({ blankPacket with kind := kindWrite, dst := dev, addr := x.1, body := (bs.drop (x.1 - (dst + r * dp))).take x.2 }, 0))
    ++ remoteWrites dev dst dp (r + 1) rest

/-- A descriptor whose work is a list of packets issues. -/
def State.flyPackets (s : State) (i : Issue) (axis : Nat) (ps : List (Packet × Nat)) : State :=
  let uid := s.issued
  ps.foldl (fun t p => t.flightRequest uid i p.1 p.2) (s.fly i ps.length true true [] axis)

/-- A descriptor that a memory access of its own ends, or holds back. -/
def State.accEnd {α : Type} (s : State) (i : Issue) (a : Acc α) : Option State :=
  match a with
  | .err code l => some (s.issueFaultMem i code l)
  | _ => none

/-- DMA_COPY (R262). -/
def execDmaCopy (k : SlotKey) (s : State) : Host.Outcome State Fault Refusal :=
  .next (s.issueRow k.val tDmaCopy fun s1 i =>
    let w := i.w
    let len := mvRowBytes w
    let (r0, rows) := s1.legRange i (mvRows w)
    let src := s1.issueAddr i 64 + r0 * mvSrcPitch w
    let dst := s1.issueAddr i 128 + r0 * mvDstPitch w
    if rows = 0 ∨ len = 0 then some (s1.fly i 0 true true [] (mvRows w))
    else if slotRemote w 64 then
      some (s1.flyPackets i (mvRows w) (remoteReads (slotDev w 64) src dst (mvSrcPitch w) (mvDstPitch w) len rows))
    else match s1.readRows i.pitch i.map src (mvSrcPitch w) len rows with
    | .ok data =>
      if slotRemote w 128 then some (s1.flyPackets i (mvRows w) (remoteWrites (slotDev w 128) dst (mvDstPitch w) 0 data))
      else
        let (out, s2) := if rowsMeet src (mvSrcPitch w) dst (mvDstPitch w) len rows then s1.drawRows len rows else (data, s1)
        match s2.writeRows i.pitch i.map (some i.camp) (mvDstPitch w) dst out with
        | .ok s3 => some (s3.fly i 0 true true [] (mvRows w))
        | e => s1.accEnd i e
    | e => s1.accEnd i e)

/-! Point-to-point reduction (R263, R359). -/

/-- The adder's type for an OP. -/
def reduceAdd (op : Nat) : AddType :=
  match op with
  | 0 => .fp32 | 1 => .bf16 | 2 => .int32 | 3 => .int64 | _ => .widening

/-- The bytes of an element in flight. -/
def flightSize (op : Nat) : Nat := (reduceAdd op).addend

/-- The numbers of a run of bytes, `n` bytes each. -/
def chunkNums (n : Nat) (bs : Bytes) : List Nat := (List.range (bs.length / max n 1)).map fun i => ofBytes ((bs.drop (n * i)).take n)

/-- A source element as it travels: OP 4 rounds FP32 to BF16. -/
def inFlight (op x : Nat) : Nat := if op = 4 then convert fp32 bf16 x else x

/-- The addends that a row of source bytes carries. -/
def addendsOf (op : Nat) (bs : Bytes) : List Nat := (chunkNums (reduceSizes op).1 bs).map (inFlight op)

/-- Rows added in order. -/
def State.addRows (s : State) (pitch : Nat) (m : PageMap) (op stride : Nat) : Nat → List Bytes → Acc State
  | _, [] => .ok s
  | base, r :: rest =>
    match s.addAt pitch m (reduceAdd op) base ((addendsOf op r).map some) with
    | .ok s1 => s1.addRows pitch m op stride (base + stride) rest
    | e => e

/-- ADD packets for rows at a device: spans of the destination that cross no 256-byte boundary. -/
def remoteAdds (dev op dst dp : Nat) : Nat → List Bytes → List (Packet × Nat)
  | _, [] => []
  | r, bs :: rest =>
    let xs := addendsOf op bs
    let ds := (reduceSizes op).2
    ((spans256 (dst + r * dp) (xs.length * ds)).map fun x =>
      ({ blankPacket with
        kind := kindAdd, dst := dev, addr := x.1
        etype := (match reduceAdd op with | .fp32 => 0 | .bf16 => 1 | .widening => 2 | .int32 => 3 | .int64 => 4)
        body := ((xs.drop ((x.1 - (dst + r * dp)) / ds)).take (x.2 / ds)).flatMap (toBytes (flightSize op)) }, 0))
    ++ remoteAdds dev op dst dp (r + 1) rest

/-- A point-to-point DMA_REDUCE (R263). -/
def State.reducePlain (s1 : State) (i : Issue) : Option State :=
  let w := i.w
  let op := bits w 419 416
  let len := mvRowBytes w
  let (r0, rows) := s1.legRange i (mvRows w)
  let src := s1.issueAddr i 64 + r0 * mvSrcPitch w
  let dst := s1.issueAddr i 128 + r0 * mvDstPitch w
  if rows = 0 ∨ len = 0 then some (s1.fly i 0 true true [] (mvRows w))
  else if slotRemote w 64 then
    let ratio := (reduceSizes op).2 / (reduceSizes op).1
    some (s1.flyPackets i (mvRows w) ((List.range rows).flatMap fun r =>
      (spans256 (src + r * mvSrcPitch w) len).map fun x =>
        ({ blankPacket with kind := kindRead, dst := slotDev w 64, addr := x.1, seqn := x.2 },
          dst + r * mvDstPitch w + (x.1 - (src + r * mvSrcPitch w)) * ratio)))
  else match s1.readRows i.pitch i.map src (mvSrcPitch w) len rows with
  | .ok data =>
    if slotRemote w 128 then some (s1.flyPackets i (mvRows w) (remoteAdds (slotDev w 128) op dst (mvDstPitch w) 0 data))
    else match s1.addRows i.pitch i.map op (mvDstPitch w) dst data with
    | .ok s3 => some (s3.fly i 0 true true [] (mvRows w))
    | e => s1.accEnd i e
  | e => s1.accEnd i e

/-! Indexed gather (R264). -/

/-- The rows of an indexed gather from a local table; an index out of range gives zero bytes. -/
def State.gatherRows (s : State) (i : Issue) (src : Nat) : List Nat → Acc (List Bytes)
  | [] => .ok []
  | x :: rest =>
    let row := if bits i.w 479 448 ≤ x then .ok (List.replicate (mvRowBytes i.w) 0)
      else s.readAt i.pitch i.map (src + x * mvSrcPitch i.w) (mvRowBytes i.w)
    match row with
    | .ok bs =>
      match s.gatherRows i src rest with
      | .ok rows => .ok (bs :: rows)
      | e => e
    | .err c a => .err c a
    | .wait => .wait

/-- The notice of an index out of range, once per descriptor. -/
def State.gatherNotice (s : State) (i : Issue) (idx : List Nat) : State :=
  if idx.any fun x => decide (bits i.w 479 448 ≤ x) then
    s.event Code.GATHER_INDEX_RANGE i.pitch (locSlot (s.slotHome i.k)) (descDetail 0xFFFF 0 tGather i.mbatch i.idx)
  else s

/-- An indexed GATHER (R264). -/
def State.gatherPlain (s1 : State) (i : Issue) : Option State :=
  let w := i.w
  let len := mvRowBytes w
  let count := mvRows w
  let src := s1.issueAddr i 64
  let dst := s1.issueAddr i 128
  match s1.readAt i.pitch i.map (s1.issueAddr i 192) (4 * count) with
  | .ok tbl =>
    let idx := chunkNums 4 tbl
    if slotRemote w 64 then
      let bad := (List.range count).filter fun r => decide (bits w 479 448 ≤ idx.getD r 0)
      let good := (List.range count).filter fun r => decide (idx.getD r 0 < bits w 479 448)
      let zeros := bad.foldl (fun (a : Acc State) r => match a with
        | .ok t => t.writeAt i.pitch i.map (some i.camp) (dst + r * mvDstPitch w) (List.replicate len 0)
        | e => e) (.ok s1)
      match zeros with
      | .ok s2 => some ((s2.gatherNotice i idx).flyPackets i 0 (good.flatMap fun r =>
          remoteReads (slotDev w 64) (src + idx.getD r 0 * mvSrcPitch w) (dst + r * mvDstPitch w) 0 0 len 1))
      | e => s1.accEnd i e
    else match s1.gatherRows i src idx with
    | .ok rows =>
      match s1.writeRows i.pitch i.map (some i.camp) (mvDstPitch w) dst rows with
      | .ok s2 => some ((s2.gatherNotice i idx).fly i 0 true true)
      | e => s1.accEnd i e
    | e => s1.accEnd i e
  | e => s1.accEnd i e

/-! The Stash (R176-R192). -/

/-- The bytes of a granule. -/
def granuleBytes : Nat := 2 ^ 21

/-- STH_GRANULES as it acts: 1 acts as 0. -/
def State.stashGranules (s : State) (p : Nat) : Nat :=
  let n := s.fld Reg.STH_GRANULES p
  if n = 1 then 0 else n

/-- A number of the Stash head; the head is read and written by the sequencer itself. -/
def State.headNum (s : State) (p off n : Nat) : Nat :=
  match translate (s.mapOf p) (s.fld Reg.STH_BASE_BASE p + off) with
  | some l => s.num (s.redirected l) n
  | none => 0

/-- A number written in the Stash head. -/
def State.setHead (s : State) (p off n v : Nat) : State :=
  match translate (s.mapOf p) (s.fld Reg.STH_BASE_BASE p + off) with
  | some l => s.store (s.redirected l) (toBytes n v)
  | none => s

/-- A directory entry (R192). -/
def State.stashEntry (s : State) (p e : Nat) : Nat := s.headNum p (32 * e) 32

/-- The state with a directory entry written. -/
def State.setEntry (s : State) (p e v : Nat) : State := s.setHead p (32 * e) 32 v

/-- The fields of a directory entry. -/
def seState (v : Nat) : Nat := bits v 143 140
def seMbatch (v : Nat) : Nat := bits v 95 64
def seBlock (v : Nat) : Nat := bits v 127 112
def seParts (v : Nat) : Nat := bits v 207 192
def sePending (v : Nat) : Nat := bits v 191 176
def seFirst (v : Nat) : Nat := bits v 175 160
def seGranules (v : Nat) : Nat := bits v 159 144
def seChainSet (v : Nat) : Bool := bit v 128
def seChainFrom (v : Nat) : Nat := bits v 223 208

/-- A number with one field replaced. -/
def setBits (v hi lo x : Nat) : Nat := v - (bits v hi lo <<< lo) + ((x % 2 ^ (hi + 1 - lo)) <<< lo)

/-- An entry's bits. -/
def mkEntry (mbatch block state granules first parts pending : Nat) : Nat :=
  mbatch <<< 64 ||| block <<< 112 ||| state <<< 140 ||| granules <<< 144 ||| first <<< 160 ||| pending <<< 176 ||| parts <<< 192

/-- The directory index of a key. -/
def State.findEntry (s : State) (p mbatch block : Nat) : Option Nat :=
  if s.stashGranules p = 0 then none
  else (List.range 4096).find? fun e =>
    let v := s.stashEntry p e
    decide (seState v ≠ 0 ∧ seMbatch v = mbatch ∧ seBlock v = block)

/-- The first free directory entry. -/
def State.freeEntry (s : State) (p : Nat) : Option Nat :=
  if s.stashGranules p = 0 then none else (List.range 4096).find? fun e => seState (s.stashEntry p e) == 0

/-- The granule after one in its chain. -/
def State.nextGranule (s : State) (p g : Nat) : Nat := s.headNum p (0x20000 + 2 * g) 2

/-- The granules of a chain, in order. -/
def State.granuleChain (s : State) (p : Nat) : Nat → Nat → List Nat
  | 0, _ => []
  | fuel + 1, g => if g = 0xFFFF then [] else g :: s.granuleChain p fuel (s.nextGranule p g)

/-- The granules of an entry, in order. -/
def State.entryGranules (s : State) (p v : Nat) : List Nat := s.granuleChain p (seGranules v) (seFirst v)

/-- The free data granules, ascending (log 19). -/
def State.freeGranules (s : State) (p : Nat) : List Nat :=
  let used := (List.range 4096).flatMap fun e =>
    let v := s.stashEntry p e
    if seState v = 1 ∨ seState v = 3 then s.entryGranules p v else []
  ((List.range (s.stashGranules p)).drop 1).filter (· ∉ used)

/-- A chain written in the granule map. -/
def State.linkGranules (s : State) (p : Nat) : List Nat → State
  | [] => s
  | [g] => s.setHead p (0x20000 + 2 * g) 2 0xFFFF
  | g :: h :: rest => (s.setHead p (0x20000 + 2 * g) 2 h).linkGranules p (h :: rest)

/-- STH_FREE and STH_ENTRIES as they stand. -/
def State.stashGauges (s : State) (p : Nat) : State :=
  let live := ((List.range 4096).filter fun e => seState (s.stashEntry p e) != 0).length
  (s.setFld Reg.STH_FREE (s.freeGranules p).length p).setFld Reg.STH_ENTRIES live p

/-- The pitch address of a byte of an entry. -/
def State.stashByte (s : State) (p : Nat) (gs : List Nat) (off : Nat) : Nat :=
  s.fld Reg.STH_BASE_BASE p + gs.getD (off / granuleBytes) 0 * granuleBytes + off % granuleBytes

/-- The runs of an entry's bytes that lie in one granule each: pitch address and length. -/
def State.stashRuns (s : State) (p : Nat) (gs : List Nat) (off n : Nat) : List (Nat × Nat) :=
  if n = 0 then []
  else (List.range ((off + n - 1) / granuleBytes + 1 - off / granuleBytes)).map fun i =>
    let lo := max off (granuleBytes * (off / granuleBytes + i))
    (s.stashByte p gs lo, min (off + n) (granuleBytes * (off / granuleBytes + i + 1)) - lo)

/-- Bytes written to an entry. -/
def State.stashWrite (s : State) (p : Nat) (m : PageMap) : List (Nat × Nat) → Bytes → Acc State
  | [], _ => .ok s
  | (a, n) :: rest, bs =>
    match s.writeAt p m none a (bs.take n) with
    | .ok s1 => s1.stashWrite p m rest (bs.drop n)
    | e => e

/-- Bytes read from an entry. -/
def State.stashRead (s : State) (p : Nat) (m : PageMap) : List (Nat × Nat) → Acc Bytes
  | [] => .ok []
  | (a, n) :: rest =>
    match s.readAt p m a n with
    | .ok bs =>
      match s.stashRead p m rest with
      | .ok more => .ok (bs ++ more)
      | e => e
    | e => e

/-- STH_PUT_4K counts bytes in units of 4 KiB; the rest is kept for the next. -/
def State.countPut (s : State) (p n : Nat) : State :=
  let total := sget 0 s.rems (16 + p) + n
  { (s.accum Reg.STH_PUT_4K (total / 4096) p) with rems := sset 0 s.rems (16 + p) (total % 4096) }

/-- The size that a key's first put gave. -/
def State.keySize (s : State) (p mbatch block : Nat) : Option Nat :=
  ((s.job p).sizes.find? fun e => decide (e.1 = mbatch ∧ e.2.1 = block)).map (·.2.2)

/-- The granules that a size needs. -/
def granulesFor (n : Nat) : Nat := (n + granuleBytes - 1) / granuleBytes

/-- Whether a block can be kept (R179). -/
def State.canKeep (s : State) (p block size : Nat) : Bool :=
  let free := (s.freeGranules p).length
  let held := if block = 0 then 0 else s.fld Reg.STH_FIRST_RESERVE p
  (s.freeEntry p).isSome && decide (granulesFor size + held ≤ free)

/-- A kept entry takes its granules (R179). -/
def State.keepEntry (s : State) (p e mbatch block state size parts pending : Nat) : State :=
  let gs := (s.freeGranules p).take (granulesFor size)
  let s1 := s.linkGranules p gs
  (s1.setEntry p e (mkEntry mbatch block state gs.length (gs.headD 0xFFFF) parts pending)).stashGauges p

/-- A block decided not kept (R180): counted, and its micro-batch reported once. -/
def State.notKept (s : State) (i : Issue) (block : Nat) : State :=
  let s1 := s.bump Ctr.STH_NOTKEPT i.pitch (locSlot (s.slotHome i.k)) i.pitch (detail := streamDetail block 0 i.mbatch i.idx)
  let j := s1.job i.pitch
  if i.mbatch ∈ j.notKept then s1
  else (s1.setJob i.pitch { j with notKept := i.mbatch :: j.notKept }).event Code.STASH_NOT_KEPT i.pitch (locSlot (s.slotHome i.k))
    (streamDetail block 0 i.mbatch i.idx)

/-- A stream event at the slot of an issue. -/
def State.streamFault (s : State) (i : Issue) (code block sub : Nat) : State :=
  (s.event code i.pitch (locSlot (s.slotHome i.k)) (streamDetail block sub i.mbatch i.idx)).issueFault i code

/-- A put writes its part into a kept entry and is pending (R179, R182); `s0` is the state where its own access fails. -/
def State.putPart (s0 s : State) (i : Issue) (e : Nat) : Option State :=
  let v := s.stashEntry i.pitch e
  let n := bits i.w 159 128
  match s.readAt i.pitch i.map (s.issueAddr i 64) n with
  | .ok data =>
    match s.stashWrite i.pitch i.map (s.stashRuns i.pitch (s.entryGranules i.pitch v) (bits i.w 191 160) n) data with
    | .ok s1 =>
      let s2 := s1.setEntry i.pitch e (setBits (setBits v 207 192 (seParts v + 1)) 191 176 (sePending v + 1))
      some ((s2.countPut i.pitch n).fly i 1 true true)
    | e => s0.accEnd i e
  | e => s0.accEnd i e

/-- The first put of a key decides for the whole entry (R179-R181, log 35). -/
def State.firstPut (s : State) (i : Issue) : Option State :=
  let p := i.pitch
  let block := bits i.w 207 192
  let size := bits i.w 287 256
  let j := s.job p
  let sized := s.setJob p { j with
    sizes := (i.mbatch, block, size) :: j.sizes.filter fun e => !decide (e.1 = i.mbatch ∧ e.2.1 = block) }
  match s.freeEntry p with
  | some e =>
    if s.canKeep p block size then s.putPart (sized.keepEntry p e i.mbatch block 1 size 0 0) i e
    else if block = 0 then some (s.streamFault i Code.STASH_EXHAUSTED block 0)
    else some ((((sized.setEntry p e (mkEntry i.mbatch block 2 0 0xFFFF 1 0)).stashGauges p).notKept i block).fly i 0 true true)
  | none =>
    if block = 0 then some (s.streamFault i Code.STASH_EXHAUSTED block 0)
    else if s.stashGranules p = 0 then some ((s.notKept i block).fly i 0 true true)
    else some (s.streamFault i Code.STASH_EXHAUSTED block 1)

/-- STASH_PUT (R178-R181). -/
def execStashPut (k : SlotKey) (s : State) : Host.Outcome State Fault Refusal :=
  .next (s.issueRow k.val tStashPut fun s1 i =>
    let w := i.w
    let p := i.pitch
    let block := bits w 207 192
    let size := bits w 287 256
    let old := s1.findEntry p i.mbatch block
    if size < bits w 191 160 + bits w 159 128 ∨ (old.isSome ∧ (s1.keySize p i.mbatch block).any (· ≠ size)) then
      some (s1.streamFault i Code.STREAM_SETTING_INVALID block 1)
    else match old with
    | some e =>
      let v := s1.stashEntry p e
      if seState v = 2 then some ((s1.setEntry p e (setBits v 207 192 (seParts v + 1))).fly i 0 true true)
      else s1.putPart s1 i e
    | none => s1.firstPut i)

/-- An entry is freed and its granules return (R182). -/
def State.freeStash (s : State) (p e : Nat) : State :=
  let v := s.stashEntry p e
  let s1 := (s.setEntry p e 0).stashGauges p
  let j := s1.job p
  s1.setJob p { j with
    sizes := j.sizes.filter fun x => !decide (x.1 = seMbatch v ∧ x.2.1 = seBlock v)
    offered := j.offered.filter (· ≠ (seMbatch v, seBlock v)) }

/-- Every entry of a micro-batch, or of the job, is freed (R182). -/
def State.stashFree (s : State) (p : Nat) (mbatch : Option Nat) : State :=
  if s.stashGranules p = 0 then s
  else ((List.range 4096).filter fun e =>
    let v := s.stashEntry p e
    seState v != 0 && (mbatch.map (fun b => decide (seMbatch v = b))).getD true).foldl (fun t e => t.freeStash p e) s

/-- One put of a key is released: PARTS falls, and at 0 the entry is freed (R182). -/
def State.releasePart (s : State) (p e : Nat) : State :=
  let v := s.stashEntry p e
  if seParts v ≤ 1 then s.freeStash p e else s.setEntry p e (setBits v 207 192 (seParts v - 1))

/-- The chain record of a block (R183). -/
def State.chainRec (s : State) (p : Nat) (m : PageMap) (table c : Nat) : Acc Nat := s.readNum p m (table + 32 * c) 32

/-- Whether the chain table satisfies R185 for the blocks from `c` on, `n` of them, when it must end at `dst`. -/
def State.chainOk (s : State) (p : Nat) (m : PageMap) (table dst : Nat) : Nat → Nat → Acc Bool
  | _, 0 => .ok true
  | c, n + 1 =>
    match s.chainRec p m table c with
    | .ok r =>
      let good := bits r 191 176 == 0 && bits r 127 112 == 0 && bits r 5 0 == 0 && bits r 63 48 != 0
      if n = 0 then .ok (good && bits r 175 128 == dst)
      else match s.chainRec p m table (c + 1) with
        | .ok q =>
          if good && bits r 175 128 == bits q 111 64 then s.chainOk p m table dst (c + 1) n else .ok false
        | .err x a => .err x a
        | .wait => .wait
    | .err x a => .err x a
    | .wait => .wait

/-- A chain list begins (R184). -/
def State.startChain (s : State) (k : Nat) (pitch : Nat) (m : PageMap) (ch : Chain) : State :=
  match s.chainRec pitch m ch.table ch.cur with
  | .ok r =>
    let x := s.slot k
    let f : Frame := { Frame.empty with base := bits r 47 0, count := some (bits r 63 48) }
    ((s.setSlot k { x with chain := some (ch, f) }).bump Ctr.STH_CHAIN_BLOCKS pitch (locSlot (s.slotHome k)) pitch
      (detail := streamDetail (ch.cur % 2 ^ 16) 0 x.mbatch 0)).refill k
  | _ => s

/-- The highest kept block below one, of the same micro-batch (R184). -/
def State.chainFrom (s : State) (p mbatch block : Nat) : Option Nat :=
  ((List.range 4096).filterMap fun e =>
    let v := s.stashEntry p e
    if (seState v = 1 ∨ seState v = 3) ∧ seMbatch v = mbatch ∧ seBlock v < block then some (seBlock v) else none).foldl
      (fun (b : Option Nat) x => match b with | none => some x | some y => some (max x y)) none

/-- What a STASH_GET does once no put of its entry is pending: what fails it (the code and whether it is a memory code with
its address), or the state; none where it must wait. -/
def State.stashGet (s : State) (k : Nat) (i : Issue) (uid e : Nat) : Option (Nat × Nat × State) :=
  let w := i.w
  let p := i.pitch
  let v := s.stashEntry p e
  let n := bits w 287 256
  let part := bits w 319 288
  let block := bits w 335 320
  let dst := s.issueAddr i 64
  let finish (t : State) : State := t.setFlight uid fun f => { f with begun := true, done := true }
  if seState v ≠ 2 then
    match s.stashRead p i.map (s.stashRuns p (s.entryGranules p v) part n) with
    | .ok data =>
      match s.writeAt p i.map (some i.camp) dst data with
      | .ok s1 => some (0, 0, finish (if bit w 336 then s1.releasePart p e else s1))
      | .err c a => some (c, a, s)
      | .wait => none
    | .err c a => some (c, a, s)
    | .wait => none
  else
    let b0 := if seChainSet v then some (seChainFrom v) else s.chainFrom p i.mbatch block
    match b0 with
    | none => some (Code.STASH_ENTRY_ABSENT, 0, s)
    | some b =>
      let s1 := s.setEntry p e (setBits (setBits v 223 208 b) 128 128 1)
      let table := s.issueAddr i 128
      match s.chainOk p i.map table dst b (block - b), s.chainRec p i.map table b, s.findEntry p i.mbatch b with
      | .ok true, .ok r, some eb =>
        match s.stashRead p i.map (s.stashRuns p (s.entryGranules p (s.stashEntry p eb)) (bits r 223 192) (bits r 255 224)) with
        | .ok data =>
          match s1.writeAt p i.map (some i.camp) (bits r 111 64) data with
          | .ok s2 =>
            let s3 := s2.setFlight uid fun f => { f with begun := true }
            let ch : Chain := { get := uid, table := table, target := block, cur := b, dst := dst }
            some (0, 0, s3.startChain k p i.map ch)
          | .err c a => some (c, a, s1)
          | .wait => none
        | .err c a => some (c, a, s1)
        | .wait => none
      | .ok true, .ok _, none => some (Code.STASH_ENTRY_ABSENT, 0, s1)
      | .ok false, _, _ => some (Code.CHAIN_TABLE_INVALID, 0, s1)
      | .err c a, _, _ => some (c, a, s1)
      | _, .err c a, _ => some (c, a, s1)
      | _, _, _ => none

/-- The event of a failed STASH_GET: of its own codes at the slot, of a memory code at the memory. -/
def State.getFault (s : State) (i : Issue) (code a : Nat) : State :=
  if code = Code.STASH_ENTRY_ABSENT ∨ code = Code.CHAIN_TABLE_INVALID then
    s.event code i.pitch (locSlot (s.slotHome i.k)) (streamDetail (bits i.w 335 320) 0 i.mbatch i.idx)
  else s.memEvent i.pitch code a

/-- A STASH_GET issues (R182, R184): it reads its part, blocks while a put of its entry is pending, or begins a recompute
chain. What a failed get has settled (CHAIN_SET and CHAIN_FROM) stands. -/
def State.issueGet (s : State) (k : Nat) : State :=
  s.issueRow k tStashGet fun s1 i =>
    match s1.findEntry i.pitch i.mbatch (bits i.w 335 320) with
    | none => some (s1.streamFault i Code.STASH_ENTRY_ABSENT (bits i.w 335 320) 0)
    | some e =>
      if sePending (s1.stashEntry i.pitch e) ≠ 0 then
        let s2 := s1.fly i 0 false false
        some (s2.setSlot k { s2.slot k with state := 2 })
      else match (s1.fly i 0 false false).stashGet k i s1.issued e with
        | none => none
        | some (0, _, s2) => some s2
        | some (code, a, s2) =>
          some ((s2.getFault i code a).flightFaulted k (i.flight s1.issued (s1.slot k).legStart 0 false false []) code)

/-- The issue that a flight came from. -/
def State.issueOf (s : State) (k : Nat) (f : Flight) : Issue :=
  let x := s.slot k
  { k := k, pitch := s.slotPitch k, camp := slotCamp k, idx := f.idx, leg := f.leg, inLeg := f.sect.isSome, w := f.word
    bank := f.bank, map := f.map, mbatch := x.mbatch }

/-- The STASH_GET that a slot is blocked on. A slot that halts waits for it still (R172). -/
def StreamSlot.blockedGet (x : StreamSlot) : Option Flight :=
  match x.main.flights.getLast? with
  | none => none
  | some f => if (x.state = 2 ∨ x.state = 3) ∧ !x.aborting ∧ dType f.word = tStashGet ∧ !f.begun then some f else none

/-- The state in which a blocked slot runs on; a slot that halts goes on halting. -/
def State.unblockSlot (s : State) (k : Nat) : State :=
  let x := s.slot k
  if x.state = 2 then (s.countBlocked k).setSlot k { x with state := 1 } else s

/-- A slot's blocked STASH_GET goes on when no put of its entry is pending any more (R182). In a slot that halts, one that would
need a recompute chain ends unfinished: no chain list can issue (log 121). -/
def State.wakeGet (s : State) (k : Nat) : State :=
  match (s.slot k).blockedGet with
  | none => s
  | some f =>
    let i := s.issueOf k f
    let s1 := s.unblockSlot k
    match s.findEntry i.pitch i.mbatch (bits f.word 335 320) with
    | none => (s1.getFault i Code.STASH_ENTRY_ABSENT 0).flightFaulted k f Code.STASH_ENTRY_ABSENT
    | some e =>
      let v := s.stashEntry i.pitch e
      if sePending v ≠ 0 then s
      else if (s.slot k).state = 3 ∧ seState v = 2 then (s.setSlot k ((s.slot k).removeFlight f.uid)).settleHalt k
      else match s1.stashGet k i f.uid e with
        | none => s
        | some (0, _, s2) => s2
        | some (code, a, s2) => (s2.getFault i code a).flightFaulted k f code

/-- STASH_GET (R182, R184): the slot's next descriptor issues; a get already blocked, whose access had to wait, tries again. -/
def execStashGet (k : SlotKey) (s : State) : Host.Outcome State Fault Refusal :=
  if s.campsGated then .next s
  else match (s.slot k.val).blockedGet with
    | some _ => .next (s.wakeGet k.val)
    | none => .next (s.issueGet k.val)

/-- A put that is not pending any more, and the gets blocked on its entry that go on (R182). -/
def State.putSettled (s : State) (k : Nat) (f : Flight) : State :=
  let p := s.slotPitch k
  match s.findEntry p (s.slot k).mbatch (bits f.word 207 192) with
  | none => s
  | some e =>
    let v := s.stashEntry p e
    let s1 := s.setEntry p e (setBits v 191 176 (sePending v - 1))
    (s1.slots.map (·.1)).foldl (fun t j => if t.slotPitch j = p then t.wakeGet j else t) s1

/-- STASH_PUT_ACKNOWLEDGED (R182): a put is no longer pending, and gets blocked on its entry go on. -/
def execStashPutAcknowledged (k : SlotKey) (n : Fin 32) (s : State) : Host.Outcome State Fault Refusal :=
  if s.campsGated then .next s else
  match s.flightAt k.val false n.val with
  | none => .next s
  | some f =>
    if dType f.word ≠ tStashPut ∨ f.left = 0 then .next s
    else .next ((s.setFlight f.uid fun g => g.part 0).putSettled k.val f)

/-- Each output of a chain is offered to the Stash (R186): the first offer of the key decides, and each camp copies its
part; the state that stands where the copy fails comes with it. -/
def State.rekeep (s : State) (k : Nat) (i : Issue) (ch : Chain) (c : Nat) : State × Acc State :=
  let p := i.pitch
  match s.findEntry p i.mbatch (c + 1), s.chainRec p i.map ch.table c, s.chainRec p i.map ch.table (c + 1) with
  | some e, .ok r, .ok q =>
    let v := s.stashEntry p e
    let j := s.job p
    let size := (s.keySize p i.mbatch (c + 1)).getD 0
    let first := decide ((i.mbatch, c + 1) ∉ j.offered)
    let keep := seState v == 2 && first && decide (granulesFor size + s.fld Reg.STH_FIRST_RESERVE p ≤ (s.freeGranules p).length)
    let s1 := if first ∧ seState v = 2 then s.setJob p { j with offered := (i.mbatch, c + 1) :: j.offered } else s
    let s2 := if keep then
        let gs := (s1.freeGranules p).take (granulesFor size)
        let v1 := setBits (setBits (setBits v 143 140 3) 159 144 gs.length) 175 160 (gs.headD 0xFFFF)
        ((((s1.linkGranules p gs).setEntry p e v1).stashGauges p).bump Ctr.STH_REKEPT p (locSlot (s.slotHome k)) p
          (detail := streamDetail (c + 1) 0 i.mbatch i.idx))
      else s1
    let v2 := s2.stashEntry p e
    if seState v2 ≠ 3 then (s2, .ok s2)
    else match s2.readAt p i.map (bits r 175 128) (bits q 255 224) with
      | .ok data =>
        match s2.stashWrite p i.map (s2.stashRuns p (s2.entryGranules p v2) (bits q 223 192) data.length) data with
        | .ok s3 => (s2, .ok (s3.countPut p data.length))
        | e => (s2, e)
      | .err code a => (s2, .err code a)
      | .wait => (s2, .wait)
  | none, _, _ => (s, .ok s)
  | _, .err code a, _ => (s, .err code a)
  | _, _, .err code a => (s, .err code a)
  | _, _, _ => (s, .wait)

/-- A chain goes on after one of its lists: the next list runs, or the get completes and releases its part. -/
def State.chainOn (s : State) (k : Nat) (i : Issue) (f : Flight) (ch : Chain) : Acc State :=
  if ch.cur + 1 < ch.target then
    match s.chainRec i.pitch i.map ch.table (ch.cur + 1) with
    | .ok _ => .ok (s.startChain k i.pitch i.map { ch with cur := ch.cur + 1 })
    | .err code a => .err code a
    | .wait => .wait
  else
    let s1 := match s.findEntry i.pitch i.mbatch ch.target with
      | some e => if bit f.word 336 then s.releasePart i.pitch e else s
      | none => s
    .ok ((s1.setFlight f.uid fun g => { g with done := true }).refill k)

/-- CHAIN_LIST_DONE (R184, R186): a chain list has completed, its leg sections with all their legs; the next runs, or the get
completes. A copy to the Stash that faults faults the get, and one that must wait holds the chain back (log 121). -/
def execChainListDone (k : SlotKey) (s : State) : Host.Outcome State Fault Refusal :=
  if s.campsGated then .next s else
  let x := StreamSlot.normalise 80 (s.slot k.val)
  match x.chain with
  | none => .next s
  | some (ch, fr) =>
    match x.main.flights.find? fun f => decide (f.uid = ch.get) with
    | none => .next s
    | some f =>
      if x.state ≠ 1 ∨ fr.flights ≠ [] ∨ fr.count ≠ some fr.next then .next s
      else
        let i := s.issueOf k.val f
        let s1 := s.setSlot k.val { x with chain := none, leg := 0, legStart := none, legMax := 0 }
        let offer := if ch.cur + 1 < ch.target ∧ s.fld Reg.STH_CFG_REKEEP i.pitch = 1 then s1.rekeep k.val i ch ch.cur else (s1, .ok s1)
        match offer.2 with
        | .err code a => .next ((offer.1.memEvent i.pitch code a).flightFaulted k.val f code)
        | .wait => .next s
        | .ok s2 =>
          match s2.chainOn k.val i f ch with
          | .ok s3 => .next s3
          | .err code a => .next ((s2.memEvent i.pitch code a).flightFaulted k.val f code)
          | .wait => .next s

/-! The watchdog of descriptors that run on no engine (R247). -/

/-- Requests of a flight that have not left their source are withdrawn. -/
def State.withdraw (s : State) (uid : Nat) : State :=
  { s with fab := { s.fab with
    reqs := s.fab.reqs.filter fun r => !(decide (r.stage = 0) && (match r.origin with | .flight u _ => decide (u = uid) | _ => false)) } }

end Sys2Proof.Machine
end

