-- ==== Sys2Proof/Machine/Quant.lean ====
section
/-! DEFINITION. Tiles and their quantisation: the encoding of a tile (R58-R61), the rotation of a chunk and its turn-back
(R83-R86), the two parts of Split-4 (R142, R143), and one cell's tile step (R62-R64). -/
namespace Sys2Proof.Machine

open Sys2Proof

/-- A tile as encoded: element format, fine-scale encoding and code, the 64 element codes row by row, and the counts of
R98: zeroed and saturated elements, whether it became a zero tile, whether its fine scale was limited. -/
structure QTile where
  fmt : Nat
  e4m3 : Bool
  fine : Nat
  codes : List Nat
  zeroed : Nat
  clamped : Nat
  ztile : Bool
  stile : Bool
  deriving DecidableEq, Repr

/-- 64 zero codes. -/
def zeroCodes : List Nat := List.replicate 64 0

/-- The zero tile (R55). -/
def QTile.zero (fmt : Nat) (e4m3 : Bool) : QTile :=
  { fmt := fmt, e4m3 := e4m3, fine := 0, codes := zeroCodes, zeroed := 0, clamped := 0, ztile := false, stile := false }

/-- The poisoned tile (R56). -/
def QTile.poison (fmt : Nat) (e4m3 : Bool) : QTile :=
  { QTile.zero fmt e4m3 with fine := if e4m3 then 0x7F else 0xFF }

/-- What the tile's fine-scale code says. -/
def QTile.kind (t : QTile) : Fine := fineScale t.e4m3 t.fine

/-- Whether the tile is poisoned. -/
def QTile.poisoned (t : QTile) : Bool := t.kind == .poison

/-- The largest of several magnitudes. -/
def amaxOf (l : List Num) : Num := l.foldl (fun a x => a.max x.abs) .zero

/-- The largest of several magnitudes, NaN and infinities left out (R87). -/
def amaxFinite (l : List Num) : Num := amaxOf (l.filter Num.isFinite)

/-- The largest magnitude of rows of values, in tiles of `h` rows by `w`; a tile that holds a NaN or an infinity contributes nothing (R60,
R87, log 117). -/
def tilesAmax (h w : Nat) (rows : List (List Num)) : Num :=
  amaxOf ((List.range ((rows.length + h - 1) / h)).flatMap fun tr =>
    let block := (rows.drop (h * tr)).take h
    (List.range (((rows.map List.length).foldl max 0 + w - 1) / w)).flatMap fun tk =>
      let v := block.flatMap fun l => (l.drop (w * tk)).take w
      if v.all Num.isFinite then v else [])

/-- The magnitude and exponent of a finite value. -/
def Num.parts : Num → Nat × Int
  | .fin _ m e => (m, e)
  | _ => (0, 0)

/-- Whether a value is negative. -/
def Num.isNeg : Num → Bool
  | .fin n _ _ => n
  | .inf n => n
  | .nan => false

/-- The code of the element `x / (c * f)` and whether it was clamped (R59); `mc * 2^ec` is the product of the scales. -/
def encodeElem (fmt : Nat) (mc : Nat) (ec : Int) (x : Num) : Nat × Bool :=
  let (m, e) := x.parts
  let g := e - ec
  if 0 ≤ g then quantElem fmt x.isNeg (m * 2 ^ g.toNat) mc else quantElem fmt x.isNeg m (mc * 2 ^ (-g).toNat)

/-- A tile of 64 values encoded under a coarse scale `mc * 2^ec` (R58-R61); the real elements are those of the first `nr`
rows and `nk` positions. -/
def quantTile (fmt : Nat) (e4m3 : Bool) (mc : Nat) (ec : Int) (nr nk : Nat) (v : List Num) : QTile :=
  let vals := (List.range 64).map fun i => if i / 8 < nr ∧ i % 8 < nk then v.getD i .zero else .zero
  if vals.any fun x => !x.isFinite then QTile.poison fmt e4m3
  else
    let (ma, ea) := (amaxOf vals).parts
    if ma = 0 then QTile.zero fmt e4m3
    else
      let d := qmax fmt * mc
      let e := ea - ec
      let f := if e4m3 then fineE4m3 ma d e else fineUe8m0 ma d e
      match fineScale e4m3 f with
      | .scale mf ef =>
        let g := e - ef
        let limited := if 0 ≤ g then decide (mf * d < ma * 2 ^ g.toNat) else decide (mf * d * 2 ^ (-g).toNat < ma)
        let r := vals.map (encodeElem fmt (mc * mf) (ec + ef))
        let codes := r.map (·.1)
        let clamped := (r.filter (·.2)).length
        let zeroed := ((vals.zip r).filter fun p => !p.1.isZero && p.2.1 == 0 && !p.2.2).length
        let gone := codes.all (· == 0) && clamped == 0
        { fmt := fmt, e4m3 := e4m3, fine := if gone then 0 else f, codes := codes, zeroed := zeroed, clamped := clamped,
          ztile := gone, stile := limited }
      | _ => QTile.zero fmt e4m3

/-- The exact value of an element of a tile under a coarse scale; NaN in a poisoned tile. -/
def QTile.value (t : QTile) (mc : Nat) (ec : Int) (i : Nat) : Num :=
  match t.kind with
  | .zero => .zero
  | .poison => .nan
  | .reserved => .nan
  | .scale mf ef =>
    let z := elemInt t.fmt (t.codes.getD i 0)
    .fin (decide (z < 0)) (z.natAbs * mc * mf) (ec + ef - elemD t.fmt)

/-- The low part of Split-4 under the same coarse scale (R142, R143). -/
def lowTile (hi : QTile) (mc : Nat) (ec : Int) (nr nk : Nat) (v : List Num) : QTile :=
  if hi.poisoned then QTile.poison hi.fmt true
  else
    let r := (List.range 64).map fun i => (v.getD i .zero).add (hi.value mc ec i).neg
    quantTile hi.fmt true mc ec nr nk r

/-! Rotation (R83-R86). -/

/-- The parity of the bits set in a number below 64. -/
def parity6 (n : Nat) : Bool :=
  (((((n.testBit 0 != n.testBit 1) != n.testBit 2) != n.testBit 3) != n.testBit 4) != n.testBit 5)

/-- An exact value divided by 8. -/
def Num.eighth : Num → Num
  | .fin n m e => .fin n m (e - 3)
  | x => x

/-- The exact sum of values. -/
def sumNum (l : List Num) : Num := l.foldl Num.add .zero

/-- A value with its sign turned when `b`. -/
def Num.flipIf (b : Bool) (x : Num) : Num := if b then x.neg else x

/-- A chunk of 64 values rotated by the signs `d` (true for −1); NaN throughout when a value is not finite (R83, R85). -/
def rotateChunk (d : List Bool) (x : List Num) : List Num :=
  if x.any fun v => !v.isFinite then List.replicate 64 .nan
  else
    let xs := (x.zip d).map fun p => p.1.flipIf p.2
    (List.range 64).map fun i => (sumNum (xs.zipIdx.map fun p => p.1.flipIf (parity6 (i &&& p.2)))).eighth

/-- A rotated chunk turned back (R86); NaN throughout when a value is NaN. -/
def turnBack (d : List Bool) (y : List Num) : List Num :=
  if y.any fun v => !v.isFinite then List.replicate 64 .nan
  else
    (List.range 64).map fun k =>
      ((sumNum (y.zipIdx.map fun p => p.1.flipIf (parity6 (p.2 &&& k)))).eighth).flipIf (d.getD k false)

/-! The cell (R62-R65). -/

/-- The integer forms of row `i` of a tile. -/
def QTile.ints (t : QTile) (i : Nat) : List Int := (List.range 8).map fun k => elemInt t.fmt (t.codes.getD (8 * i + k) 0)

/-- The tile partial of a row of one tile with a row of another (R62). -/
def tilePartial (a b : List Int) : Int := (List.zipWith (· * ·) a b).foldl (· + ·) 0

/-- The FP32 accumulator after one tile (R63-R65). -/
def tileStep (acc : Nat) (a b : QTile) (i j : Nat) : Nat :=
  if a.poisoned || b.poisoned then fp32.nan
  else
    let s : Num := match a.kind, b.kind with
      | .scale ma ea, .scale mb eb =>
        let p := tilePartial (a.ints i) (b.ints j)
        .fin (decide (p < 0)) (p.natAbs * ma * mb) (ea + eb - elemD a.fmt - elemD b.fmt)
      | _, _ => .zero
    let z := fp32.encode ((fp32.decode acc).add s)
    if z % 2 ^ 31 = 0 then 0 else z

/-- The 64 accumulators of a tile pair after one tile. -/
def tileStep64 (accs : List Nat) (a b : QTile) : List Nat :=
  accs.zipIdx.map fun p => tileStep p.1 a b (p.2 / 8) (p.2 % 8)

/-- The coarse scale for an amax (R88), as FP32 bits. -/
def coarseScale (h : Num) (fmt : Nat) : Nat :=
  let (m, e) := h.parts
  if m = 0 then 0x3F800000
  else max (fp32.round false m (qmax fmt) e) 0x00800000

/-- Whether an FP32 code is positive and normal (R51). -/
def coarseOk (c : Nat) : Bool := decide (0x00800000 ≤ c) && decide (c < 0x7F800000)

/-! The Datum modes (R147-R158). -/

/-- An exact value times 2^k truncated toward zero, and whether that was exact. -/
def truncScaled (x : Num) (k : Int) : Int × Bool :=
  match x with
  | .fin n m e =>
    let g := e + k
    let q := if 0 ≤ g then m * 2 ^ g.toNat else m / 2 ^ (-g).toNat
    let exact := if 0 ≤ g then true else decide (m % 2 ^ (-g).toNat = 0)
    (if n then -(q : Int) else q, exact)
  | _ => (0, true)

/-- The alignment exponent of a chunk's values (R148). -/
def alignExp (v : List Num) : Int :=
  match v.filter fun x => !x.isZero with
  | [] => 0
  | x :: rest =>
    let e (y : Num) : Int := floorLog y.parts.1 1 + y.parts.2
    rest.foldl (fun a y => if a < e y then e y else a) (e x)

/-- Alignment with `s` slices: the exponent, the aligned integers, whether an element is lost (R149). -/
def datumAlign (v : List Num) (s : Nat) : Int × List Int × Bool :=
  let e := alignExp v
  let q := v.map fun x => truncScaled x (4 * (s : Int) - 2 - e)
  (e, q.map (·.1), q.any fun p => !p.2)

/-- The slice count of a row or column under a setting (R150); `smin` is the mode's fewest. -/
def datumPick (v : List Num) (setting smin : Nat) : Nat :=
  if setting ≠ 0 then setting
  else ((List.range (25 - smin)).map (· + smin)).find? (fun s => !(datumAlign v s).2.2) |>.getD 24

/-- Slice `i` of an aligned integer of `s` slices, 0 the top one (R149). -/
def datumSlice (q : Int) (s i : Nat) : Int :=
  let sh := q / (2 ^ (4 * (s - 1 - i)) : Nat)
  if i = 0 then sh else sh % 16

/-- How a chunk with a NaN or an infinity is settled (R155). -/
def datumSpecial (a b : List Num) : Option Num :=
  if (a ++ b).any fun x => decide (x = .nan) then some .nan
  else
    let inf (x : Num) : Bool := !x.isFinite
    let prods := ((a.zip b).filter fun p => inf p.1 || inf p.2).map fun p => p.1.mul p.2
    match prods with
    | [] => none
    | p :: rest => if p = .nan ∨ rest.any (fun r => decide (r ≠ p)) then some .nan else some p

/-- The window after every slice pair of a chunk, and whether truncation dropped bits (R151, R152). -/
def datumWindow (qa qb : List Int) (sa sb : Nat) : Int × Bool :=
  ((List.range sa).flatMap fun i => (List.range sb).map fun j => (i, j)).foldl (fun w p =>
    let part := tilePartial (qa.map fun q => datumSlice q sa p.1) (qb.map fun q => datumSlice q sb p.2)
    let sh := 4 * (p.1 + p.2)
    if sh ≤ 176 then (w.1 + part * (2 ^ (176 - sh) : Nat), w.2)
    else
      let d : Int := (2 ^ (sh - 176) : Nat)
      let t := part.tdiv d
      (w.1 + t, w.2 || decide (t * d ≠ part))) (0, false)

/-- What one chunk gives: its value, whether alignment or the window lost bits, whether R155 settled it. -/
structure DatumChunk where
  value : Nat
  lost : Bool
  winLost : Bool
  special : Bool
  deriving DecidableEq, Repr

/-- One chunk of a Datum element (R158), 64 values each; `f` is the target format. -/
def datumChunk (f : Fmt) (smin setA setB : Nat) (a b : List Num) : DatumChunk :=
  match datumSpecial a b with
  | some v => { value := f.encode v, lost := false, winLost := false, special := true }
  | none =>
    let sa := datumPick a setA smin
    let sb := datumPick b setB smin
    let (ea, qa, la) := datumAlign a sa
    let (eb, qb, lb) := datumAlign b sb
    let (w, lw) := datumWindow qa qb sa sb
    { value := f.round (decide (w < 0)) w.natAbs 1 (ea + eb - 180), lost := la || lb, winLost := lw, special := false }

end Sys2Proof.Machine
end

