-- ==== Sys2Proof/Machine/Mac.lean ====
section
/-! DEFINITION. What the array and the Runnel path compute from memory: operands by element, panels and their rungs (R97-R101),
and the accumulators of a block, four-bit (R64, R100, R145) and Datum (R151-R155). -/
namespace Sys2Proof.Machine

open Sys2Proof

/-! Memory without checks: what the feeder has already been let read. -/

/-- Bytes at a pitch address through a translation. -/
def State.peekBytes (s : State) (m : PageMap) (a n : Nat) : Bytes :=
  (linePieces a n).flatMap fun p => s.bytesAt (s.redirected ((translate m p.1).getD 0)) p.2

/-- A little-endian number at a pitch address. -/
def State.peek (s : State) (m : PageMap) (a n : Nat) : Nat := ofBytes (s.peekBytes m a n)

/-- The exact value of an element code of a plain format (MXFP4 aside). -/
def plainNum (fmt v : Nat) : Num :=
  if fmt = 0 then bf16.decode v else if fmt = 1 then fp32.decode v else if fmt = 2 then fp64.decode v else decodeE4m3 v

/-- The exact value of an element of a plain record. -/
def State.plainAt (s : State) (m : PageMap) (r : Plain) (row col : Nat) : Num :=
  plainNum r.fmt (s.peek m (r.at row col) (fmtSize r.fmt))

/-! Q4T records (R50-R53). -/

/-- ROWS. -/
def qRows (w : Nat) : Nat := bits w 31 0
/-- KLEN. -/
def qKlen (w : Nat) : Nat := bits w 63 32
/-- DATA_BASE. -/
def qData (w : Nat) : Nat := bits w 111 64
/-- SCALE_BASE. -/
def qScale (w : Nat) : Nat := bits w 159 112
/-- COARSE. -/
def qCoarse (w : Nat) : Nat := bits w 191 160
/-- ELEM. -/
def qElem (w : Nat) : Nat := bits w 195 192
/-- FSCALE. -/
def qFscale (w : Nat) : Nat := bits w 199 196
/-- ROT_AXIS. -/
def qRot (w : Nat) : Nat := bits w 203 200
/-- SITE. -/
def qSite (w : Nat) : Nat := bits w 223 208
/-- The number of tiles along a length. -/
def tilesOf (n : Nat) : Nat := (n + 7) / 8
/-- The index of a tile. -/
def qTileIndex (w tr tk : Nat) : Nat := tr * tilesOf (qKlen w) + tk

/-- A stored tile in its own orientation, its pad elements zero (R54). -/
def State.storedTile (s : State) (m : PageMap) (w tr tk : Nat) : QTile :=
  let t := qTileIndex w tr tk
  let d := s.peek m (qData w + 32 * t) 32
  let codes := (List.range 64).map fun i =>
    if 8 * tr + i / 8 < qRows w ∧ 8 * tk + i % 8 < qKlen w then (d >>> (4 * i)) % 16 else 0
  { QTile.zero (qElem w) (qFscale w == 1) with fine := s.peek m (qScale w + t) 1, codes := codes }

/-- A tile turned (R110). -/
def QTile.turned (t : QTile) : QTile := { t with codes := (List.range 64).map fun i => t.codes.getD (8 * (i % 8) + i / 8) 0 }

/-! Operands of a MATMUL. -/

/-- The bits of the record that carries an operand's shape: outer length and contracted length. -/
def Operand.shape (o : Operand) (w : Nat) : Nat × Nat :=
  let (rows, cols) := if o.kind = 0 then ((plainOf w).rows, (plainOf w).cols) else (qRows w, qKlen w)
  if o.ax = 0 then (rows, cols) else (cols, rows)

/-- The outer length of this leg. -/
def Operand.outer (o : Operand) : Nat := (o.shape o.record).1

/-- The contracted length of this leg. -/
def Operand.depth (o : Operand) : Nat := (o.shape o.record).2

/-- The value of a plain operand's element, zero beyond its extent. -/
def State.operandAt (s : State) (m : PageMap) (o : Operand) (i k : Nat) : Num :=
  if i < o.outer ∧ k < o.depth then
    s.plainAt m (plainOf o.record) (if o.ax = 0 then i else k) (if o.ax = 0 then k else i)
  else .zero

/-- A stored operand's tile in the operand's orientation. -/
def State.operandTile (s : State) (m : PageMap) (o : Operand) (w ti tc : Nat) : QTile :=
  if o.ax = 0 then s.storedTile m w ti tc else (s.storedTile m w tc ti).turned

/-- A coarse scale as a whole number times a power of two. -/
def coarseParts (c : Nat) : Nat × Int := (fp32.decode c).parts

/-- The own rung of a stored operand's record at a site (R99), or none for a record that is no operand. -/
def storedRung (o : Operand) (w site : Nat) : Option Nat :=
  if o.kind = 2 then some 2
  else if qFscale w = 0 ∧ qRot w = (if o.ax = 0 then 1 else 2) ∧ qSite w = site then some 0
  else if qFscale w = 1 ∧ qRot w = 0 then some 1
  else none

/-- How many tiles chunk `j` holds along the contracted axis: all eight when it is rotated (R84). -/
def chunkTiles (depth j : Nat) (rotated : Bool) : Nat := if rotated then 8 else min 8 (tilesOf depth - 8 * j)

/-- The source values of one row of a chunk. -/
def State.chunkRow (s : State) (m : PageMap) (o : Operand) (i j : Nat) : List Num :=
  (List.range 64).map fun k => s.operandAt m o i (64 * j + k)

/-- Eight rows of 64 values cut into tiles. -/
def cutTile (rows : List (List Num)) (c : Nat) : List Num := rows.flatMap fun r => (r.drop (8 * c)).take 8

/-- A tile row's chunk from eight rows of values at a rung: its hi tiles, and its lo tiles at rung 2 (R58-R61, R83, R142). -/
def quantRow (fmt coarse : Nat) (signs : List Bool) (rung outer depth ti j : Nat) (rows : List (List Num)) : List QTile × List QTile :=
  let (mc, ec) := coarseParts coarse
  let nr := min 8 (outer - 8 * ti)
  if rung = 0 then
    let y := rows.map (rotateChunk signs)
    ((List.range 8).map fun c => quantTile fmt false mc ec nr 8 (cutTile y c), [])
  else
    let cs := List.range (chunkTiles depth j false)
    let hi := cs.map fun c => quantTile fmt true mc ec nr (min 8 (depth - 64 * j - 8 * c)) (cutTile rows c)
    if rung = 1 then (hi, [])
    else (hi, cs.map fun c => lowTile (hi.getD c (QTile.zero fmt true)) mc ec nr (min 8 (depth - 64 * j - 8 * c)) (cutTile rows c))

/-- The tiles of an operand's tile row `ti` in chunk `j` at a rung, which is not below the panel's own (R99). -/
def State.rowTiles (s : State) (p : Product) (o : Operand) (rung ti j : Nat) : List QTile × List QTile :=
  if o.kind = 0 then
    quantRow o.q o.coarse p.signs rung o.outer o.depth ti j ((List.range 8).map fun r => s.chunkRow p.map o (8 * ti + r) j)
  else
    let rotated := qRot o.record != 0
    let own : Nat := if o.kind = 2 then 2 else if rotated then 0 else 1
    let cs := List.range (chunkTiles o.depth j rotated)
    let hi := cs.map fun c => s.operandTile p.map o o.record ti (8 * j + c)
    if rung = own then (hi, if own = 2 then cs.map (fun c => s.operandTile p.map o o.low ti (8 * j + c)) else [])
    else
      let (mc, ec) := coarseParts (qCoarse o.record)
      let vals := (List.range 8).map fun r =>
        let line := (List.range 64).map fun k => ((hi[k / 8]?).map fun t => t.value mc ec (8 * r + k % 8)).getD .zero
        if rotated then turnBack p.signs line else line
      quantRow (qElem o.record) (qCoarse o.record) p.signs rung o.outer o.depth ti j vals

/-! Panels (R97-R102). -/

/-- What settling a panel's own rung gives: the rung, the counts of the quantisation that set it (zeroed, saturated elements,
zero, saturated tiles), how often it descended, whether it tripped at its last rung. -/
structure PanelResult where
  own : Nat
  counts : Nat × Nat × Nat × Nat
  descents : Nat
  tripped : Bool
  deriving DecidableEq, Repr

/-- The counts of a panel quantised at a rung (R98): over the hi part at rung 2 (R144). -/
def State.panelCounts (s : State) (p : Product) (o : Operand) (rung pn j : Nat) : Nat × Nat × Nat × Nat :=
  let ts := (List.range (min 8 (tilesOf o.outer - 8 * pn))).flatMap fun r => (s.rowTiles p o rung (8 * pn + r) j).1
  ((ts.map (·.zeroed)).sum, (ts.map (·.clamped)).sum, (ts.filter (·.ztile)).length, (ts.filter (·.stile)).length)

/-- Whether counts exceed a limit set (R98, R103). -/
def State.panelTrips (s : State) (camp limset : Nat) (c : Nat × Nat × Nat × Nat) : Bool :=
  decide (s.fld Reg.LAD_LIMITS_ZELEM_MAX camp limset < c.1) || decide (s.fld Reg.LAD_LIMITS_SELEM_MAX camp limset < c.2.1)
    || decide (s.fld Reg.LAD_LIMITS_ZTILE_MAX camp limset < c.2.2.1) || decide (s.fld Reg.LAD_LIMITS_STILE_MAX camp limset < c.2.2.2)

/-- The camp whose sequencer deals a product. -/
def Product.camp (p : Product) : Nat := if p.slot < 64 then p.slot / 4 else (p.slot - 64) / 4

/-- The own rung of a panel quantised in the feeder (R99, R101), tried from `rung` on with `n` descents behind it. -/
def State.settlePanel (s : State) (p : Product) (o : Operand) (pn j : Nat) : Nat → Nat → Nat → PanelResult
  | 0, rung, n => { own := rung, counts := (0, 0, 0, 0), descents := n, tripped := false }
  | fuel + 1, rung, n =>
    let c := s.panelCounts p o rung pn j
    let t := s.panelTrips p.camp (mLimset p.word) c
    if t ∧ rung < 2 ∧ ¬p.pinned then s.settlePanel p o pn j fuel (rung + 1) (n + 1)
    else { own := rung, counts := c, descents := n, tripped := t }

/-- The own rung of a panel (R99). -/
def State.panelRung (s : State) (p : Product) (o : Operand) (pn j : Nat) : Nat :=
  if o.kind ≠ 0 then (if o.kind = 2 then 2 else if qRot o.record ≠ 0 then 0 else 1)
  else if p.pinned then p.rung
  else (s.settlePanel p o pn j 3 p.rung 0).own

/-! Blocks. -/

/-- How many chunks the contracted axis has. -/
def Product.chunks (p : Product) : Nat := (p.k + 63) / 64

/-- The tiles of a list of tile rows in a chunk, with their own panel rungs. -/
def State.blockRungs (s : State) (p : Product) (o : Operand) (pans : List Nat) (j : Nat) : List (Nat × Nat) :=
  pans.map fun pn => (pn, s.panelRung p o pn j)

/-- The own rung of a panel in a list. -/
def rungIn (l : List (Nat × Nat)) (pn : Nat) : Nat := ((l.find? fun e => decide (e.1 = pn)).map (·.2)).getD 0

/-- The numbers from `lo` to `hi`. -/
def span (lo hi : Nat) : List Nat := (List.range (hi + 1 - lo)).map (· + lo)

/-- The tile rows of a run of `n` rows from `r`. -/
def tileSpan (r n : Nat) : List Nat := if n = 0 then [] else span (r / 8) ((r + n - 1) / 8)

/-- The row panels of a run of `n` rows from `r`. -/
def panelSpan (r n : Nat) : List Nat := if n = 0 then [] else span (r / 64) ((r + n - 1) / 64)

/-- The accumulators of a tile pair after a chunk at its pair rung (R100, R145). -/
def State.chunkStep (s : State) (p : Product) (rung ti tj j : Nat) (accs : List Nat) : List Nat :=
  let (ah, al) := s.rowTiles p p.a rung ti j
  let (bh, bl) := s.rowTiles p p.b rung tj j
  let pass (x y : List QTile) (acc : List Nat) : List Nat := (x.zip y).foldl (fun acc t => tileStep64 acc t.1 t.2) acc
  if rung = 2 then pass al bh (pass ah bl (pass ah bh accs)) else pass ah bh accs

/-! The residue check of a partial (R458, R459). -/

/-- The residue modulo 15 that a cell forms beside a tile partial, from the same integer forms (R458). -/
def cellResidue (a b : List Int) : Int := (List.zipWith (fun x y => x % 15 * (y % 15)) a b).sum % 15

/-- The integer forms that a cell multiplies for an output element in a tile of the contracted axis, none for a zero or a poisoned tile,
which forms no partial (R458). -/
def State.cellForms (s : State) (p : Product) (i n tile : Nat) : Option (List Int × List Int) :=
  let j := tile / 8
  let g := max (s.panelRung p p.a (i / 64) j) (s.panelRung p p.b (n / 64) j)
  match (s.rowTiles p p.a g (i / 8) j).1[tile % 8]?, (s.rowTiles p p.b g (n / 8) j).1[tile % 8]? with
  | some a, some b => match a.kind, b.kind with
    | .scale .., .scale .. => some (a.ints (i % 8), b.ints (n % 8))
    | _, _ => none
  | _, _ => none

/-- The two residues that a check compares for a partial of a block that came out wrong by `err`, none where no partial is formed; in a
Datum mode both are taken less that of the true pass partial (R459). -/
def State.residues (s : State) (p : Product) (r : Rect) (elem index : Nat) (err : Int) : Option (Int × Int) :=
  if mMode p.word ≠ 0 then some (0, err % 15)
  else (s.cellForms p (r.row + elem / r.cols) (r.col + elem % r.cols) index).map fun f => (cellResidue f.1 f.2, (tilePartial f.1 f.2 + err) % 15)

/-- How a block's checks end: an upset of a partial is a failed check of its lane where the residues differ, and passes unseen where they
agree (R458, R459). -/
def State.checkSeen (s : State) (p : Product) (r : Rect) (check : BlockCheck) : BlockCheck :=
  match check with
  | .upset l c elem index err recent =>
    match s.residues p r elem index err with
    | none => .pass
    | some (x, y) => if x = y then .pass else .lane l c (if mMode p.word = 0 then 0 else 2) index recent
  | _ => check

/-- The width of an accumulator in bytes: 8 in Datum-64. -/
def Product.accBytes (p : Product) : Nat := if mMode p.word = 2 then 8 else 4

/-- The address of the leg carry area. -/
def Product.carry (p : Product) : Nat := bits p.orec 239 192

/-- Where an output element's accumulator starts: +0, or the leg carry (R189). -/
def State.accStart (s : State) (p : Product) (i n : Nat) : Nat :=
  if p.carryIn then s.peek p.map (p.carry + (i * p.n + n) * p.accBytes) p.accBytes else 0

/-- The accumulators of a block of a four-bit product, row by row. -/
def State.fourBitBlock (s : State) (p : Product) (r : Rect) : List Nat :=
  let js := List.range p.chunks
  let ra := js.map fun j => s.blockRungs p p.a (panelSpan r.row r.rows) j
  let rb := js.map fun j => s.blockRungs p p.b (panelSpan r.col r.cols) j
  let tis := tileSpan r.row r.rows
  let tjs := tileSpan r.col r.cols
  let table := tis.map fun ti => tjs.map fun tj =>
    js.foldl (fun accs j =>
      s.chunkStep p (max (rungIn (ra.getD j []) (ti / 8)) (rungIn (rb.getD j []) (tj / 8))) ti tj j accs)
      ((List.range 64).map fun e => s.accStart p (8 * ti + e / 8) (8 * tj + e % 8))
  (List.range r.rows).flatMap fun x => (List.range r.cols).map fun y =>
    let i := r.row + x
    let n := r.col + y
    ((table.getD (i / 8 - r.row / 8) []).getD (n / 8 - r.col / 8) []).getD (8 * (i % 8) + n % 8) 0

/-- The target format of a Datum mode. -/
def datumFmt (mode : Nat) : Fmt := if mode = 2 then fp64 else fp32
/-- The fewest slices of a Datum mode. -/
def datumMin (mode : Nat) : Nat := if mode = 2 then 14 else 3

/-- The chunk results of an output element of a Datum product, in order. -/
def State.datumChunks (s : State) (p : Product) (i n : Nat) : List DatumChunk :=
  let mode := mMode p.word
  (List.range p.chunks).map fun j =>
    datumChunk (datumFmt mode) (datumMin mode) (bits p.word 332 328) (bits p.word 337 333) (s.chunkRow p.map p.a i j) (s.chunkRow p.map p.b n j)

/-- What a Datum block gives: its accumulators row by row, its lost elements with the first chunk that lost, the chunks in
which alignment lost, the window lost, and R155 settled a value. -/
structure DatumBlock where
  acc : List Nat
  lost : List (Nat × Nat × Nat)
  alignLost : Nat
  winLost : Nat
  special : Nat
  deriving DecidableEq, Repr

/-- How many chunks have some element with a property. -/
def chunksWith (n : Nat) (l : List (List DatumChunk)) (f : DatumChunk → Bool) : Nat :=
  ((List.range n).filter fun j => l.any fun e => ((e[j]?).map f).getD false).length

/-- A block of a Datum product (R153, R154). -/
def State.datumBlock (s : State) (p : Product) (r : Rect) : DatumBlock :=
  let f := datumFmt (mMode p.word)
  let cells := (List.range r.rows).flatMap fun x => (List.range r.cols).map fun y => (r.row + x, r.col + y)
  let runs := cells.map fun c => s.datumChunks p c.1 c.2
  { acc := (cells.zip runs).map fun c => c.2.foldl (fun acc ch => f.add acc ch.value) (s.accStart p c.1.1 c.1.2)
    lost := (cells.zip runs).filterMap fun c => (c.2.findIdx? fun ch => ch.lost || ch.winLost).map fun j => (c.1.1, c.1.2, j)
    alignLost := chunksWith p.chunks runs (·.lost)
    winLost := chunksWith p.chunks runs (·.winLost)
    special := chunksWith p.chunks runs (·.special) }

/-- The largest slice count of a run of rows in the last chunk (R150, R161). -/
def State.lastSlices (s : State) (p : Product) (o : Operand) (setting r n : Nat) : Nat :=
  let smin := datumMin (mMode p.word)
  (List.range n).foldl (fun best x =>
    let v := s.chunkRow p.map o (r + x) (p.chunks - 1)
    max best (if v.any (fun y => !y.isFinite) then (if setting = 0 then smin else setting) else datumPick v setting smin)) 0

/-- The index of a tile of an operand in its whole tensor, from its place in this leg, which begins at `at0` of the outer axis and `k0` of
the contracted one; a plain source counts tiles as a Q4T record of its shape would (R52, log 63). -/
def Operand.tileIndex (o : Operand) (at0 k0 ti tk : Nat) : Nat :=
  let w : Operand := { o with record := o.whole }
  if o.kind = 0 then (ti + at0 / 8) * tilesOf w.depth + (tk + k0 / 8)
  else if o.ax = 0 then qTileIndex o.whole (ti + at0 / 8) (tk + k0 / 8) else qTileIndex o.whole (tk + k0 / 8) (ti + at0 / 8)

/-- The poisoned tiles of a run of rows that enter a block, as tile indices, taken over the pair rungs that the block uses
(R65). -/
def State.poisonedTiles (s : State) (p : Product) (o other : Operand) (at0 r n r2 n2 : Nat) : List Nat :=
  (List.range p.chunks).flatMap fun j =>
    let rb := s.blockRungs p other (panelSpan r2 n2) j
    (tileSpan r n).flatMap fun ti =>
      let own := s.panelRung p o (ti / 8) j
      let rungs := ((rb.map fun e => max own e.2).eraseDups)
      let forms := rungs.map fun g => s.rowTiles p o g ti j
      ((List.range 8).filter fun c => forms.any fun f =>
        ((f.1[c]?).map QTile.poisoned).getD false || ((f.2[c]?).map QTile.poisoned).getD false).map fun c =>
          o.tileIndex at0 p.k0 ti (8 * j + c)

end Sys2Proof.Machine
end

