-- ==== Sys2Proof/Machine/Tables.lean ====
section
/-! DEFINITION. What an engine or vector descriptor checks before it runs: faults as values, records read once (R250), plain
and Q4T record forms, table pairs (R211-R214) and Groundsheet headers with the rule of R205. -/
namespace Sys2Proof.Machine

open Sys2Proof

/-- Why a descriptor faults at issue: a code with its DETAIL, or (`mem`) the access fault of a read at an address. -/
structure Bad where
  code : Nat
  detail : Nat
  mem : Option Nat
  deriving DecidableEq, Repr

/-- A check that ends in a value or a fault; `wait` (code 0) holds the row back until its access may be made. -/
abbrev Chk (α : Type) := Except Bad α

/-- The fault of a code. -/
def bad {α : Type} (code detail : Nat) : Chk α := .error { code := code, detail := detail, mem := none }

/-- A check that faults when `b`. -/
def refuseIf (b : Bool) (code detail : Nat) : Chk Unit := if b then bad code detail else .ok ()

/-- The fault of a code of R276 at a bit position. -/
def badDesc {α : Type} (i : Issue) (code pos sub : Nat) : Chk α := bad code (descDetail pos sub (dType i.w) i.mbatch i.idx)

/-- A check that faults with a code of R276 when `b`. -/
def refuseDesc (i : Issue) (b : Bool) (code pos sub : Nat) : Chk Unit := if b then badDesc i code pos sub else .ok ()

/-- An access as a check. -/
def ofAcc {α : Type} : Acc α → Chk α
  | .ok v => .ok v
  | .err c a => .error { code := c, detail := 0, mem := some a }
  | .wait => .error { code := 0, detail := 0, mem := none }

/-- The DETAIL of the codes of R76. -/
def numDetail (operand index : Nat) : Nat := atBytes [(0, operand), (8, index)]
/-- The DETAIL of the codes of R107. -/
def siteDetail (site step old new : Nat) : Nat := atBytes [(0, site), (4, step), (8, old), (9, new)]
/-- The DETAIL of the codes of R220. -/
def gsDetail (camp sub mbatch last : Nat) : Nat := atBytes [(0, camp), (2, sub), (4, mbatch), (8, last)]
/-- The DETAIL of the codes of R141; the Runnel path (16) is no plot. -/
def engDetail (lane plot cycles : Nat) : Nat := atBytes [(0, lane), (2, plot % 16), (4, cycles)]

/-- A descriptor that faults at issue with what a check found; nothing happens where an access must wait. -/
def State.issueBad (s : State) (i : Issue) (b : Bad) : Option State :=
  if b.code = 0 then none
  else match b.mem with
    | some a => some (s.issueFaultMem i b.code a)
    | none => some ((s.event b.code i.pitch (locSlot (s.slotHome i.k)) b.detail).issueFault i b.code)

/-! Records. -/

/-- A record of `n` bytes named by the address slot at bit `lo` of a word. -/
def State.record (s : State) (i : Issue) (w lo n : Nat) : Chk Nat :=
  ofAcc (s.readNum i.pitch i.map (resolveBank (slotBank w lo) i.bank (s.fld Reg.CMT_STRIDE_STRIDE i.pitch) (slotAddr w lo)) n)

/-- A plain record named by a slot of the descriptor, its form checked (R249). -/
def State.plainRecord (s : State) (i : Issue) (lo : Nat) : Chk Nat := do
  let r ← s.record i i.w lo 32
  refuseDesc i (!plainValid r) Code.DESC_RECORD_INVALID lo 0
  pure r

/-- A Q4T record's form (R51) and its rotated axis (R84). -/
def q4tFormBad (w : Nat) : Bool :=
  bits w 255 224 != 0 || bits w 207 204 != 0 || decide (2 < qElem w) || decide (1 < qFscale w) || decide (2 < qRot w)
    || (qRot w == 0 && qSite w != 0) || qData w % 32 != 0 || qScale w % 64 != 0

/-- Whether a rotated axis is not a multiple of 64 (R84). -/
def q4tShapeBad (w : Nat) : Bool := (qRot w == 1 && qKlen w % 64 != 0) || (qRot w == 2 && qRows w % 64 != 0)

/-- A Q4T record at an address, its form checked; `who` is its operand number in R76. -/
def State.q4tAt (s : State) (i : Issue) (a who : Nat) : Chk Nat := do
  let r ← ofAcc (s.readNum i.pitch i.map a 32)
  refuseIf (q4tFormBad r) Code.Q4T_HEADER_INVALID (numDetail who 0)
  refuseIf (q4tShapeBad r) Code.ROT_SHAPE_INVALID
    (if dType i.w = tMatmul then siteDetail (mSite i.w) (mStep i.w) 0 0 else siteDetail (qSite r) 0 0 0)
  pure r

/-- Whether two records fail to be a Split-4 pair (R146); COARSE is compared unless it is about to be written. -/
def pairBad (hi lo : Nat) (coarse : Bool) : Bool :=
  let tiles := tilesOf (qRows hi) * tilesOf (qKlen hi)
  let meet (a m b n : Nat) : Bool := decide (0 < m ∧ 0 < n ∧ a < b + n ∧ b < a + m)
  qFscale hi != 1 || qRot hi != 0 || qSite hi != 0 || qFscale lo != 1 || qRot lo != 0 || qSite lo != 0 || qElem hi != qElem lo
    || qRows hi != qRows lo || qKlen hi != qKlen lo || (coarse && qCoarse hi != qCoarse lo)
    || meet (qData hi) (32 * tiles) (qData lo) (32 * tiles) || meet (qScale hi) tiles (qScale lo) tiles
    || meet (qData hi) (32 * tiles) (qScale lo) tiles || meet (qScale hi) tiles (qData lo) (32 * tiles)

/-- Any range of mapped memory that cannot be read ends the descriptor (the addresses of a record's whole extent are read as
the work reaches them; this is one row or run). -/
def State.canRead (s : State) (i : Issue) (a n : Nat) : Chk Unit := do
  let _ ← ofAcc (s.readAt i.pitch i.map a n)
  pure ()

/-! Table pairs (R211-R214). -/

/-- The local address of the value table of a camp's pair; the derivative table lies 0x1000 above. -/
def tableAddr (camp pair : Nat) : Nat := storeBase + camp * 2 ^ 22 + 0x3E0000 + 0x2000 * pair

/-- The 3,104 bytes of a table. -/
def State.tableAt (s : State) (camp pair : Nat) (derivative : Bool) : Nat :=
  s.num (tableAddr camp pair + (if derivative then 0x1000 else 0)) 3104

/-- Whether an FP32 code is neither infinite nor NaN. -/
def finite32 (c : Nat) : Bool := bits c 30 23 != 0xFF

/-- Whether a table's header passes R214. -/
def tableHeaderOk (w : Nat) : Bool :=
  bits w 255 204 == 0 && decide (bits w 203 202 ≤ 1) && decide (bits w 201 200 ≤ 1)
    && decide (-24 ≤ signed 8 (bits w 199 192)) && decide (signed 8 (bits w 199 192) ≤ 16)
    && finite32 (bits w 63 32) && finite32 (bits w 95 64) && finite32 (bits w 127 96) && finite32 (bits w 159 128) && finite32 (bits w 191 160)

/-- Whether a table's coefficients pass R214. -/
def tableCoeffsOk (w : Nat) : Bool := (List.range 768).all fun k => finite32 (bits w (256 + 32 * k + 31) (256 + 32 * k))

/-- The headers of a camp's table pair checked (R214, R220). -/
def State.pairHeaders (s : State) (camp pair mbatch : Nat) : Chk Unit := do
  let v := s.tableAt camp pair false
  let d := s.tableAt camp pair true
  refuseIf (!tableHeaderOk v) Code.ACT_TABLE_INVALID (gsDetail camp 0 mbatch (bits v 31 0))
  refuseIf (!tableHeaderOk d) Code.ACT_TABLE_INVALID (gsDetail camp 1 mbatch (bits d 31 0))

/-- The coefficients of a table checked as it loads. -/
def State.tableLoads (s : State) (camp pair mbatch : Nat) (derivative : Bool) : Chk Unit :=
  let w := s.tableAt camp pair derivative
  refuseIf (!tableCoeffsOk w) Code.ACT_TABLE_INVALID (gsDetail camp (ofBool derivative) mbatch (bits w 31 0))

/-- A tail of a table (R213). -/
def tableTail (x : Num) (mode a b : Nat) : Nat :=
  if mode = 0 ∨ a % 2 ^ 31 = 0 then b else fp32.encode ((x.mul (fp32.decode a)).add (fp32.decode b))

/-- The whole part of a non-negative value. -/
def floorNum : Num → Nat
  | .fin false m e => if 0 ≤ e then m * 2 ^ e.toNat else m / 2 ^ (-e).toNat
  | _ => 0

/-- A table at an exact value (R213). -/
def tableNum (w : Nat) : Num → Nat
  | .nan => fp32.nan
  | v =>
    let lo := fp32.decode (bits w 63 32)
    let s := (v.add lo.neg).mul (.pow2 (-(signed 8 (bits w 199 192))))
    if s.lt .zero then tableTail v (bits w 201 200) (bits w 95 64) (bits w 127 96)
    else if !(s.lt (.ofInt 256)) then tableTail v (bits w 203 202) (bits w 159 128) (bits w 191 160)
    else
      let i := floorNum s
      let t := fp32.encode (s.add (Num.ofInt i).neg)
      let c (k : Nat) : Nat := bits w (256 + 96 * i + 32 * k + 31) (256 + 96 * i + 32 * k)
      fp32.fma t (fp32.fma t (c 2) (c 1)) (c 0)

/-- A table at an FP32 value. -/
def tableEval (w x : Nat) : Nat := tableNum w (fp32.decode x)

/-! The Groundsheet (R202-R208). -/

/-- FROZEN, IN_USE, DIRTY, INFLIGHT, MB_CUR of a Groundsheet header. -/
def gsFrozen (h : Nat) : Bool := bit h 199
def gsInUse (h : Nat) : Bool := bit h 198
def gsDirty (h : Nat) : Bool := bit h 197
def gsInflight (h : Nat) : Nat := bits h 215 200
def gsMbCur (h : Nat) : Nat := bits h 191 160
/-- BASE, COLS, ROWS of a Groundsheet header. -/
def gsBase (h : Nat) : Nat := bits h 159 112
def gsCols (h : Nat) : Nat := bits h 95 64
def gsRows (h : Nat) : Nat := bits h 63 32

/-- Whether a header's form is invalid (R220). -/
def gsFormBad (a h : Nat) : Bool :=
  a % 64 != 0 || bits h 255 216 != 0 || bits h 196 192 != 0 || bits h 111 96 != 0 || bits h 31 0 != 0 || gsBase h % 64 != 0
    || gsCols h == 0 || gsRows h == 0

/-- A header with its running fields. -/
def gsRunning (h mb inflight : Nat) : Nat := setBits (setBits (setBits h 191 160 mb) 215 200 inflight) 198 198 1

/-- A change to the header at a pitch address, made by the pitch's lead camp. -/
def State.gsUpdate (s : State) (m : PageMap) (a : Nat) (f : Nat → Nat) : State :=
  match translate m a with
  | some l => let l := s.redirected l
    s.store l (toBytes 32 (f (s.num l 32)))
  | none => s

/-- The form and range of a Groundsheet output (R220): the header's address, `rows` by `cols` elements from (`r0`, `c0`), whether the
output format is FP32. -/
def gsCheck (camp mbatch a h r0 c0 rows cols : Nat) (fmtOk : Bool) : Chk Unit := do
  refuseIf (gsFormBad a h) Code.GS_HEADER_INVALID (gsDetail camp 0 mbatch (gsMbCur h))
  refuseIf (decide (gsRows h < r0 + rows) || decide (gsCols h < c0 + cols)) Code.GS_HEADER_INVALID (gsDetail camp 1 mbatch (gsMbCur h))
  refuseIf (!fmtOk) Code.GS_HEADER_INVALID (gsDetail camp 2 mbatch (gsMbCur h))

/-- How the rule of R205 lets an add start. -/
inductive GsStart where
  | run (h : Nat)
  | hold
  | fault (code : Nat)
  deriving DecidableEq, Repr

/-- The rule of R205. -/
def gsStart (h mb : Nat) : GsStart :=
  if gsFrozen h then .fault Code.GS_FROZEN
  else if gsDirty h then .fault Code.GS_DIRTY
  else if !gsInUse h then .run (gsRunning h mb 1)
  else if mb = gsMbCur h then .run (gsRunning h mb (gsInflight h + 1))
  else if newer 32 mb (gsMbCur h) then (if gsInflight h = 0 then .run (gsRunning h mb 1) else .hold)
  else .fault Code.GS_ORDER_STALE

/-- How an add to the header at a pitch address may begin: by R205, and never in a Cove buffer, which takes no such write (R42). -/
def State.gsBegin (s : State) (m : PageMap) (a mb : Nat) : GsStart :=
  match (translate m a).map region with
  | some (.cove _) => .fault Code.COVE_WRITE_REFUSED
  | _ => gsStart (s.peek m a 32) mb

/-- What an add that may not begin raises at issue. -/
def State.gsBad (s : State) (i : Issue) (a code : Nat) : Bad :=
  if code = Code.COVE_WRITE_REFUSED then { code := code, detail := 0, mem := some a }
  else { code := code, detail := gsDetail i.camp 0 i.mbatch (gsMbCur (s.peek i.map a 32)), mem := none }

/-- An add ends (R205, R208). -/
def gsEnd (wrote completed : Bool) (h : Nat) : Nat :=
  let h1 := setBits h 215 200 (gsInflight h - 1)
  if !completed && wrote then setBits h1 197 197 1 else h1

/-- Elements added to the Groundsheet, counted in GS_ADD_4K (R219). -/
def State.countAdds (s : State) (pitch bytes : Nat) : State :=
  let key := 32 + pitch
  let total := sget 0 s.rems key + bytes
  { (s.accum Reg.GS_ADD_4K (total / 4096) pitch) with rems := sset 0 s.rems key (total % 4096) }

end Sys2Proof.Machine
end

