-- ==== Sys2Proof/Machine/Site.lean ====
section
/-! DEFINITION. Site records of the fall-back ladder: their fields, validity, start of a use and completion update
(R79-R96, R101, R102). -/
namespace Sys2Proof.Machine

open Sys2Proof

/-! The fields of a record (R91). -/

/-- History entry `i` of operand A (or B). -/
def siteHist (w : Nat) (ofB : Bool) (i : Nat) : Nat := let b := (if ofB then 512 else 0) + 32 * i
  bits w (b + 31) b
/-- STEP. -/
def siteStep (w : Nat) : Nat := bits w 1055 1024
/-- The low bit of CUR_AMAX_A or _B. -/
def siteCurLow (ofB : Bool) : Nat := if ofB then 1088 else 1056
/-- CUR_AMAX_A or _B. -/
def siteCur (w : Nat) (ofB : Bool) : Nat := bits w (siteCurLow ofB + 31) (siteCurLow ofB)
/-- The low bit of PRE_AMAX_A or _B. -/
def sitePreLow (ofB : Bool) : Nat := if ofB then 1152 else 1120
/-- PRE_AMAX_A or _B. -/
def sitePre (w : Nat) (ofB : Bool) : Nat := bits w (sitePreLow ofB + 31) (sitePreLow ofB)
/-- CLEAN. -/
def siteClean (w : Nat) : Nat := bits w 1215 1184
/-- Field `hi` down to `lo` of CTRL. -/
def siteCtrl (w hi lo : Nat) : Nat := bits w (1216 + hi) (1216 + lo)
/-- The record with a field of CTRL set. -/
def siteSetCtrl (w hi lo v : Nat) : Nat := setBits w (1216 + hi) (1216 + lo) v
/-- RUNG, LIMSET, HEAD, HIST_N. -/
def siteRung (w : Nat) : Nat := siteCtrl w 1 0
def siteLimset (w : Nat) : Nat := siteCtrl w 4 2
def siteHead (w : Nat) : Nat := siteCtrl w 8 5
def siteHistN (w : Nat) : Nat := siteCtrl w 13 9
/-- PRE_VALID, TRIPPED, IN_USE. -/
def sitePreValid (w : Nat) : Bool := siteCtrl w 14 14 == 1
def siteTripped (w : Nat) : Bool := siteCtrl w 15 15 == 1
def siteInUse (w : Nat) : Bool := siteCtrl w 19 19 == 1

/-- An FP32 code with −0 taken as +0 (R92). -/
def plusZero (c : Nat) : Nat := if c = 0x80000000 then 0 else c

/-- Whether an amax field is valid: zero or positive and finite. -/
def amaxOk (c : Nat) : Bool := decide (plusZero c < 0x7F800000)

/-- The used history entries of an operand. -/
def siteHistory (w : Nat) (ofB : Bool) : List Nat :=
  (List.range (siteHistN w)).map fun i => plusZero (siteHist w ofB ((siteHead w + 31 - i) % 16))

/-- Whether a record that is not fresh is invalid (R92). -/
def siteInvalid (w : Nat) : Bool :=
  !siteInUse w || bits w 2047 1248 != 0 || siteCtrl w 31 20 != 0 || decide (16 < siteHistN w) || siteRung w == 3
    || (siteHistory w false ++ siteHistory w true).any (fun c => !amaxOk c)
    || (sitePreValid w && (!amaxOk (sitePre w false) || !amaxOk (sitePre w true)))

/-! The start of a use (R92, R93). -/

/-- A fresh record initialised by its first use. -/
def siteInit (step limset : Nat) : Nat := siteSetCtrl (siteSetCtrl (step <<< 1024) 19 19 1) 4 2 limset

/-- What an advance raises: the old and new rung of a move, and whether CLEAN saturated. -/
structure SiteMove where
  moved : Option (Nat × Nat)
  saturated : Bool
  deriving DecidableEq, Repr

/-- The record advanced to a newer step (R93, R106). -/
def siteAdvance (w step climb : Nat) (descend : Bool) : Nat × SiteMove :=
  let h := siteHead w
  let w1 := setBits (setBits w (32 * h + 31) (32 * h) (plusZero (siteCur w false))) (512 + 32 * h + 31) (512 + 32 * h) (plusZero (siteCur w true))
  let w2 := siteSetCtrl (siteSetCtrl w1 8 5 ((h + 1) % 16)) 13 9 (min 16 (siteHistN w + 1))
  let clean (v : Nat) (sat : Nat) (x : Nat) : Nat := siteSetCtrl (setBits x 1215 1184 v) 18 18 sat
  let r := siteRung w
  let (w3, mv) : Nat × SiteMove :=
    if siteTripped w && descend && decide (r < 2) then
      (clean 0 0 (siteSetCtrl w2 1 0 (r + 1)), { moved := some (r, r + 1), saturated := false })
    else if siteTripped w then (clean 0 0 w2, { moved := none, saturated := false })
    else
      let c := min 0xFFFFFFFF (siteClean w + 1)
      if climb ≠ 0 ∧ climb ≤ c ∧ 0 < r then
        (clean 0 0 (siteSetCtrl w2 1 0 (r - 1)), { moved := some (r, r - 1), saturated := false })
      else
        let full := decide (c = 0xFFFFFFFF)
        (clean c (if full then 1 else siteCtrl w 18 18) w2, { moved := none, saturated := full && siteCtrl w 18 18 == 0 })
  let w4 := setBits (setBits w3 1087 1056 0) 1119 1088 0
  let w5 := siteSetCtrl (siteSetCtrl (siteSetCtrl w4 15 15 0) 16 16 0) 14 14 0
  (setBits w5 1055 1024 step, mv)

/-- The address of a site's record in a pitch. -/
def State.siteAddr (s : State) (pitch site : Nat) : Nat := (s.job pitch).siteBase + 256 * site

/-- The rung at which a use starts (R79). -/
def startRung (profile w : Nat) : Nat :=
  if profile = 0 then (if siteHistN w < 16 then max 1 (siteRung w) else siteRung w) else profile - 1

/-- The record as a use of a step leaves it at its start, checked (R92, R93, R108), with what the advance raises. -/
def State.siteStart (s : State) (i : Issue) (site step limset : Nat) : Chk (Nat × SiteMove) := do
  let a := s.siteAddr i.pitch site
  match (translate i.map a).map region with
  | some .hbm => pure ()
  | some .shelf => pure ()
  | _ => .error { code := Code.ADDRESS_RESERVED, detail := 0, mem := some a }
  let w ← ofAcc (s.readNum i.pitch i.map a 256)
  let d := siteDetail site step 0 0
  if w = 0 then pure (siteInit step limset, { moved := none, saturated := false })
  else do
    refuseIf (siteLimset w != limset) Code.LADDER_SITE_INVALID d
    refuseIf (siteInvalid w) Code.SITE_RECORD_INVALID d
    if step = siteStep w then pure (w, { moved := none, saturated := false })
    else if newer 32 step (siteStep w) then
      pure (siteAdvance w step (s.fld Reg.LAD_LIMITS_CLIMB i.camp limset) (s.fld Reg.LAD_LIMITS_SITE_DESCEND i.camp limset == 1))
    else bad Code.LADDER_STEP_STALE d

/-- A record stored over a site's bytes. -/
def State.siteStore (s : State) (pitch : Nat) (m : PageMap) (site w : Nat) : State :=
  match translate m (s.siteAddr pitch site) with
  | some l => s.store (s.redirected l) (toBytes 256 w)
  | none => s

/-- The events of an advance (R93, R106, R107). -/
def State.siteEvents (s : State) (pitch loc site step : Nat) (mv : SiteMove) : State :=
  let s1 := match mv.moved with
    | some (o, n) => s.event (if o < n then Code.LADDER_SITE_DOWN else Code.LADDER_SITE_UP) pitch loc (siteDetail site step o n)
    | none => s
  if mv.saturated then s1.event Code.LAD_COUNTER_SAT pitch loc (siteDetail site step 0 0) else s1

/-! The end of a use (R95, R96, R102). -/

/-- The record after a use's completion update, and whether LADDER_FLOOR is raised. -/
def siteComplete (w amaxA amaxB : Nat) (tripped floored : Bool) : Nat × Bool :=
  let w1 := setBits w 1087 1056 (max (plusZero (siteCur w false)) amaxA)
  let w2 := setBits w1 1119 1088 (max (plusZero (siteCur w true)) amaxB)
  let w3 := if tripped then siteSetCtrl w2 15 15 1 else w2
  if floored then (siteSetCtrl (siteSetCtrl w3 16 16 1) 17 17 1, siteCtrl w 16 16 == 0) else (w3, false)

/-- The coarse scale of a plain operand from its site's history or pre-pass (R88), or none while the pre-pass has to run. -/
def siteCoarse (w : Nat) (ofB : Bool) (fmt : Nat) : Option Nat :=
  if siteHistN w ≠ 0 then some (coarseScale (fp32.decode ((siteHistory w ofB).foldl max 0)) fmt)
  else if sitePreValid w then some (coarseScale (fp32.decode (plusZero (sitePre w ofB))) fmt)
  else none

end Sys2Proof.Machine
end

