-- ==== Sys2Proof/Machine/Matmul.lean ====
section
/-! DEFINITION. What a MATMUL checks and settles at issue (R77, R108, R128, R129, R163, R188, R189, R221, R251-R255). -/
namespace Sys2Proof.Machine

open Sys2Proof

/-! Legs (R255). -/

/-- A plain record with its token axis cut to `n` positions from `a`. -/
def legPlain (w : Nat) (onRows : Bool) (a n : Nat) : Nat :=
  let r := plainOf w
  if onRows then setBits (setBits w 47 0 (r.base + a * r.pitch)) 95 64 n
  else setBits (setBits w 47 0 (r.base + a * fmtSize r.fmt)) 127 96 n

/-- A Q4T record with its row axis cut likewise. -/
def legQ4t (w a n : Nat) : Nat :=
  let tk := tilesOf (qKlen w)
  setBits (setBits (setBits w 111 64 (qData w + a / 8 * tk * 32)) 159 112 (qScale w + a / 8 * tk)) 31 0 n

/-- An operand cut for a leg along its token axis: its outer axis, or its contracted one. -/
def Operand.cut (o : Operand) (contracted : Bool) (a n : Nat) : Operand :=
  if o.kind = 0 then { o with record := legPlain o.record ((o.ax == 0) != contracted) a n }
  else { o with record := legQ4t o.record a n, low := legQ4t o.low a n }

/-- LOSS_EN, ACT_PAIR, ACT_EN, CLIP_EN, BIAS_EN, OMODE, OFMT of an output record (R253). -/
def oLossEn (w : Nat) : Bool := bit w 427
def oActPair (w : Nat) : Nat := bits w 426 423
def oActEn (w : Nat) : Bool := bit w 422
def oClipEn (w : Nat) : Bool := bit w 421
def oBiasEn (w : Nat) : Bool := bit w 420
def oAdd (w : Nat) : Bool := bit w 419
def oFmt (w : Nat) : Nat := bits w 418 416
/-- GS_COL0, GS_ROW0, HI, LO, CARRY_4K. -/
def oCol0 (w : Nat) : Nat := bits w 415 384
def oRow0 (w : Nat) : Nat := bits w 383 352
def oHi (w : Nat) : Nat := bits w 351 320
def oLo (w : Nat) : Nat := bits w 319 288
def oCarry4k (w : Nat) : Nat := bits w 287 256

/-- The plain format code that an output format stands for. -/
def plainFmtOf (ofmt : Nat) : Nat := if ofmt = 0 then 1 else if ofmt = 1 then 0 else ofmt

/-- Whether an address slot's own bits are out of order (R246): reserved bits, or bank mark 3. -/
def slotBad (w lo : Nat) : Bool := bits w (lo + 63) (lo + 50) != 0 || slotBank w lo == 3

/-- A slot's address with its bank mark resolved for an issue. -/
def State.slotAt (s : State) (i : Issue) (w lo : Nat) : Nat :=
  resolveBank (slotBank w lo) i.bank (s.fld Reg.CMT_STRIDE_STRIDE i.pitch) (slotAddr w lo)

/-- One operand's record read, its form checked; `lo` is its slot, `who` its number in R76. A Q4T record named in a Datum mode, which
R163 refuses after the forms, is not read. -/
def State.operandRecord (s : State) (i : Issue) (lo kind ax q who : Nat) (datum : Bool) : Chk Operand := do
  if datum && kind != 0 then
    pure { kind := kind, ax := ax, q := q, record := 0, low := 0, whole := 0, coarse := 0, amax := 0, prepass := false }
  else if kind = 0 then
    let r ← s.plainRecord i lo
    pure { kind := 0, ax := ax, q := q, record := r, low := 0, whole := r, coarse := 0, amax := 0, prepass := false }
  else
    let a := s.slotAt i i.w lo
    let r ← s.q4tAt i a who
    let r2 ← if kind = 2 then s.q4tAt i (a + 32) who else pure 0
    pure { kind := kind, ax := ax, q := qElem r, record := r, low := r2, whole := r, coarse := qCoarse r, amax := 0, prepass := false }

/-- The output record's own form (R253, R254, log 51). -/
def State.outRecord (s : State) (i : Issue) (datum contracted : Bool) : Chk Nat := do
  let w ← s.record i i.w 192 64
  refuseDesc i (bits w 511 428 != 0 || decide (3 < oFmt w) || slotBad w 0 || (oBiasEn w && slotBad w 64) || (oLossEn w && slotBad w 128)
    || (contracted && slotBad w 192)) Code.DESC_RECORD_INVALID 192 1
  refuseDesc i (!oClipEn w && (oHi w != 0 || oLo w != 0)) Code.DESC_RESERVED_SET 192 0
  refuseDesc i (!datum && oLossEn w) Code.DESC_FIELD_INVALID 192 0
  pure w

/-- A plain record that the output record names, its form checked. -/
def State.outPlain (s : State) (i : Issue) (o lo : Nat) : Chk Nat := do
  refuseDesc i (slotAddr o lo % 32 != 0) Code.DESC_RECORD_INVALID 192 0
  let r ← s.record i o lo 32
  refuseDesc i (!plainValid r) Code.DESC_RECORD_INVALID 192 0
  pure r

/-- What the checks of a MATMUL leave: the product (its rung, scales and work still open), whole M, N and K, whether it is a
use of its site, whether this leg has work. -/
structure Plan where
  p : Product
  whole : Nat × Nat × Nat
  use : Bool
  work : Bool

/-- The clip bounds (R69). -/
def clipBad (o : Nat) : Bool :=
  oClipEn o && (fp32.isNan (oLo o) || fp32.isNan (oHi o) || (fp32.decode (oHi o)).lt (fp32.decode (oLo o)))

/-- Whether the carry area is unmapped or too small (R189, R254). -/
def carryBad (m : PageMap) (a area need : Nat) : Bool :=
  decide (area < need) || (decide (need ≠ 0) && (translate m (a + need - 1)).isNone)
    || (List.range ((need + 4095) / 4096)).any fun k => (translate m (a + 4096 * k)).isNone

/-- The checks that read no operand data, up to operand agreement and the site's own settings (R77, R163), and what they settle (log 49, 50). -/
def State.matmulChecks (s : State) (i : Issue) : Chk Plan := do
  let w := i.w
  let mode := mMode w
  let datum := mode != 0
  let tok := mTok w
  let contracted := i.inLeg && tok == 3
  refuseIf (mPlot w == 3) Code.PLOT_INVALID (engDetail 0xFFFF 0 0)
  -- the records
  let a ← s.operandRecord i 64 (bits w 317 316) (bits w 318 318) (bits w 321 320) 0 datum
  refuseDesc i (!datum && a.kind == 0 && decide (1 < (plainOf a.record).fmt)) Code.DESC_RECORD_INVALID 64 4
  let b ← s.operandRecord i 128 (bits w 323 322) (bits w 324 324) (bits w 327 326) 1 datum
  refuseDesc i (!datum && b.kind == 0 && decide (1 < (plainOf b.record).fmt)) Code.DESC_RECORD_INVALID 128 4
  let o ← s.outRecord i datum contracted
  let m := a.outer
  let n := b.outer
  let k := a.depth
  let bias ← if oBiasEn o then s.outPlain i o 64 else pure 0
  let dst ← if oAdd o then pure 0 else s.outPlain i o 0
  let hdr := s.slotAt i o 0
  let fa := (plainOf a.record).fmt
  let fb := (plainOf b.record).fmt
  if datum then
    let fmt := if mode = 2 then 2 else 0
    refuseIf (a.kind != 0 || b.kind != 0 || fa != fmt || fb != fmt) Code.DATUM_SETTING_INVALID (numDetail 0 0)
    let smin := datumMin mode
    let slices (x : Nat) : Bool := decide (x ≠ 0 ∧ (x < smin ∨ 24 < x))
    refuseIf (slices (bits w 332 328)) Code.DATUM_SETTING_INVALID (numDetail 1 0)
    refuseIf (slices (bits w 337 333)) Code.DATUM_SETTING_INVALID (numDetail 2 0)
    refuseIf (mSite w != 0) Code.DATUM_SETTING_INVALID (numDetail 3 0)
    refuseIf (mode == 2 && oActEn o) Code.DATUM_SETTING_INVALID (numDetail 4 0)
    let fbias := (plainOf bias).fmt
    refuseIf ((if mode = 2 then oFmt o != 2 && oFmt o != 0 else oFmt o != 0 && oFmt o != 1)
      || (oBiasEn o && (if mode = 2 then fbias != 1 && fbias != 2 else fbias != 0 && fbias != 1))) Code.DATUM_SETTING_INVALID (numDetail 5 0)
    refuseDesc i (a.depth != b.depth) Code.DESC_RECORD_INVALID 64 3
  refuseDesc i (!oAdd o && ((plainOf dst).rows != m || (plainOf dst).cols != n)) Code.DESC_RECORD_INVALID 192 3
  refuseDesc i (!oAdd o && (plainOf dst).fmt != plainFmtOf (oFmt o)) Code.DESC_RECORD_INVALID 192 4
  refuseDesc i (!datum && oBiasEn o && decide (1 < (plainOf bias).fmt)) Code.DESC_RECORD_INVALID 192 4
  refuseDesc i (oBiasEn o && ((plainOf bias).rows != 1 || (plainOf bias).cols != n)) Code.DESC_RECORD_INVALID 192 3
  let accB := if mode = 2 then 8 else 4
  refuseIf (contracted && carryBad i.map (s.slotAt i o 192) (4096 * oCarry4k o) (m * n * accB)) Code.STREAM_SETTING_INVALID
    (streamDetail 0 2 i.mbatch i.idx)
  -- the coarse scales
  refuseIf (a.kind != 0 && !coarseOk a.coarse || (a.kind == 2 && !coarseOk (qCoarse a.low))) Code.COARSE_SCALE_INVALID (numDetail 0 0)
  refuseIf (b.kind != 0 && !coarseOk b.coarse || (b.kind == 2 && !coarseOk (qCoarse b.low))) Code.COARSE_SCALE_INVALID (numDetail 1 0)
  -- the clip bounds and the table headers
  refuseIf (clipBad o) Code.CLIP_BOUNDS_INVALID (numDetail 3 0)
  if oActEn o then s.pairHeaders i.camp (oActPair o) i.mbatch
  -- operand agreement and the site's own settings
  let site := mSite w
  if !datum then
    refuseIf (a.kind == 2 && pairBad a.record a.low true) Code.Q4T_MISMATCH (numDetail 0 0)
    refuseIf (b.kind == 2 && pairBad b.record b.low true) Code.Q4T_MISMATCH (numDetail 1 0)
    refuseIf (a.depth != b.depth) Code.Q4T_MISMATCH (numDetail 1 0)
    refuseIf (a.kind != 0 && b.kind != 0 && (qFscale a.record != qFscale b.record || (qRot a.record != 0) != (qRot b.record != 0)
      || (qRot a.record != 0 && qSite a.record != qSite b.record))) Code.Q4T_MISMATCH (numDetail 1 0)
    refuseIf (a.kind != 0 && (storedRung a a.record site).isNone) Code.Q4T_MISMATCH (numDetail 0 0)
    refuseIf (b.kind != 0 && (storedRung b b.record site).isNone) Code.Q4T_MISMATCH (numDetail 1 0)
    refuseIf (site == 0 && mProfile w != 2) Code.LADDER_SITE_INVALID (siteDetail site (mStep w) 0 0)
    refuseIf ((a.kind == 0 && a.q == 2) || (b.kind == 0 && b.q == 2)) Code.LADDER_SITE_INVALID (siteDetail site (mStep w) 0 0)
  -- the leg
  let axis := if tok = 1 then m else if tok = 2 then n else k
  let (t0, tn) := s.legRange i axis
  let l := (s.slot i.k).legLen
  let beyond := i.inLeg && i.leg != 0 && decide (axis ≤ t0)
  let last := !i.inLeg || decide (axis ≤ (i.leg + 1) * l)
  let a1 := if i.inLeg then (if tok = 1 then a.cut false t0 tn else if tok = 3 then a.cut true t0 tn else a) else a
  let b1 := if i.inLeg then (if tok = 2 then b.cut false t0 tn else if tok = 3 then b.cut true t0 tn else b) else b
  let dst1 := if i.inLeg && !oAdd o then
      (if tok = 1 then legPlain dst true t0 tn else if tok = 2 then legPlain dst false t0 tn else dst) else dst
  let bias1 := if i.inLeg && tok == 2 && oBiasEn o then legPlain bias false t0 tn else bias
  let m1 := if i.inLeg && tok == 1 then tn else m
  let n1 := if i.inLeg && tok == 2 then tn else n
  let k1 := if i.inLeg && tok == 3 then tn else k
  let p : Product :=
    { uid := s.issued, slot := i.k, pitch := i.pitch, word := w, map := i.map, a := a1, b := b1, m := m1, n := n1, k := k1
      m0 := if i.inLeg && tok == 1 then t0 else 0, n0 := if i.inLeg && tok == 2 then t0 else 0
      k0 := if i.inLeg && tok == 3 then t0 else 0, nAll := n
      orec := setBits (setBits o 239 192 (s.slotAt i o 192)) 175 128 (s.slotAt i o 128)
      dst := dst1, hdr := hdr, bias := bias1
      table := if oActEn o then s.tableAt i.camp (oActPair o) false else 0
      rung := 0, pinned := mProfile w != 0, signs := [], carryIn := contracted && i.leg != 0, carryOut := contracted && !last
      runnel := false, todo := [], tripped := false, floored := false, poison := false, loss := false, lostAt := [], wrote := false, added := false }
  pure { p := p, whole := (m, n, k), use := !datum && decide (m ≠ 0 ∧ n ≠ 0 ∧ k ≠ 0), work := !beyond && decide (m1 ≠ 0 ∧ n1 ≠ 0) }

/-- Whether a product meets the Runnel limits (R129, R130, R133). -/
def runnelFits (mode m n k : Nat) : Bool := mode == 0 && (decide (m ≤ 8) || decide (n ≤ 8)) && decide (k ≤ 262144)

/-- The checks after the site record (R129, R220, R221): the path, on the whole product and whatever RUNNEL_EN (log 118), then the
Groundsheet header and the table's coefficients. -/
def State.matmulLate (s : State) (i : Issue) (pl : Plan) : Chk Product := do
  let p := pl.p
  let (m, n, k) := pl.whole
  let fits := runnelFits (mMode i.w) m n k
  refuseIf (mPath i.w == 2 && !fits) Code.PATH_INVALID (engDetail 0xFFFF 0 0)
  if oAdd p.orec then
    refuseIf (p.hdr % 64 != 0) Code.GS_HEADER_INVALID (gsDetail i.camp 0 i.mbatch 0)
    let h ← ofAcc (s.readNum i.pitch i.map p.hdr 32)
    gsCheck i.camp i.mbatch p.hdr h (oRow0 p.orec) (oCol0 p.orec) m n (oFmt p.orec == 0)
    pure ()
  if oActEn p.orec then s.tableLoads i.camp (oActPair p.orec) i.mbatch false
  let h := if oAdd p.orec then s.peek i.map p.hdr 32 else 0
  pure { p with runnel := mPath i.w != 1 && fits, dst := if oAdd p.orec then h else p.dst
                todo := if pl.work then [{ row := 0, rows := p.m, col := 0, cols := p.n }] else [] }

end Sys2Proof.Machine
end

