-- ==== Sys2Proof/Machine/Engine.lean ====
section
/-! DEFINITION. The Breaker engines' shared operations: dealing (R114-R119, R137), ramps (R124, R125), the margin (R126), and
the drain with its output conversion (R67-R71, R112, R156, R204). -/
namespace Sys2Proof.Machine

open Sys2Proof

/-! Products and engines by number. -/

/-- An engine with nothing on it. -/
def EngRec.empty : EngRec := { plots := [], banks := [], draining := none, kept := [], queue := [], denied := [], noMargin := [], dry := false }

/-- An engine's record. -/
def State.engine (s : State) (e : Nat) : EngRec := sget .empty s.eng.engs e

/-- BRK_STATUS.STATE. -/
def State.engState (s : State) (e : Nat) : Nat := s.fld Reg.BRK_STATUS_STATE e

/-- The busy plots as a mask. -/
def EngRec.busyMask (x : EngRec) : Nat := (x.plots.filter fun p => decide (p.plot < 16)).foldl (fun m p => m ||| 2 ^ p.plot) 0

/-- The state with an engine's record set, and PLOT_BUSY with it. -/
def State.setEngine (s : State) (e : Nat) (x : EngRec) : State :=
  ({ s with eng := { s.eng with engs := sset .empty s.eng.engs e x } } : State).setFld Reg.BRK_STATUS_PLOT_BUSY x.busyMask e

/-- The state with an engine's STATE and enabled lane groups set. -/
def State.setEngState (s : State) (e st groups : Nat) : State :=
  (s.setFld Reg.BRK_STATUS_STATE st e).setFld Reg.BRK_STATUS_GROUPS_ON groups e

/-- The product of a flight. -/
def State.product (s : State) (uid : Nat) : Option Product := s.eng.products.find? fun p => decide (p.uid = uid)

/-- The state with a product changed. -/
def State.mapProduct (s : State) (uid : Nat) (f : Product → Product) : State :=
  { s with eng := { s.eng with products := s.eng.products.map fun p => if p.uid = uid then f p else p } }

/-- The lanes of an engine that are in service among those of a plot. -/
def State.lanesUp (s : State) (e lo n : Nat) : Nat :=
  ((List.range n).filter fun i => bits (s.fld Reg.FEN_LANE_STATE e ((lo + i) / 16)) (2 * ((lo + i) % 16) + 1) (2 * ((lo + i) % 16)) == 0).length

/-- The size of a plot in a mode, how many plots it has, and the first lane of plot `p` (R115). -/
def plotSize (mode : Nat) : Nat := if mode = 0 then 256 else if mode = 1 then 128 else 64
/-- How many plots a mode has. -/
def plotCount (mode : Nat) : Nat := if mode = 0 then 1 else if mode = 1 then 4 else 16
/-- The first lane of a plot. -/
def plotLane (mode p : Nat) : Nat := if mode = 0 then 0 else if mode = 1 then 128 * (p / 2) else 64 * (p / 4)

/-- Whether an engine takes new work: its latch reads IN_SERVICE and its camp's sequencer runs. -/
def State.engineUp (s : State) (e : Nat) : Bool :=
  s.fld Reg.FEN_STATE_ENG_STATE e == 0 && s.campRuns (e / 8)

/-- The engines to which a descriptor's work may go (R248): those of its mask in service, else the camp's others in service. -/
def State.enginesFor (s : State) (camp word : Nat) : List Nat :=
  let all := (List.range 8).map (· + 8 * camp)
  let up := all.filter s.engineUp
  let named := up.filter fun e => (dEngMask word).testBit (e % 8)
  let anyNamed := all.any fun e => (dEngMask word).testBit (e % 8) && s.fld Reg.FEN_STATE_ENG_STATE e != 2
  if named = [] ∧ !anyNamed then up else named

/-- The engines to which a product's blocks may go. -/
def State.allowedEngines (s : State) (p : Product) : List Nat := s.enginesFor p.camp p.word

/-- How many accumulator banks a plot can leave to the drain before it has none for its next block: one, and in Datum-64 none
(R112, R160). -/
def Product.spareBanks (p : Product) : Nat := if mMode p.word = 2 then 0 else 1

/-- Whether a block of a descriptor on a plot has the banks it needs: not both while one of the plot's awaits the drain, nor any that is
joined to another (R112, R160). -/
def EngRec.hasBank (x : EngRec) (products : List Product) (plot uid : Nat) : Bool :=
  let joins (u : Nat) : Bool := products.any fun p => decide (p.uid = u ∧ p.spareBanks = 0)
  let waiting := x.banks.filter fun b => decide (b.plot = plot)
  if joins uid || waiting.any (fun b => joins b.uid) then waiting.isEmpty else decide (waiting.length ≤ 1)

/-- Whether the drain freezes the array: an active plot has no bank for its block (R120). -/
def EngRec.drainFrozen (x : EngRec) (products : List Product) : Bool :=
  x.plots.any fun q => decide (q.plot < 16) && !x.hasBank products q.plot q.uid

/-- The lowest free plot of an engine in a mode with a lane in service, one whose banks are not both waiting first, with the rows that it
computes (R137). -/
def State.freePlot (s : State) (e mode : Nat) : Option (Nat × Nat) :=
  let x := s.engine e
  let free := (List.range (plotCount mode)).filter fun p =>
    !(x.plots.any fun q => decide (q.plot = p)) && decide (0 < s.lanesUp e (plotLane mode p) (plotSize mode))
  let ready := free.filter fun p => decide ((x.banks.filter fun b => decide (b.plot = p)).length ≤ 1)
  (ready ++ free).head?.map fun p => (p, s.lanesUp e (plotLane mode p) (plotSize mode))

/-- Whether an engine is idle: ramped down, every plot empty, every bank drained (R116). -/
def State.engineIdle (s : State) (e : Nat) : Bool :=
  let x := s.engine e
  s.engState e == 0 && x.plots.isEmpty && x.banks.isEmpty

/-- A rectangle's first block of at most `h` rows by `w` columns, and what is left of it. -/
def Rect.split (r : Rect) (h w : Nat) : Rect × List Rect :=
  let rows := min h r.rows
  let cols := min w r.cols
  ({ row := r.row, rows := rows, col := r.col, cols := cols },
   (if cols < r.cols then [{ row := r.row, rows := rows, col := r.col + cols, cols := r.cols - cols }] else [])
   ++ (if rows < r.rows then [{ row := r.row + rows, rows := r.rows - rows, col := r.col, cols := r.cols }] else []))

/-- A block placed on a plot; an idle engine takes the mode and ramps up (R116, R124). -/
def State.place1 (s : State) (e mode plot uid : Nat) (r : Rect) (fails : Nat) : State :=
  let x := s.engine e
  let idle := s.engState e == 0
  let s1 := s.setEngine e { x with plots := x.plots ++ [{ plot := plot, uid := uid, rect := r, fed := [], fails := fails }] }
  if idle then (s1.setFld Reg.BRK_STATUS_PLOT_MODE mode e).setEngState e 1 1 else s1

/-- Whether an engine may take array work now: it is not in Runnel work (R136), nor parked or parking with work waiting. -/
def State.arrayOpen (s : State) (e : Nat) : Bool := s.engState e != 7 && s.engState e != 8

/-- Whether an engine can take a block in a mode, and on which plot (R116). -/
def State.placeFor (s : State) (e mode : Nat) : Option (Nat × Nat) :=
  if s.arrayOpen e ∧ (s.engineIdle e ∨ s.fld Reg.BRK_STATUS_PLOT_MODE e = mode) then s.freePlot e mode else none

/-- The plot mode in which an engine runs a block on its array: for Runnel work without the margin the engine's current mode, or mode 256
from idle (R127); for any other the descriptor's (R116). -/
def State.blockMode (s : State) (e uid : Nat) : Nat :=
  if uid ∈ (s.engine e).noMargin then (if s.engineIdle e then 0 else s.fld Reg.BRK_STATUS_PLOT_MODE e)
  else ((s.product uid).map fun p => mPlot p.word).getD 0

/-- A Runnel block not yet begun goes to the array of an engine whose RUNNEL_EN has been cleared (R129). -/
def State.unqueue (s : State) (e : Nat) : Option State :=
  let x := s.engine e
  if s.fld Reg.BRK_CFG_RUNNEL_EN e = 0 ∧ x.queue ≠ [] ∧ !(x.plots.any fun q => decide (q.plot = 16)) then
    some (s.setEngine e { x with queue := [], denied := x.denied ++ x.queue.map fun q => (q.1, q.2, 0) })
  else none

/-- A block that an engine keeps for itself goes to its array (R127, R461). -/
def State.placeOwn (s : State) (e : Nat) : Option State :=
  let x := s.engine e
  match x.denied with
  | [] => none
  | (uid, r, fails) :: rest =>
    let mode := s.blockMode e uid
    match (if s.engineUp e then s.placeFor e mode else none) with
    | none => none
    | some (plot, h) =>
      let (b, left) := r.split h (plotSize mode)
      some ((s.setEngine e { x with denied := left.map (fun r => (uid, r, 0)) ++ rest }).place1 e mode plot uid b fails)

/-- Whether a product's next block goes to the Runnel path of an engine (R127, R129). -/
def State.onRunnel (s : State) (p : Product) (e : Nat) : Bool :=
  p.runnel && s.fld Reg.BRK_CFG_RUNNEL_EN e == 1 && decide (p.uid ∉ (s.engine e).noMargin)

/-- One block of a product dealt, to the lowest engine and plot that can take it (log 21). -/
def State.dealProduct (s : State) (p : Product) : Option State :=
  match p.todo with
  | [] => none
  | r :: rest =>
    match (s.allowedEngines p).find? fun e =>
        if s.onRunnel p e then (s.engine e).queue.isEmpty else (s.placeFor e (s.blockMode e p.uid)).isSome && (s.engine e).denied.isEmpty with
    | none => none
    | some e =>
      if s.onRunnel p e then
        let (b, left) := r.split (plotSize (mPlot p.word)) (plotSize (mPlot p.word))
        let s1 := s.mapProduct p.uid fun q => { q with todo := left ++ rest }
        some ((s1.setEngine e { s1.engine e with queue := [(p.uid, b)] }).setFld Reg.BRK_STATUS_MARGIN_REQ 1 e)
      else
        let mode := s.blockMode e p.uid
        match s.placeFor e mode with
        | none => none
        | some (plot, h) =>
          let (b, left) := r.split h (plotSize mode)
          some ((s.mapProduct p.uid fun q => { q with todo := left ++ rest }).place1 e mode plot p.uid b 0)

/-- The first thing that a list of attempts gives. -/
def firstSome {α β : Type} (f : α → Option β) : List α → Option β
  | [] => none
  | a :: rest => match f a with
    | some b => some b
    | none => firstSome f rest

/-- The Runnel path of an idle engine with the margin starts on the head of its queue (R126, R136). -/
def State.startRunnel (s : State) (e : Nat) : Option State :=
  let x := s.engine e
  match x.queue with
  | [] => none
  | (uid, r) :: _ =>
    if s.engineIdle e ∧ s.fld Reg.BRK_STATUS_MARGIN_OK e = 1 then
      some ((s.setEngine e { x with plots := [{ plot := 16, uid := uid, rect := r, fed := [], fails := 0 }] }).setEngState e 7 0)
    else none

/-- The order in which a product's slot is dealt, 0 first (R170): STR_CFG.PRIO, then GEN, BWD, FWD, UPD. -/
def State.dealRank (s : State) (p : Product) : Nat :=
  4 * (3 - s.fld Reg.STR_CFG_PRIO (s.slotHome p.slot)) + [2, 1, 3, 0].getD (p.slot % 4) 0

/-- The products of a camp in the order of R170, those of one slot in issue order. -/
def State.dealOrder (s : State) (camp : Nat) : List Product :=
  let mine := s.eng.products.filter fun p => decide (p.camp = camp ∧ p.uid ∉ s.eng.held) && !p.a.prepass && !p.b.prepass
  (List.range 16).flatMap fun r => mine.filter fun p => s.dealRank p == r

/-- One step of dealing within a camp: engines' own blocks, then Runnel starts, then products in the order of R170. -/
def State.dealStep (s : State) (camp : Nat) : Option State :=
  let es := (List.range 8).map (· + 8 * camp)
  match firstSome (fun e => (s.unqueue e).orElse fun _ => s.placeOwn e) es with
  | some t => some t
  | none => match firstSome s.startRunnel es with
    | some t => some t
    | none => firstSome s.dealProduct (s.dealOrder camp)

/-- Dealing as far as it goes. -/
def State.dealAll (s : State) (camp : Nat) : Nat → State
  | 0 => s
  | fuel + 1 => match s.dealStep camp with
    | some t => t.dealAll camp fuel
    | none => s

/-- An engine whose last plot has fallen empty with nothing waiting for it ramps down (R125); one that the drain, a feed or a
requantisation freezes reads frozen (R120); a parked one with nothing left is idle. -/
def State.settleArray (s : State) (e : Nat) : State :=
  let x := s.engine e
  let st := s.engState e
  let frozen := x.dry || x.drainFrozen s.eng.products
  if (st = 2 ∨ st = 3 ∨ (st = 1 ∧ s.fld Reg.BRK_STATUS_GROUPS_ON e = 16)) ∧ x.plots = [] then s.setEngState e 6 16
  else if st = 2 ∧ frozen then s.setEngState e 3 16
  else if st = 3 ∧ !frozen then s.setEngState e 2 16
  else if (st = 7 ∧ x.plots = [] ∧ x.banks = []) ∨ (st = 5 ∧ x.plots = []) then s.setEngState e 0 0
  else s

/-- A camp's engines settle after a change: dealing, then ramps and freezes. -/
def State.settleCamp (s : State) (camp : Nat) : State :=
  let s1 := s.dealAll camp 200
  let s2 := ((List.range 8).map (· + 8 * camp)).foldl State.settleArray s1
  s2.dealAll camp 200

/-! The end of a product. -/

/-- Whether nothing of a product is left to run or to drain. -/
def State.productDrained (s : State) (p : Product) : Bool :=
  p.todo.isEmpty && s.eng.engs.all fun e =>
    !(e.2.plots.any fun q => decide (q.uid = p.uid)) && !(e.2.banks.any fun b => decide (b.uid = p.uid))
      && !(e.2.queue.any fun q => decide (q.1 = p.uid)) && !(e.2.denied.any fun q => decide (q.1 = p.uid))

/-- An engine rid of a descriptor's blocks, banks and panels. -/
def EngRec.without (x : EngRec) (uid : Nat) : EngRec :=
  let banks := x.banks.filter fun b => decide (b.uid ≠ uid)
  { plots := x.plots.filter fun q => decide (q.uid ≠ uid), banks := banks
    draining := match x.draining with
      | some p => if banks.any (fun b => decide (b.plot = p)) then some p else lowest (banks.map (·.plot))
      | none => none
    kept := x.kept.filter fun k => decide (k.1 ≠ uid), queue := x.queue.filter (fun q => decide (q.1 ≠ uid))
    denied := x.denied.filter (fun q => decide (q.1 ≠ uid)), noMargin := x.noMargin.filter (· ≠ uid)
    dry := x.dry && x.plots.any fun q => decide (q.uid ≠ uid) }

/-- Every engine of a list rid of a descriptor. -/
def State.clearEngines (s : State) (uid : Nat) : List Nat → State
  | [] => s
  | e :: rest => (s.setEngine e ((s.engine e).without uid)).clearEngines uid rest

/-- A product leaves the engines and the list of products; an add ends at its header (R205, R208). -/
def State.dropProduct (s : State) (p : Product) (completed : Bool) : State :=
  let s1 := s.clearEngines p.uid ((List.range 8).map (· + 8 * p.camp))
  let s2 := if p.added then s1.gsUpdate p.map p.hdr (gsEnd p.wrote completed) else s1
  { s2 with eng := { s2.eng with products := s2.eng.products.filter (fun q => decide (q.uid ≠ p.uid)), held := s2.eng.held.filter (· ≠ p.uid) } }

/-- A MATMUL ends with a fault whose event is raised: its product goes, and its slot stops (R113, R172). -/
def State.productFaulted (s : State) (p : Product) (code : Nat) : State :=
  let s1 := s.dropProduct p false
  match s1.flightOf p.uid with
  | some (k, f) => (s1.flightFaulted k f code).settleCamp p.camp
  | none => s1.settleCamp p.camp

/-! The drain. -/

/-- An output value after steps 1 to 4 of R67 (R156 in a Datum mode), in the target format; `col` is its column. -/
def State.outValue (s : State) (p : Product) (acc col : Nat) : Nat :=
  let o := p.orec
  let mode := mMode p.word
  let f := if mode = 2 then fp64 else fp32
  let x1 := if mode = 0 then fp32.encode (((fp32.decode acc).mul (fp32.decode p.a.coarse)).mul (fp32.decode p.b.coarse)) else acc
  let x2 := if oBiasEn o then
      let r := plainOf p.bias
      f.encode ((f.decode x1).add (plainNum r.fmt (s.peek p.map (r.at 0 col) (fmtSize r.fmt))))
    else x1
  let x3 := if oActEn o then tableEval p.table x2 else x2
  if oClipEn o then
    let v := f.decode x3
    let lo := fp32.decode (oLo o)
    let hi := fp32.decode (oHi o)
    if v.lt lo then f.encode lo else if hi.lt v then f.encode hi else x3
  else x3

/-- Step 5 (R70): the output code, whether it is NaN, whether the conversion overflowed (R71). -/
def outConvert (mode ofmt v : Nat) : Nat × Bool × Bool :=
  let f := if mode = 2 then fp64 else fp32
  let x := f.decode v
  let t (g : Fmt) : Nat × Bool × Bool :=
    let c := g.encode x
    (c, g.isNan c, x.isFinite && !(g.decode c).isFinite)
  if ofmt = 0 then (if mode = 2 then t fp32 else (v, fp32.isNan v, false))
  else if ofmt = 1 then t bf16
  else if ofmt = 2 then (if mode = 2 then (v, fp64.isNan v, false) else t fp64)
  else
    let c := encodeE4m3 x
    let past := match x with
      | .fin _ m e => decide (0x7E < (Fmt.mk 4 3).roundMag m 1 e)
      | _ => false
    (c, c % 128 == 127, past)

/-- The first `n` elements of a row of output, converted, with how many are NaN and how many overflowed. -/
def State.outRow (s : State) (p : Product) (col : Nat) (accs : List Nat) : Bytes × List Nat × Nat × Nat :=
  let ofmt := oFmt p.orec
  let size := fmtSize (plainFmtOf ofmt)
  let r := accs.zipIdx.map fun a => outConvert (mMode p.word) ofmt (s.outValue p a.1 (col + a.2))
  (r.flatMap fun x => toBytes size x.1, r.map (·.1), (r.filter (·.2.1)).length, (r.filter (·.2.2)).length)

/-- Bits of a byte run set or cleared: pairs of bit number and value. -/
def putBits (bs : Bytes) (l : List (Nat × Bool)) : Bytes :=
  let v := l.foldl (fun v x => setBits v x.1 x.1 (ofBool x.2)) (ofBytes bs)
  toBytes bs.length v

/-- One row of the loss map (R154): `n` elements from column `col` of row `i`, as bits; the last byte's bits past the last of the M × N
elements are written as 0 (log 55). -/
def State.lossRow (s : State) (p : Product) (i col n : Nat) : Acc State :=
  let base := bits p.orec 175 128
  let g := (p.m0 + i) * p.nAll + p.n0 + col
  let a := base + g / 8
  let len := (g + n - 1) / 8 + 1 - g / 8
  let whole : Operand := { p.a with record := p.a.whole }
  let past := if g + n = whole.outer * p.nAll then 8 * len - (g % 8 + n) else 0
  s.writeAt p.pitch p.map none a (putBits (s.peekBytes p.map a len)
    ((List.range n).map (fun k => (g % 8 + k, decide (g + k ∈ p.lostAt))) ++ (List.range past).map fun k => (g % 8 + n + k, false)))

/-- A row of a block leaves the drain: to the carry area, to the Groundsheet, or to the output with its loss map. -/
def State.drainRow (s : State) (e : Nat) (p : Product) (i col : Nat) (accs : List Nat) : Acc State :=
  if accs = [] then .ok s
  else if p.carryOut then
    s.writeAt p.pitch p.map none (p.carry + (i * p.n + col) * p.accBytes) (accs.flatMap (toBytes p.accBytes))
  else
    let (bs, vals, nans, ovfs) := s.outRow p col accs
    let s0 := if nans = 0 then s else s.bump Ctr.CNV_NAN_OUT p.pitch (locEngine e) e nans
    let s1 := if ovfs = 0 then s0 else s0.bump Ctr.CNV_OVF_OUT p.pitch (locEngine e) e ovfs
    let body : Acc State :=
      if oAdd p.orec then
        let a := gsBase p.dst + 4 * ((oRow0 p.orec + p.m0 + i) * gsCols p.dst + oCol0 p.orec + p.n0 + col)
        match s1.addAt p.pitch p.map .fp32 a (vals.map some) with
        | .ok s2 => .ok (s2.countAdds p.pitch (4 * vals.length))
        | r => r
      else s1.writeAt p.pitch p.map none ((plainOf p.dst).at i col) bs
    match body with
    | .ok s2 => if oLossEn p.orec then s2.lossRow p i col accs.length else .ok s2
    | r => r

/-- How the drain of a block ends: after how many rows, with what fault code and address. -/
structure DrainEnd where
  s : State
  code : Nat
  addr : Nat
  wrote : Bool

/-- The rows of a block from `i` on drained in order; the first failure ends it. -/
def State.drainRows (s : State) (e : Nat) (p : Product) (r : Rect) : Nat → List Nat → Nat → Bool → DrainEnd
  | 0, _, _, wrote => { s := s, code := 0, addr := 0, wrote := wrote }
  | n + 1, accs, i, wrote =>
    match s.drainRow e p i r.col (accs.take r.cols) with
    | .ok s1 => s1.drainRows e p r n (accs.drop r.cols) (i + 1) (wrote || accs != [])
    | .err c a => { s := s, code := c, addr := a, wrote := wrote }
    | .wait => { s := s, code := 1, addr := 0, wrote := wrote }

/-- The first `n` accumulators of a block drained. -/
def State.drainBlock (s : State) (e : Nat) (p : Product) (r : Rect) (accs : List Nat) : DrainEnd :=
  s.drainRows e p r r.rows accs r.row false

/-- A product whose contracted length is zero writes its whole output from +0 accumulators (R68, R128); `none` where an access
must wait. -/
def State.drainZero (s : State) (p : Product) : Option State :=
  let e := (s.allowedEngines p).headD (8 * p.camp)
  let r : Rect := { row := 0, rows := p.m, col := 0, cols := p.n }
  let d := s.drainBlock e p r (List.replicate (p.m * p.n) 0)
  if d.code = 1 then none
  else
    let s1 := d.s.mapProduct p.uid fun q => { q with wrote := d.wrote, todo := [] }
    if d.code = 0 then some s1
    else some ((s1.memEvent p.pitch d.code d.addr).productFaulted { p with wrote := d.wrote } d.code)

/-- A product begins its work: its blocks are dealt, or it drains at once. -/
def State.startProduct (s : State) (p : Product) : Option State :=
  if p.todo = [] then some (s.setFlight p.uid fun f => { f with left := 0, done := true })
  else if p.k = 0 ∧ !p.carryIn then s.drainZero p
  else some (s.settleCamp p.camp)

end Sys2Proof.Machine
end

