-- ==== Sys2Proof/Machine/Log.lean ====
section
/-! DEFINITION. The logbook (R445-R451): making an entry, the chain of digests, checkpoints, log-ahead entries. -/
namespace Sys2Proof.Machine

open Sys2Proof

/-- The ACTOR codes. -/
def actorLantern : Nat := 3
def actorFirmware : Nat := 4
def actorSecurity : Nat := 5

/-- A pitch's TENANCY. -/
def State.tenancy (s : State) (p : Nat) : Nat := if p = 0 then 0 else s.fld Reg.SEC_PITCH_CTL_TENANCY p

/-- The 64 header bytes of an entry with REDACTED 0 (R446). -/
def LogEntry.header (e : LogEntry) (prev : Nat) : Bytes :=
  toBytes 64 (1 ||| e.pitch <<< 32 ||| e.actor <<< 40 ||| e.kind <<< 48 ||| e.tod <<< 64 ||| e.session <<< 128 ||| e.tenancy <<< 160
    ||| e.seq <<< 192 ||| prev <<< 256)

/-- The kind of a checkpoint. -/
def logCheckpoint : Nat := 0x0010

/-- The 192 body bytes of an entry (R448, R450; log 22): a checkpoint's are laid out by the manual, the others' fields are not. -/
def LogEntry.bodyBytes (e : LogEntry) (prev : Nat) : Bytes :=
  if e.kind = logCheckpoint then
    let rest := toBytes 4 (e.body.getD 0 0) ++ toBytes 32 (e.body.getD 1 0) ++ toBytes 42 0
    identitySign (ascii "PL480LOG") (e.header prev ++ rest) ++ rest
  else toBytes 192 (Config.logBody e.kind e.body)

/-- The chain digest of an entry (R448). -/
def LogEntry.digest (e : LogEntry) (prev : Nat) : Nat :=
  ofBytes (shake256 (ascii "PL480LOG" ++ e.header prev ++ shake256 (e.bodyBytes prev) 32) 32)

/-- The chain digest after a run of entries, newest first, from the one before them. -/
def chainOf (base : Nat) : List LogEntry → Nat
  | [] => base
  | e :: rest => e.digest (chainOf base rest)

/-- SEC_LOG_HEAD (R448). -/
def State.logHead (s : State) : Nat := chainOf s.sec.log.base s.sec.log.entries

/-- The number of the next entry. -/
def State.logSeq (s : State) : Nat := s.fld Reg.SEC_LOG_SEQ_SEQ

/-- SEC_FUSE as a word (R456). -/
def State.fuseWord (s : State) : Nat := 
  s.fld Reg.SEC_FUSE_TRANSFERS ||| s.fld Reg.SEC_FUSE_UNLOCKS <<< 8 ||| s.fld Reg.SEC_FUSE_FLOOR <<< 16 ||| s.fld Reg.SEC_FUSE_UNSEALS <<< 24

/-- SHAKE256 of the eight measurement registers. -/
def State.measDigest (s : State) : Nat :=
  ofBytes (shake256 ((List.range 8).flatMap fun i => toBytes 32 (s.fld Reg.SEC_MEAS_VALUE 0 i)) 32)

/-- How many entries the flash holds, and how many an erase frees (R446, R451). -/
def logCap : Nat := 262144
/-- How many entries one erase frees. -/
def logBlock : Nat := 4096

/-- An entry chained as the newest. -/
def State.chain (s : State) (e : LogEntry) : State :=
  ({ s with sec := { s.sec with log := { s.sec.log with entries := e :: s.sec.log.entries } } } : State).setFld Reg.SEC_LOG_SEQ_SEQ (e.seq + 1)

/-- The checkpoint that a full flash asks for when none is newer than its oldest block (R451). -/
def State.trimCheckpoint (s : State) : State :=
  let n := s.logSeq
  (s.chain { seq := n, kind := logCheckpoint, actor := actorSecurity, pitch := 0, tenancy := 0, session := 0, tod := 0
             body := [s.fuseWord, s.measDigest] }).event Code.SEC_LOG_CHECKPOINT 0 (locHarbour 0x0A) (atBytes [(4, n)])

/-- The oldest block erased (R451). -/
def State.eraseBlock (s : State) (keep : Nat) : State :=
  let es := s.sec.log.entries
  let oldest := s.fld Reg.SEC_LOG_OLDEST_SEQ + logBlock
  (({ s with sec := { s.sec with log := { s.sec.log with entries := es.take keep, base := chainOf s.sec.log.base (es.drop keep) } } } : State).setFld
    Reg.SEC_LOG_OLDEST_SEQ oldest).event Code.SEC_LOG_WRAPPED 0 (locHarbour 0x0A) (atBytes [(4, oldest)])

/-- A full flash loses its oldest block, once a newer checkpoint is retained (R451). -/
def State.logTrim (s : State) : State :=
  let es := s.sec.log.entries
  let keep := es.length - logBlock
  if es.length < logCap then s
  else if (es.take keep).any fun e => decide (e.kind = logCheckpoint) then s.eraseBlock keep
  else s.trimCheckpoint.eraseBlock (keep + 1)

/-- An entry numbered and chained; `ahead` keeps it out of the buffer. -/
def State.addEntry (s : State) (ahead : Bool) (kind actor pitch tenancy session tod : Nat) (body : List Nat) : State :=
  let s0 := s.logTrim
  let n := s0.logSeq
  let e : LogEntry := { seq := n, kind := kind, actor := actor, pitch := pitch, tenancy := tenancy, session := session, tod := tod, body := body }
  ({ s0 with sec := { s0.sec with log := { s0.sec.log with
      buffered := if ahead then s0.sec.log.buffered else s0.sec.log.buffered ++ [n] } } } : State).chain e

/-- A CHECKPOINT entry (R448). -/
def State.checkpoint (s : State) (ahead : Bool) (actor session tod : Nat) : State :=
  (s.addEntry ahead logCheckpoint actor 0 0 session tod [s.fuseWord, s.measDigest]).event Code.SEC_LOG_CHECKPOINT 0 (locHarbour 0x0A)
    (atBytes [(4, s.logTrim.logSeq)])

/-- The checkpoint that comes before an entry whose number would be a multiple of 256 (R448). -/
def State.dueCheckpoint (s : State) : State := if s.logSeq % 256 = 0 then s.checkpoint true actorSecurity 0 0 else s

/-- Whether the buffer has no room (R447). -/
def State.logFull (s : State) : Bool := decide (1024 ≤ s.sec.log.buffered.length)

/-- An entry of a kind that is not log-ahead, numbered now (log 106). -/
def State.logNow (s : State) (kind actor pitch session tod : Nat) (body : List Nat) : State :=
  s.dueCheckpoint.addEntry false kind actor pitch (s.tenancy pitch) session tod body

/-- An entry of a kind that is not log-ahead: made now, or as soon as the buffer has room (R447). -/
def State.log (s : State) (kind actor pitch session tod : Nat) (body : List Nat) : State :=
  if s.logFull ∨ s.sec.log.later ≠ [] then
    { s with sec := { s.sec with log := { s.sec.log with later := s.sec.log.later ++
      [{ seq := 0, kind := kind, actor := actor, pitch := pitch, tenancy := 0, session := session, tod := tod, body := body }] } } }
  else s.logNow kind actor pitch session tod body

/-- Entries that waited are made while the buffer has room. -/
def State.logPump : Nat → State → State
  | 0, s => s
  | fuel + 1, s =>
    match s.sec.log.later with
    | [] => s
    | e :: rest =>
      if s.logFull then s
      else
        let s1 : State := { s with sec := { s.sec with log := { s.sec.log with later := rest } } }
        State.logPump fuel (s1.logNow e.kind e.actor e.pitch e.session e.tod e.body)

/-- A log-ahead entry with its change, which takes effect once it has reached flash (R445, R447). -/
def State.logAhead (s : State) (kind actor pitch tenancy session tod : Nat) (body : List Nat) (c : Change)
    (reply : Option (Nat × Nat × Nat)) : State :=
  let s1 := s.dueCheckpoint
  let s2 := s1.addEntry true kind actor pitch tenancy session tod body
  { s2 with sec := { s2.sec with log := { s2.sec.log with ahead := s2.sec.log.ahead ++ [{ seq := s1.logTrim.logSeq, change := c, reply := reply }] } } }

/-- An entry of the Lantern. -/
def State.logLantern (s : State) (body : List Nat) : State := s.log 0x0070 actorLantern 0 0 0 body

/-! Changes of power state (R418). -/

/-- The DETAIL of a power event (R428). -/
def pwrDetail (value point cause step : Nat) : Nat := atBytes [(0, value % 2 ^ 32), (4, point), (6, cause), (7, step)]

/-- Where the Lantern's events lie (R428). -/
def locLantern : Nat := locHarbour 0x0B

/-- The module's power state (R418). -/
def State.powerState (s : State) : Nat := s.fld Reg.LNT_STATUS_STATE

/-- A change of power state, with its event (R418) and its logbook entry (R422, log 84). -/
def State.enterState (s : State) (st : Nat) : State :=
  ((s.countersRun.setFld Reg.LNT_STATUS_STATE st).event Code.POWER_STATE_CHANGED 0 locLantern (pwrDetail 0 0 st 0)).logLantern [0, st]

/-- IDLE ends: by a command that names a camp or a remote signal (R418, log 110). -/
def State.wake (s : State) : State := if s.powerState = 1 then s.enterState 0 else s

end Sys2Proof.Machine
end

