-- ==== Sys2Proof/Machine/Mailbox.lean ====
section
/-! DEFINITION. The mailbox's answers (R369-R376, R380, R381, R394): sessions by number, datagrams out, replies given at once or
later, and the end of a session. -/
namespace Sys2Proof.Machine

open Sys2Proof

/-- What a number that names no session reads as. -/
def Session.closed : Session :=
  { role := 3, pitch := 0, cred := 0, keys := 0, ctrTop := 0, ctrSeen := [], ctrOut := 0, ctrProxy := 0, next := 0, run := 0
    early := [], held := [], waiting := none, done := [], port := 0, addr := 0, udp := 0 }

/-- An open session. -/
def State.session (s : State) (n : Nat) : Option Session :=
  let x := sget .closed s.host.sessions n
  if x.role = 3 then none else some x

/-- The state with a session set. -/
def State.setSession (s : State) (n : Nat) (x : Session) : State :=
  { s with host := { s.host with sessions := sset .closed s.host.sessions n x } }

/-- Whether the Lantern serves the mailbox (R380, R382). -/
def State.lanternServes (s : State) : Bool := s.fld Reg.MBX_STATUS_SERVER != 0

/-- The bytes of a datagram's frame outside its DZMP message: Ethernet header and check sequence, IPv6 and UDP (log 23). -/
def frameOverhead : Nat := 66

/-- The TYPE codes of R370. -/
def typeAck : Nat := 2
/-- REPLY. -/
def typeReply : Nat := 3
/-- BUSY. -/
def typeBusy : Nat := 4

/-- The UDP port of DZMP on the PL-480 (R369). -/
def dzmpPort : Nat := 48480

/-- The low 64 bits of a header: MAGIC 0x445A, VERSION 1, TYPE and PROXY, everything else zero (R370). -/
def dzmpHead (type : Nat) (proxy : Bool) : Nat := type <<< 52 ||| ofBool proxy <<< 49 ||| 0x445A <<< 16 ||| 1 <<< 8

/-- The 40 bytes of a header from the device, where TOD is 0 (R370). -/
def dzmpHeader (type : Nat) (proxy : Bool) (session seq opcode status retry ctr len : Nat) : Bytes :=
  toBytes 40 (ctr <<< 192 ||| seq <<< 160 ||| session <<< 128 ||| status <<< 112 ||| opcode <<< 96 ||| retry <<< 80 ||| len <<< 64
    ||| dzmpHead type proxy)

/-- The nonce of a message (R372): SESSION, a direction bit, CTR, the first named highest, held little-endian (log 126). -/
def dzmpNonce (session : Nat) (fromDevice : Bool) (ctr : Nat) : Bytes :=
  toBytes 12 (session <<< 64 ||| ofBool fromDevice <<< 63 ||| ctr % 2 ^ 63)

/-- The keys of a session (R373): from the host, from the device, the Lantern proxy's, in this order in its 96 bytes. -/
def Session.key (x : Session) (i : Nat) : Bytes := ((toBytes 96 x.keys).drop (32 * i)).take 32

/-- The bytes of a datagram's UDP payload as it leaves (R369, R370, R372): the header, the body and its tag under the sender's key; in the
opening exchange, in session 0, the plain body. -/
def Session.datagram (x : Session) : Out → Bytes
  | .dgram _ _ _ type proxy session seq opcode status retry ctr body =>
    let h := dzmpHeader type proxy session seq opcode status retry ctr body.length
    h ++ (if session = 0 then body else gcmSeal (x.key (if proxy then 2 else 1)) (dzmpNonce session true ctr) h body)
  | _ => []

/-- A DZMP datagram leaves a host port for an address and UDP port (R369, R370); `tag` tells a tagged message. -/
def State.sendDgram (s : State) (port addr udp type session seq opcode status retry ctr : Nat) (proxy tag : Bool) (body : Bytes) : State :=
  (s.accum Reg.HE_TX_BYTES (frameOverhead + 40 + body.length + (if tag then 16 else 0)) (36 + port)).send
    (.dgram port addr udp type proxy session seq opcode status retry ctr body)

/-- Whether a host port is up. -/
def State.hostIsUp (s : State) (n : Nat) : Bool := s.fld Reg.HE_STATUS_STATE (36 + n) == 2

/-- The port that an answer leaves by (R368): where its session's latest request came in, or the other one while that is down. -/
def State.outPort (s : State) (n : Nat) : Option Nat := [n, 1 - n].find? s.hostIsUp

/-- The DETAIL of a mailbox event (R394). -/
def mbxDetail (session seq opcode addr : Nat) : Nat := atBytes [(0, session), (4, seq), (8, opcode), (10, addr % 2 ^ 48)]

/-- The location of a mailbox event (R394). -/
def locMbx (port : Nat) : Nat := locHarbour (if port = 1 then 7 else 6)

/-- A session ends (R375): its event, its windows closed, its commands' replies discarded. -/
def State.endSession (s : State) (n : Nat) : State :=
  match s.session n with
  | none => s
  | some x =>
    let s1 := s.setSession n .closed
    ({ s1 with host := { s1.host with
        windows := s1.host.windows.filter fun w => decide (w.2.session ≠ n)
        waits := s1.host.waits.filter fun w => decide (w.session ≠ n) } } : State).event Code.MBX_SESSION_ENDED x.pitch (locMbx x.port)
      (mbxDetail n 0 0 x.addr)

/-- The highest counter of a session (R372). -/
def ctrLimit : Nat := 2 ^ 63 - 1

/-- A message of a session leaves for where its latest request came from (R368), under the counter of Dzisia or of the proxy (R372, R380); a
counter at its limit ends the session instead, and with both ports down nothing leaves. -/
def State.sessionSend (s : State) (n : Nat) (proxy : Bool) (type seq opcode status retry : Nat) (body : Bytes) : State :=
  match s.session n with
  | none => s
  | some x =>
    let ctr := (if proxy then x.ctrProxy else x.ctrOut) + 1
    if ctrLimit < ctr then s.endSession n
    else match s.outPort x.port with
    | none => s
    | some port =>
      (s.setSession n (if proxy then { x with ctrProxy := ctr } else { x with ctrOut := ctr })).sendDgram port x.addr x.udp type n seq opcode
        status retry ctr proxy true body

/-- An answer of a session, from whichever of the two serves. -/
def State.answerSession (s : State) (n type seq opcode status retry : Nat) (body : Bytes) : State :=
  s.sessionSend n s.lanternServes type seq opcode status retry body

/-- The REPLY of the request that a session is executing (R376, R392): kept for duplicates, and the next SEQ may execute. A reply of
a session that has ended is discarded. -/
def State.reply (s : State) (n seq opcode status : Nat) (body : Bytes) : State :=
  match s.session n with
  | none => s
  | some x =>
    if x.waiting ≠ some (seq, opcode) then s
    else
      (s.setSession n { x with
        waiting := none, run := (x.run + 1) % 2 ^ 32
        done := ({ seq := seq, opcode := opcode, status := status, body := body } :: x.done).take 64 }).answerSession n typeReply seq opcode
          status 0 body

/-- The deferred replies that wait for something are given, each with the status and body that `f` makes. -/
def State.replyWaits (s : State) (on : WaitOn) (status : Nat) (body : State → Bytes) : State :=
  let mine := s.host.waits.filter fun w => decide (w.on = on)
  let s1 : State := { s with host := { s.host with waits := s.host.waits.filter fun w => decide (w.on ≠ on) } }
  mine.foldl (fun t w => t.reply w.session w.seq w.opcode status (body t)) s1

/-- The executing request of a session waits for something (a deferred reply); an ACK has told of it. -/
def State.deferReply (s : State) (n seq opcode tod : Nat) (on : WaitOn) : State :=
  { s with host := { s.host with waits := s.host.waits ++ [{ session := n, seq := seq, opcode := opcode, tod := tod, on := on }] } }

/-- Every session that a test names ends, in ascending order. -/
def State.endSessions (s : State) (f : Session → Bool) : State :=
  ((s.host.sessions.filter fun e => f e.2).map (·.1)).foldl State.endSession s

end Sys2Proof.Machine
end

