-- ==== Sys2Proof/Machine/Peg.lean ====
section
/-! DEFINITION. The Xpeg instructions of the Peg cores (R271-R275) and the store to a tally's LIMIT (R278). Source operands
arrive as the values that the core's base instructions left in them (log 10). -/
namespace Sys2Proof.Machine

open Sys2Proof

/-- Exception causes of the base architecture (log 11). -/
def causeIllegal : Nat := 2
def causeLoad : Nat := 5
def causeStore : Nat := 7

/-- The pitch of a core. -/
def State.pegPitch (s : State) (core : Nat) : Nat := s.campPitch (core / 4)

/-- Whether a core can execute an instruction: its camp runs, and it is not blocked in one. -/
def State.pegRuns (s : State) (core : Nat) : Bool := s.campRuns (core / 4) && (s.peg core).block.isNone

/-- A core takes an exception: the instruction does not retire. -/
def State.pegTrap (s : State) (core cause value : Nat) : State :=
  s.setPeg core { s.peg core with trap := cause, trapValue := value }

/-- A core's register is written. -/
def State.pegSet (s : State) (core rd v : Nat) : State := s.setPeg core ((s.peg core).setReg rd v)

/-- An access fault: the event of R38 in the pitch, and the exception. -/
def State.pegFault (s : State) (core cause a : Nat) : State :=
  (s.memEvent (s.pegPitch core) Code.ADDRESS_RESERVED a).pegTrap core cause a

/-- The camp and number of the tally that an operand names, when the pitch maps a whole tally there (R273). -/
def State.pegTally (s : State) (core : Nat) (rs1 : BitVec 64) : Option (Nat × Nat) :=
  if rs1.getLsbD 60 then none
  else match translate (s.mapOf (s.pegPitch core)) (bits rs1.toNat 47 0) with
  | none => none
  | some l =>
    match region l with
    | .tally c off => if off < 2 ^ 13 ∧ off % 8 = 0 then some (c, off / 8) else none
    | _ => none

/-- The issuer code of a core in its camp (R306). -/
def pegIssuer (core : Nat) : Nat := 4 + core % 4

/-- A core's stores or atomics outstanding toward a target change. -/
def PegRec.count (x : PegRec) (target : Nat) (up : Bool) : PegRec :=
  let n := sget 0 x.outstanding target
  { x with outstanding := sset 0 x.outstanding target (if up then n + 1 else n - 1) }

/-- Whether stores or atomics of a core are not yet acknowledged, here or at another device; its remote signals are none. -/
def State.pegStores (s : State) (core : Nat) : Bool :=
  sget 0 (s.peg core).outstanding 4096 != 0 || s.fab.reqs.any fun r => decide (r.origin = .peg core ∧ r.pkt.kind ≠ kindSignal)

/-- PL_SIG (R272, R296): an amount added to a tally here, once every earlier store is acknowledged, or sent as a signal to another
device. -/
def execPlSig (core : PegCore) (rs1 rs2 : BitVec 64) (s : State) : Host.Outcome State Fault Refusal :=
  let amount := bits rs2.toNat 31 0
  if !s.pegRuns core.val then .next s
  else if rs1.getLsbD 60 then
    if amount = 0 then .next s
    else
      let p := s.pegPitch core.val
      let dev := bits rs1.toNat 59 48
      .next ((s.setPeg core.val ((s.peg core.val).count dev true)).request
        { blankPacket with kind := kindSignal, pitch := p, job := (s.job p).num, dst := dev, addr := bits rs1.toNat 47 0,
                           body := toBytes 4 amount } (.peg core.val))
  else match s.pegTally core.val rs1 with
  | none => .next (s.pegFault core.val causeStore (bits rs1.toNat 47 0))
  | some (c, t) =>
    if s.pegStores core.val then .next s
    else
      let (code, s1) := s.tallyAdd c t amount (pegIssuer core.val) (core.val / 4) 0
      .next (if code ≠ 0 then s1.pegTrap core.val causeStore (bits rs1.toNat 47 0) else s1)

/-- PL_WAIT (R272, R279, R280): it joins the tally's queue and blocks until it is served. -/
def execPlWait (core : PegCore) (rd : Fin 32) (rs1 rs2 : BitVec 64) (s : State) : Host.Outcome State Fault Refusal :=
  let amount := bits rs2.toNat 31 0
  if !s.pegRuns core.val then .next s
  else match s.pegTally core.val rs1 with
  | none => .next (s.pegFault core.val causeStore (bits rs1.toNat 47 0))
  | some (c, t) =>
    if amount = 0 then .next (s.pegSet core.val rd.val 0)
    else
      let s1 := s.setPeg core.val { s.peg core.val with block := some (.wait rd.val c t amount) }
      let (code, s2) := s1.tallyWait c t amount (.peg core.val)
      .next (if code ≠ 0 then
        (s2.setPeg core.val { s2.peg core.val with block := none }).pegTrap core.val causeStore (bits rs1.toNat 47 0) else s2)

/-- PL_TRYWAIT (R272, R279): one attempt; rd is 0 when it subtracted and 1 when nothing changed. -/
def execPlTrywait (core : PegCore) (rd : Fin 32) (rs1 rs2 : BitVec 64) (s : State) : Host.Outcome State Fault Refusal :=
  let amount := bits rs2.toNat 31 0
  if !s.pegRuns core.val then .next s
  else match s.pegTally core.val rs1 with
  | none => .next (s.pegFault core.val causeStore (bits rs1.toNat 47 0))
  | some (c, t) =>
    if amount = 0 then .next (s.pegSet core.val rd.val 0)
    else if !s.tallyReachable c then
      .next ((s.tallyFault Code.TALLY_UNREACHABLE c t amount (pegIssuer core.val) (core.val / 4) 0).pegTrap core.val causeStore
        (bits rs1.toNat 47 0))
    else
      let y := s.tally c t
      if s.sync.waits.all (fun w => !decide (w.camp = c ∧ w.tally = t)) ∧ amount ≤ y.count then
        .next (((s.setTally c t { y with count := y.count - amount }).accum Reg.TAL_OPS 1 c).pegSet core.val rd.val 0)
      else .next ((s.accum Reg.TAL_OPS 1 c).pegSet core.val rd.val 1)

/-- PL_TAKE (R272, R279): an amount subtracted at once. -/
def execPlTake (core : PegCore) (rs1 rs2 : BitVec 64) (s : State) : Host.Outcome State Fault Refusal :=
  if !s.pegRuns core.val then .next s
  else match s.pegTally core.val rs1 with
  | none => .next (s.pegFault core.val causeStore (bits rs1.toNat 47 0))
  | some (c, t) =>
    let (code, s1) := s.tallyTake c t (bits rs2.toNat 31 0) (pegIssuer core.val) (core.val / 4)
    .next (if code ≠ 0 then s1.pegTrap core.val causeStore (bits rs1.toNat 47 0) else s1)

/-- PL_TREAD (R272, R273, R279, R282): rd is the tally's count. -/
def execPlTread (core : PegCore) (rd : Fin 32) (rs1 : BitVec 64) (s : State) : Host.Outcome State Fault Refusal :=
  if !s.pegRuns core.val then .next s
  else match s.pegTally core.val rs1 with
  | none => .next (s.pegFault core.val causeLoad (bits rs1.toNat 47 0))
  | some (c, t) =>
    if s.tallyReachable c then .next ((s.accum Reg.TAL_OPS 1 c).pegSet core.val rd.val (s.tally c t).count)
    else
      .next ((s.tallyFault Code.TALLY_UNREACHABLE c t 0 (pegIssuer core.val) (core.val / 4) 0).pegTrap core.val causeStore
        (bits rs1.toNat 47 0))

/-- A core waits at a guyline for a round. -/
def State.pegWaitsAt (s : State) (core rd g round : Nat) : State :=
  let s1 := s.setPeg core { s.peg core with block := some (.bar rd g) }
  { s1 with sync := { s1.sync with guyWaits := s1.sync.guyWaits ++ [{ guy := g, agent := .peg core, round := round }] } }

/-- PL_BAR (R272, R274, R287): it arrives, unless its own arrival there is pending, and blocks until the round's
release. -/
def execPlBar (core : PegCore) (rd : Fin 32) (rs1 : BitVec 64) (s : State) : Host.Outcome State Fault Refusal :=
  let g := bits rs1.toNat 4 0
  if !s.pegRuns core.val then .next s
  else match (s.peg core.val).arrivals.find? fun x => decide (x.1 = g) with
  | some (_, round) => .next (s.pegWaitsAt core.val rd.val g round)
  | none =>
    let (code, round, s1) := s.arrive g (.peg core.val) (rs1.getLsbD 8)
    if code ≠ 0 then .next (s1.pegTrap core.val causeStore 0)
    else
      let x := s1.peg core.val
      .next ((s1.setPeg core.val { x with arrivals := x.arrivals ++ [(g, round)] }).pegWaitsAt core.val rd.val g round)

/-- The result of a completed pl.wfence: 1 when something toward the target ended in error, which it reports once. -/
def PegRec.fenceDone (x : PegRec) (rd target : Nat) : PegRec :=
  { (x.retire rd (ofBool (decide (target ∈ x.failed)))) with failed := x.failed.filter (· ≠ target) }

/-- PL_WFENCE (R272, R274): it blocks until everything outstanding toward its target is acknowledged. -/
def execPlWfence (core : PegCore) (rd : Fin 32) (rs1 : BitVec 64) (s : State) : Host.Outcome State Fault Refusal :=
  let target := if rs1.getLsbD 12 then 4096 else bits rs1.toNat 11 0
  if !s.pegRuns core.val then .next s
  else
    let x := s.peg core.val
    if sget 0 x.outstanding target = 0 then .next (s.setPeg core.val (x.fenceDone rd.val target))
    else .next (s.setPeg core.val { x with block := some (.wfence rd.val target) })

/-- The slot that an operand names: camp in [7:4], slot in [1:0]. -/
def slotOperand (v : Nat) : Nat := bits v 7 4 * 4 + bits v 1 0

/-- PL_START (R272, R275): a start record submitted to a slot's queue; rd tells the outcome. -/
def execPlStart (core : PegCore) (rd : Fin 32) (rs1 rs2 : BitVec 64) (s : State) : Host.Outcome State Fault Refusal :=
  let p := s.pegPitch core.val
  let a := bits rs1.toNat 47 0
  if !s.pegRuns core.val then .next s
  else match s.readNum p (s.mapOf p) a 32 with
  | .wait => .next s
  | .err code l => .next ((s.memEvent p code l).pegTrap core.val causeStore a)
  | .ok w =>
    let k := slotOperand rs2.toNat
    if !(s.mapOf p).camps.testBit (k / 4) then .next (s.pegSet core.val rd.val 3)
    else
      let (status, s1) := s.submit (s.slotFor (k / 4) (k % 4)) w
      .next (s1.pegSet core.val rd.val status)

/-- STR_STATUS of a slot (R190). -/
def State.strStatus (s : State) (k : Nat) : Nat :=
  let x := s.slot k
  x.state ||| ofBool x.chain.isSome <<< 3 ||| x.queue.length <<< 4 ||| x.allFlights.length <<< 8

/-- PL_SSTAT (R272): a slot's status and position; of a camp outside the pitch, a free value (log 18). -/
def execPlSstat (core : PegCore) (rd : Fin 32) (rs1 : BitVec 64) (s : State) : Host.Outcome State Fault Refusal :=
  let k := slotOperand rs1.toNat
  if !s.pegRuns core.val then .next s
  else if (s.mapOf (s.pegPitch core.val)).camps.testBit (k / 4) then
    .next (s.pegSet core.val rd.val (s.strStatus (s.slotFor (k / 4) (k % 4)) ||| (s.slot (s.slotFor (k / 4) (k % 4))).oldest <<< 32))
  else
    let (v, s1) := s.draw (2 ^ 64)
    .next (s1.pegSet core.val rd.val v)

/-- PL_BF16 (R272): FP32 to BF16 by RNE, with the canonical NaN. -/
def execPlBf16 (core : PegCore) (rd : Fin 32) (rs1 : BitVec 64) (s : State) : Host.Outcome State Fault Refusal :=
  if !s.pegRuns core.val then .next s else .next (s.pegSet core.val rd.val (convert fp32 bf16 (bits rs1.toNat 31 0)))

/-- The E2M1 code of a quotient, or none where the quotient is not a number (R59, R44). -/
def e2m1Quotient (x y : Num) : Option Nat :=
  match x, y with
  | .fin nx mx ex, .fin ny my ey =>
    if my = 0 then (if mx = 0 then none else some (if nx != ny then 15 else 7))
    else
      let e := ex - ey
      some (quantElem 0 (nx != ny) (mx * 2 ^ e.toNat) (my * 2 ^ (-e).toNat)).1
  | .inf nx, .fin ny _ _ => some (if nx != ny then 15 else 7)
  | .fin .., .inf _ => some 0
  | _, _ => none

/-- PL_E2M1 (R272): the E2M1 code of a quotient of FP32 values; of a quotient that is not a number, a free code (log
18). -/
def execPlE2m1 (core : PegCore) (rd : Fin 32) (rs1 rs2 : BitVec 64) (s : State) : Host.Outcome State Fault Refusal :=
  if !s.pegRuns core.val then .next s
  else match e2m1Quotient (fp32.decode (bits rs1.toNat 31 0)) (fp32.decode (bits rs2.toNat 31 0)) with
  | some c => .next (s.pegSet core.val rd.val c)
  | none =>
    let (v, s1) := s.draw 16
    .next (s1.pegSet core.val rd.val v)

/-- PL_SPD (R272, R479, R484): half of the Spindrift output of the tenant stream; without a key an illegal
instruction. -/
def execPlSpd (core : PegCore) (rd : Fin 32) (high : Bool) (rs1 rs2 : BitVec 64) (s : State) : Host.Outcome State Fault Refusal :=
  if !s.pegRuns core.val then .next s
  else match (s.pitchRec (s.pegPitch core.val)).spdKey with
  | none => .next (s.pegTrap core.val causeIllegal 0)
  | some key =>
    let y := spindrift key 0x0100 (rs1.toNat + rs2.toNat * 2 ^ 64)
    .next (s.pegSet core.val rd.val (if high then bits y 127 64 else bits y 63 0))

/-- Whether a word is one that the table of R272 lists, with its must-be-zero fields zero. -/
def xpegListed (w : Nat) : Bool := (xpegInstr 0 0 0 w).isSome

/-- Whether a word lies in the opcodes of Xpeg, the unused custom-3 among them (R271). -/
def xpegOpcode (w : Nat) : Bool := decide (bits w 6 0 ∈ [custom0, custom1, custom2, 0b1111011])

/-- XPEG_ILLEGAL_INSTRUCTION (R271): an unlisted encoding raises an illegal-instruction exception. -/
def execXpegIllegalInstruction (core : PegCore) (word : BitVec 32) (s : State) : Host.Outcome State Fault Refusal :=
  if s.pegRuns core.val ∧ xpegOpcode word.toNat ∧ !xpegListed word.toNat then
    .next (s.pegTrap core.val causeIllegal word.toNat)
  else .next s

/-- A core leaves what it waits for: its place in a queue or at a guyline, but never its pending arrival (R274, R280). -/
def State.pegLeaves (s : State) (core : Nat) : State :=
  let s1 := s.leaveQueue (.peg core)
  { s1 with sync := { s1.sync with
    guyWaits := s1.sync.guyWaits.filter (fun w => decide (w.agent ≠ .peg core))
    longWaits := s1.sync.longWaits.filter (· ≠ .peg core) } }

/-- The block limit in vector cycles that WAIT_LOG2 of xpegwait sets: values below 20 act as 20 (R274). -/
def blockLimit (waitLog : Nat) : Nat := 2 ^ max 20 waitLog

/-- PEG_BLOCK_TIMEOUT (R274): with xpegwait as the core's program left it, an instruction blocked for its limit gives up with rd 1
(log 10, 48). -/
def execPegBlockTimeout (core : PegCore) (s0 : State) (waitLog : BitVec 5 := 30) (cycles : BitVec 32 := 0x40000000) :
    Host.Outcome State Fault Refusal :=
  if s0.campsGated then .next s0 else
  let s := s0.setPeg core.val { s0.peg core.val with waitLog := waitLog.toNat }
  match (s.peg core.val).block with
  | none => .next s
  | some b =>
    if cycles.toNat < blockLimit (s.peg core.val).waitLog then .next s
    else
    let rd := match b with
      | .wait rd .. => rd
      | .bar rd _ => rd
      | .wfence rd _ => rd
    let s1 := s.setPeg core.val ((s.peg core.val).retire rd 1)
    .next (s1.pegLeaves core.val)

/-- PEG_BLOCK_INTERRUPT (R274): a pending enabled interrupt ends the block; the instruction does not retire. -/
def execPegBlockInterrupt (core : PegCore) (s : State) : Host.Outcome State Fault Refusal :=
  if s.campsGated then .next s else
  match (s.peg core.val).block with
  | none => .next s
  | some _ => .next ((s.setPeg core.val { s.peg core.val with block := none }).pegLeaves core.val)

/-- TALLY_LIMIT_STORE (R278): a 4-byte store to a tally's LIMIT takes effect, or is refused. -/
def execTallyLimitStore (core : PegCore) (addr : BitVec 48) (value : BitVec 32) (s : State) : Host.Outcome State Fault Refusal :=
  let a := addr.toNat
  if !s.pegRuns core.val then .next s
  else match (translate (s.mapOf (s.pegPitch core.val)) a).map region with
  | some (.tally c off) =>
    if off % 8 ≠ 4 ∨ 2 ^ 13 ≤ off then .next (s.pegFault core.val causeStore a)
    else
      let t := off / 8
      if !s.tallyReachable c then
        .next ((s.tallyFault Code.TALLY_UNREACHABLE c t value.toNat (pegIssuer core.val) (core.val / 4) 0).pegTrap core.val causeStore a)
      else if s.limitOk c t value.toNat then .next (s.setTally c t { s.tally c t with limit := value.toNat })
      else
        .next ((s.tallyFault Code.TALLY_LIMIT_INVALID c t value.toNat (pegIssuer core.val) (core.val / 4) 0).pegTrap core.val causeStore a)
  | _ => .next (s.pegFault core.val causeStore a)

end Sys2Proof.Machine
end

