-- ==== Sys2Proof/Machine/Ras.lean ====
section
/-! DEFINITION. The memory system's own happenings (chapter 11): Tideguard's outcomes, pin marks, retirement, the page
mover, retrains, re-forms, scrubs, Shelf banks and the traffic generators. -/
namespace Sys2Proof.Machine

open Sys2Proof

/-! Tideguard (R310). -/

/-- A product in GF(2^16) on x^16 + x^12 + x^3 + x + 1, `fuel` bits of `b` taken from the low end. -/
def gfMulFrom : Nat → Nat → Nat → Nat
  | 0, _, _ => 0
  | k + 1, a, b =>
    let a2 := if a < 2 ^ 15 then 2 * a else (2 * a) % 2 ^ 16 ^^^ 0x100B
    (if b % 2 = 1 then a else 0) ^^^ gfMulFrom k a2 (b / 2)

/-- The product of two field elements. -/
def gfMul (a b : Nat) : Nat := gfMulFrom 16 a b

/-- The generator's coefficients below x^4, lowest first: the product of (x - 1)(x - 2)(x - 4)(x - 8). -/
def tideguardGen : List Nat :=
  [1, 2, 4, 8].foldl (fun g r => (List.range (g.length)).map fun i =>
    (if i = 0 then 0 else g.getD (i - 1) 0) ^^^ gfMul r (g.getD i 0)) [1, 0, 0, 0, 0] |>.take 4

/-- The four check symbols of 32 data symbols, check symbol 0 first (R310): division by the generator, highest data
symbol first. -/
def tideguardChecks (data : List Nat) : List Nat :=
  data.reverse.foldl (fun r d =>
    let f := d ^^^ r.getD 3 0
    (List.range 4).map fun i => (if i = 0 then 0 else r.getD (i - 1) 0) ^^^ gfMul f (tideguardGen.getD i 0)) [0, 0, 0, 0]

/-- The 36 symbols of a line as stored: check symbols at positions 0-3, data symbols above (R310). -/
def encodeLine (stored : Nat) : List Nat :=
  let data := (List.range 32).map fun j => bits stored (16 * j + 15) (16 * j)
  tideguardChecks data ++ data

/-- The stored codeword of a line: the ciphertext of the plain line under the key that its page was last zeroed or copied under, and the
line's tweak (R314, log 124). -/
def State.codeword (s : State) (a : Nat) : List Nat :=
  encodeLine (ofBytes (xts (sget 0 s.ras.pageKeys (a / 2 ^ 21)) (a / 64) (readBytes s.mem (a / 64 * 64) 64)))

/-- A page's lines stand as ciphertext under a key from now on. -/
def State.keyPage (s : State) (page key : Nat) : State := { s with ras := { s.ras with pageKeys := sset 0 s.ras.pageKeys page key } }

/-! Pins and locations. -/

/-- The pin number that a mark names for a symbol position: 0-31 data, 32-35 check (R310, R333). -/
def symbolPin (pos : Nat) : Nat := if 4 ≤ pos then pos - 4 else 32 + pos

/-- The marked pins of a pseudo-channel. -/
def State.marks (s : State) (n : Nat) : List Nat :=
  (if s.fld Reg.HBM_PC_STATUS_MARK0_V n = 1 then [s.fld Reg.HBM_PC_STATUS_MARK0 n] else []) ++
  (if s.fld Reg.HBM_PC_STATUS_MARK1_V n = 1 then [s.fld Reg.HBM_PC_STATUS_MARK1 n] else [])

/-- How many further symbols a decoder corrects beside `m` marked pins (R311). -/
def tideguardReach (m : Nat) : Nat := if m = 0 then 2 else 1

/-- The record of a pseudo-channel in which nothing has happened. -/
def PcRec.empty : PcRec := { fails := 0, ceLog := [], pins := [], scrub := 0 }

/-- A pseudo-channel's record. -/
def State.pc (s : State) (n : Nat) : PcRec := sget .empty s.ras.pcs n

/-- The state with a pseudo-channel's record set. -/
def State.setPc (s : State) (n : Nat) (r : PcRec) : State :=
  { s with ras := { s.ras with pcs := sset .empty s.ras.pcs n r } }

/-- A count raised in a list of counts. -/
def countUp (k : Nat) : List (Nat × Nat) → List (Nat × Nat)
  | [] => [(k, 1)]
  | (a, c) :: rest => if a = k then (a, c + 1) :: rest else (a, c) :: countUp k rest

/-- The count of a key. -/
def countOf (k : Nat) (l : List (Nat × Nat)) : Nat := ((l.find? fun x => decide (x.1 = k)).map (·.2)).getD 0

/-- A line's location in its pseudo-channel: its slot's four codewords in order. -/
def State.codewordNo (s : State) (a : Nat) : Nat := (s.place a).2 * 4 + a / 64 % 4

/-- The address of a codeword of a live pseudo-channel. -/
def State.codewordAddr (s : State) (n cw : Nat) : Nat :=
  let c := (s.liveList.findIdx? (fun x => decide (x = n))).getD 0
  granuleAt (s.fld Reg.HBM_HASH_KEY_K0) (s.fld Reg.HBM_HASH_KEY_K1) (s.fld Reg.HBM_HASH_KEY_K2) s.liveN c (cw / 4) * 256 + 64 * (cw % 4)

/-- The corrected-location log with one more correction (R320): a full log loses the entry with the lowest count, the
oldest among equals. -/
def logLocation (line : Nat) (log : List (Nat × Nat)) : List (Nat × Nat) :=
  if log.any (fun x => decide (x.1 = line)) ∨ log.length < 64 then countUp line log
  else
    let low := log.foldl (fun m x => min m x.2) (log.headD (0, 0)).2
    match log.findIdx? (fun x => decide (x.2 = low)) with
    | some i => log.eraseIdx i ++ [(line, 1)]
    | none => log

/-! Re-forms (R324, R325). -/

/-- The page that holds a physical location, or none when its pseudo-channel is dead (R320). -/
def State.pageOfLocation (s : State) (loc : Nat × Nat) : Option Nat :=
  (s.liveList.findIdx? (fun n => decide (n = loc.1))).map fun c =>
    granuleAt (s.fld Reg.HBM_HASH_KEY_K0) (s.fld Reg.HBM_HASH_KEY_K1) (s.fld Reg.HBM_HASH_KEY_K2) s.liveN c loc.2 / 2 ^ 13

/-- The most pages that may be retired (R321, R333). -/
def State.retireMax (s : State) : Nat := min (s.fld Reg.HBM_RAS_CFG_RETIRE_MAX) 4096

/-- The pages that the flash list retires at the present width (R320, R321). -/
def State.flashPages (s : State) : List Nat := ((s.ras.flash.filterMap s.pageOfLocation).eraseDups).take s.retireMax

/-- Ascending pages dealt to owners in order, each taking its count; pages of `skip` become 0xE. The owner table, and
the dealing as (owner, page) pairs. -/
def dealPages (skip : List Nat) : List Nat → List (Nat × Nat) → Sparse Nat × List (Nat × Nat)
  | [], _ => ([], [])
  | p :: rest, want =>
    if p ∈ skip then
      let (o, d) := dealPages skip rest want
      ((p, 0xE) :: o, d)
    else
      match want.dropWhile (fun w => decide (w.2 = 0)) with
      | [] => dealPages skip rest []
      | (q, n) :: more =>
        let (o, d) := dealPages skip rest ((q, n - 1) :: more)
        ((p, q) :: o, (q, p) :: d)

/-- How many units a pitch gives up when `short` of `total` are missing (R325). -/
def giveUp (short total n : Nat) : Nat := if total = 0 then 0 else min n ((short * n + total - 1) / total)

/-- The location of a re-form event: the headland, or the package when both are involved (R336). -/
def reformLoc (dead : List Nat) : Nat :=
  if dead.any (fun n => decide (n < 256)) && dead.any (fun n => decide (256 ≤ n)) then locPackage
  else locHeadland (dead.headD 0 / 256)

/-- The pitches whose record satisfies a test, ascending. -/
def State.pitchesWith (s : State) (f : PitchRec → Bool) : List Nat := (List.range 9).filter fun p => f (s.pitchRec p)

/-- The state with a pitch's record set. -/
def State.setPitchRec (s : State) (p : Nat) (r : PitchRec) : State :=
  { s with sec := { s.sec with pitches := sset .empty s.sec.pitches p r } }

/-- A re-form begins: what each pitch has then is kept, so that deaths that join it share one shortfall (R324, R325). -/
def State.notePages (s : State) : State :=
  { s with ras := { s.ras with
    before := (List.range 9).map fun p => (p, (s.pitchRec p).map.pages.length, (s.pitchRec p).joiningPages.length) } }

/-- The pages that a pitch holds, mapped or joining. -/
def State.pageCount (s : State) (p : Nat) : Nat := (s.pitchRec p).map.pages.length + (s.pitchRec p).joiningPages.length

/-- Step 3 of R324: the page-owner table and every pitch's pages at the present L, from what each had as the re-form began; a pitch is
told once that it loses pages. -/
def State.rebuildPages (s : State) (loc : Nat) : State :=
  let skip := s.flashPages
  let counts := s.ras.before.map fun b => (b.1, b.2.1 + b.2.2)
  let total := counts.foldl (fun n c => n + c.2) 0
  let room := s.liveN * 512 - skip.length
  let short := total - room
  let want := counts.map fun c => (c.1, c.2 - giveUp short total c.2)
  let (owners, dealt) := dealPages skip (List.range (s.liveN * 512)) want
  let s1 : State := { s with ras := { s.ras with owners := owners } }
  s.ras.before.foldl (fun (t : State) (b : Nat × Nat × Nat) =>
    let r := t.pitchRec b.1
    let mine := (dealt.filter (fun d => decide (d.1 = b.1))).map (·.2)
    let t1 := t.setPitchRec b.1 { r with map := { r.map with pages := mine.take b.2.1 }, joiningPages := mine.drop b.2.1 }
    if mine.length < b.2.1 + b.2.2 ∧ s.pageCount b.1 = b.2.1 + b.2.2 then
      t1.event Code.MEM_PAGE_WITHDRAWN b.1 loc
        (atBytes [(0, mine.length), (10, s.liveN), (12, s.fld Reg.HBM_MAP_EPOCH)])
    else t1) (s1.setFld Reg.HBM_RETIRED skip.length)

/-- An access that ends with an error completion, whose event has been raised: the descriptor that made it faults with the code, a Peg
load or store takes its access fault (R315). -/
def State.failRequester (s : State) (who : Requester) (code a : Nat) : State :=
  match who with
  | .other => s
  | .descriptor k chain n =>
    match s.flightAt k.val chain n.val with
    | none => s
    | some f => s.setFlight f.uid fun g => { g with code := if g.code = 0 then toldCode + code else g.code }
  | .load core => s.pegTrap core.val causeLoad a
  | .store core => s.pegTrap core.val causeStore a

/-- A refused line access: its event in the pitch, and its error completion. -/
def State.refuseLine (s : State) (pitch code a sub : Nat) (who : Requester) : State :=
  ((s.event code pitch (s.locMem a) (s.memDetail a sub)).send (.line code 0)).failRequester who code a

/-- Every held access answered with one code, in order. -/
def State.answerHeld (s : State) (code : Nat) : State :=
  s.ras.held.foldl (fun t h => t.refuseLine h.pitch code (h.line * 64) 0 h.who) { s with ras := { s.ras with held := [] } }

/-- EPOCH as a new re-form raises it: the re-forms since start-up, so that one of the start itself is none (R333, R494). -/
def State.nextEpoch (s : State) (epoch width : Nat) : Nat :=
  if 2 ≤ s.fld Reg.STU_STATUS_PHASE ∧ s.fld Reg.STU_STATUS_PHASE ≤ 7 then 0 else (epoch + 1) % 2 ^ width

/-- A pseudo-channel becomes dead (R324): a re-form begins, or is joined. -/
def State.channelDead (s : State) (n : Nat) : State :=
  if !s.pcLive n then s
  else
    let dying := n :: s.ras.dying
    let loc := reformLoc dying
    let fresh := s.fld Reg.HBM_MAP_STATE ≠ 1
    let epoch := if fresh then s.nextEpoch (s.fld Reg.HBM_MAP_EPOCH) 16 else s.fld Reg.HBM_MAP_EPOCH
    let live := (s.fld Reg.HBM_LIVE_LIVE 0 (n / 32)) ^^^ 2 ^ (n % 32)
    let s1 := (((s.setFld Reg.HBM_PC_STATUS_STATE 2 n).setFld Reg.HBM_LIVE_LIVE live 0 (n / 32)).setFld
      Reg.HBM_MAP_LIVE_N (s.liveN - 1)).setFld Reg.HBM_MAP_EPOCH epoch
    let s2 := (s1.setFld Reg.HBM_MAP_STATE 1).event Code.HBM_CHANNEL_DEAD 0 (locPc n)
      (atBytes [(10, s.liveN - 1), (12, epoch)])
    let s3 := if fresh then
        (s.pitchesWith (fun r => !r.map.pages.isEmpty || !r.joiningPages.isEmpty)).foldl (fun t p =>
          t.event Code.MEM_REFORM_BEGIN p loc (atBytes [(10, s.liveN - 1), (12, epoch)])) s2
      else s2
    let s4 : State := { s3 with ras := { s3.ras with dying := dying, moving := none, retry := [], redirect := [] } }
    ((if fresh then s4.notePages else s4).answerHeld Code.MEM_REFORM).rebuildPages loc

/-- A pseudo-channel found dead by hardware: firmware's re-form begins, or is queued while a hand-off runs (R505). -/
def State.foundDead (s : State) (n : Nat) : State :=
  if s.boot.hand = 0 then s.channelDead n else { s with boot := { s.boot with putOff := s.boot.putOff ++ [.dead n] } }

/-! Retirement (R320, R321, R323). -/

/-- The lowest free page, if any. -/
def State.freePage (s : State) : Option Nat := (List.range (s.liveN * 512)).find? fun p => s.pageOwner p == 0xF

/-- A page's owner set. -/
def State.setOwner (s : State) (page owner : Nat) : State :=
  { s with ras := { s.ras with owners := sset 0xF s.ras.owners page owner } }

/-- MEM_RETIRE_FULL, once (R321). -/
def State.retireFull (s : State) (pc what sub : Nat) : State :=
  if s.ras.fullRaised then s
  else
    let s1 := s.event Code.MEM_RETIRE_FULL 0 (locPc pc) (atBytes [(0, what), (9, sub), (10, s.liveN), (12, s.fld Reg.HBM_MAP_EPOCH)])
    { s1 with ras := { s1.ras with fullRaised := true } }

/-- A page out of use recorded as retired, with its event; past the limit it is free instead and stays in service (R321). -/
def State.pageRetired (s : State) (page pitch sub : Nat) : State :=
  if s.retireMax ≤ s.fld Reg.HBM_RETIRED then s.setOwner page 0xF
  else
    let n := s.fld Reg.HBM_RETIRED + 1
    let pc := (s.place (page * 2 ^ 21)).1
    let s1 := ((s.setOwner page 0xE).setFld Reg.HBM_RETIRED n).event Code.MEM_PAGE_RETIRED pitch (locPc pc)
      (atBytes [(0, page), (9, sub), (10, s.liveN), (12, s.fld Reg.HBM_MAP_EPOCH)])
    if s.retireMax ≤ n then s1.retireFull pc page sub else s1

/-- Retirement of a page by its owner (R320), while the limit of R321 lets it: at once, by a move, or marked for its release. -/
def State.retirePage (s : State) (page sub : Nat) : State :=
  let owner := s.pageOwner page
  if s.retireMax ≤ s.fld Reg.HBM_RETIRED ∨ owner = 0xE ∨ page ∈ s.ras.marked ∨ page ∈ s.ras.retry ∨ (s.ras.moving.map (·.1)) = some page then s
  else if owner = 0xF then s.pageRetired page 0 sub
  else match s.freePage with
  | none => { s with ras := { s.ras with marked := page :: s.ras.marked } }
  | some new =>
    if s.ras.moving.isSome then { s with ras := { s.ras with retry := page :: s.ras.retry } }
    else
      let s1 := s.setOwner new owner
      { s1 with ras := { s1.ras with moving := some (page, new) } }

/-- Retirement of the location that holds a line, within the limits of R321. -/
def State.retireLine (s : State) (a sub : Nat) : State :=
  let loc := s.place a
  if loc ∈ s.ras.flash then s
  else if s.retireMax ≤ s.fld Reg.HBM_RETIRED ∨ 4096 ≤ s.ras.flash.length then
    s.retireFull loc.1 a sub
  else
    let s1 : State := { s with ras := { s.ras with flash := s.ras.flash ++ [loc] } }
    (if 4096 ≤ s1.ras.flash.length then s1.retireFull loc.1 a sub else s1).retirePage (a / 2 ^ 21) sub

/-! The decoder's outcome (R311, R312, R315). -/

/-- A further symbol position corrected: counted toward a mark; the third pin to meet the rule kills the channel. -/
def State.countPin (s : State) (n pos pitch a sub : Nat) : State :=
  let pin := symbolPin pos
  let r := s.pc n
  let pins := countUp pin r.pins
  let s1 := s.setPc n { r with pins := pins }
  if countOf pin pins < max 1 (s.fld Reg.HBM_RAS_CFG_PIN_MARK_CE) then s1
  else if s.fld Reg.HBM_PC_STATUS_MARK0_V n = 0 then
    ((s1.setFld Reg.HBM_PC_STATUS_MARK0_V 1 n).setFld Reg.HBM_PC_STATUS_MARK0 pin n).event
      Code.HBM_PIN_MARKED pitch (locPc n) (s.memDetail a sub pin)
  else if s.fld Reg.HBM_PC_STATUS_MARK1_V n = 0 then
    ((s1.setFld Reg.HBM_PC_STATUS_MARK1_V 1 n).setFld Reg.HBM_PC_STATUS_MARK1 pin n).event
      Code.HBM_PIN_MARKED pitch (locPc n) (s.memDetail a sub pin)
  else s1.foundDead n

/-- How many poison entries a pseudo-channel uses (R315). -/
def State.poisonUsed (s : State) (n : Nat) : Nat :=
  (s.ras.poison.filter fun l => decide (l < 2 ^ 33) && decide ((s.place (l * 64)).1 = n)).length

/-- A line entered as poisoned; a full table kills its pseudo-channel (R315). -/
def State.poisonLine (s : State) (a : Nat) : State :=
  let n := (s.place a).1
  if a / 64 ∈ s.ras.poison then s
  else if 256 ≤ s.poisonUsed n then s.foundDead n
  else { s with ras := { s.ras with poison := s.ras.poison ++ [a / 64] } }

/-- The line read as an access sees it: 64 bytes, turned by an error that escapes the decoder. -/
def State.lineBytes (s : State) (a : Nat) (err : ReadErr) : Bytes :=
  match err.escaped with
  | some x => toBytes 64 (ofBytes (readBytes s.mem a 64) ^^^ x.toNat)
  | none => readBytes s.mem a 64

/-- What decoding a codeword does: whether its data may be used, and the state after counting, marking, retiring and poisoning; a
correction outside marked pins is written back, a miscorrection as well (R311). `sub` is the sub-cause of R336. -/
def State.decodeLine (s : State) (pitch a : Nat) (err : ReadErr) (sub : Nat) : Bool × State :=
  let n := (s.place a).1
  let marked := s.marks n
  let extra := (err.positions.eraseDups).filter fun p => decide (p < 36) && !marked.contains (symbolPin p)
  let k := extra.length
  if k = 0 then (true, s)
  else if k ≤ tideguardReach marked.length then
    let s0 := (if err.escaped.isSome then s.store a (s.lineBytes a err) else s).countLine a
    let s1 := s0.bump (if k = 1 then Ctr.HBM_CE1 else Ctr.HBM_CE2) pitch (locPc n) n (detail := atBytes [(0, a), (9, sub)])
    let r := s1.pc n
    let log := logLocation (s.codewordNo a) r.ceLog
    let s2 := s1.setPc n { r with ceLog := log }
    let s3 := if 2 ≤ k ∨ max 1 (s.fld Reg.HBM_RAS_CFG_RETIRE_CE) ≤ countOf (s.codewordNo a) log then s2.retireLine a sub else s2
    (true, extra.foldl (fun t p => t.countPin n p pitch a sub) s3)
  else
    let s1 := (s.bump Ctr.HBM_UE pitch (locPc n) n (detail := atBytes [(0, a), (9, sub)])).event Code.MEM_UNCORRECTABLE pitch (locPc n)
      (s.memDetail a sub (extra.headD 0))
    (false, (s1.retireLine a sub).poisonLine a)

/-! Shelf lines (R329-R331). -/

/-- The most wrong bits that any of a line's four words holds, and how many words hold exactly one (R329). -/
def shelfWords (err : ReadErr) : Nat × Nat :=
  let per := (List.range 4).map fun w => (err.positions.eraseDups.filter fun p => decide (p / 137 = w)).length
  (per.foldl max 0, (per.filter (· == 1)).length)

/-- A Shelf bank fenced and its die re-formed (R331). -/
def State.bankFence (s : State) (die bank : Nat) : State :=
  if !s.bankLive die bank then s
  else
    let b := s.fld Reg.SHF_MAP_LIVE_N die - 1
    let fresh := s.fld Reg.SHF_MAP_STATE die ≠ 1
    let epoch := if fresh then s.nextEpoch (s.fld Reg.SHF_MAP_EPOCH die) 6 else s.fld Reg.SHF_MAP_EPOCH die
    let live := (s.fld Reg.SHF_LIVE_LIVE die (bank / 32)) ^^^ 2 ^ (bank % 32)
    let s1 := ((((s.setFld Reg.SHF_LIVE_LIVE live die (bank / 32)).setFld Reg.SHF_MAP_LIVE_N b die).setFld
      Reg.SHF_MAP_SLABS (b / 32) die).setFld Reg.SHF_MAP_EPOCH epoch die).setFld Reg.SHF_MAP_STATE 1 die
    let d := atBytes [(10, b), (12, epoch)]
    let s2 := s1.event Code.SHF_BANK_FENCED 0 (locBank die bank) d
    let slabs (r : PitchRec) : List Nat := if die = 0 then r.map.slabs0 else r.map.slabs1
    let joining (r : PitchRec) : List Nat := r.joiningSlabs.filter fun n => decide (n / 32 = die)
    let s3 := if fresh then
        (s.pitchesWith (fun r => !(slabs r).isEmpty || !(joining r).isEmpty)).foldl (fun t p =>
          t.event Code.MEM_REFORM_BEGIN p (locHeadland die) d) s2
      else s2
    let counts := (List.range 9).map fun p => (p, (slabs (s.pitchRec p)).length + (joining (s.pitchRec p)).length)
    let total := counts.foldl (fun n c => n + c.2) 0
    let want := counts.map fun c => (c.1, c.2 - giveUp (total - b / 32) total c.2)
    let (owners, dealt) := dealPages [] ((List.range (b / 32)).map (· + 32 * die)) want
    let kept := s.ras.slabOwners.filter fun o => decide (o.1 / 32 ≠ die)
    let gone := ((List.range 32).filter (fun n => decide (b / 32 ≤ n))).map fun n => (n + 32 * die, 0xE)
    let table := (kept ++ owners ++ gone).foldl (fun t o => sset 0xF t o.1 o.2) []
    let s4 : State := { s3 with ras := { s3.ras with slabOwners := table } }
    counts.foldl (fun (t : State) (c : Nat × Nat) =>
      let r := t.pitchRec c.1
      let mine := (dealt.filter (fun d => decide (d.1 = c.1))).map (·.2)
      let n := (slabs r).length
      let m := if die = 0 then { r.map with slabs0 := mine.take n } else { r.map with slabs1 := mine.take n }
      let t1 := t.setPitchRec c.1 { r with
        map := m, joiningSlabs := r.joiningSlabs.filter (fun x => decide (x / 32 ≠ die)) ++ mine.drop n }
      if mine.length < c.2 then t1.event Code.MEM_PAGE_WITHDRAWN c.1 (locHeadland die) d else t1) s4

/-- A Shelf line that cannot be corrected: poisoned, counted toward its bank's fence (R329, R331). -/
def State.shelfUncorrectable (s : State) (pitch a sub : Nat) : State :=
  let (die, bank) := s.shelfBank a
  let k := die * 1024 + bank
  let n := sget 0 s.ras.bankUe k + 1
  let s1 := (s.bump Ctr.SHF_UE pitch (locBank die bank) die (detail := atBytes [(0, a), (9, sub)])).event Code.MEM_UNCORRECTABLE pitch (locBank die bank)
    (s.memDetail a sub)
  let s2 : State := { s1 with ras := { s1.ras with
    poison := if a / 64 ∈ s1.ras.poison then s1.ras.poison else s1.ras.poison ++ [a / 64]
    bankUe := sset 0 s1.ras.bankUe k n } }
  if max 1 (s.fld Reg.SHF_CFG_BANK_UE_FENCE die) ≤ n then s2.bankFence die bank else s2

/-- What reading a Shelf line does (R329). -/
def State.shelfDecode (s : State) (pitch a : Nat) (err : ReadErr) (sub : Nat) : Bool × State :=
  let (worst, ones) := shelfWords err
  let (die, bank) := s.shelfBank a
  if 2 ≤ worst then (false, s.shelfUncorrectable pitch a sub)
  else if ones = 0 then (true, s)
  else (true, (s.countLine a).bump Ctr.SHF_CE pitch (locBank die bank) die ones (detail := atBytes [(0, a), (9, sub)]))

/-! Line accesses at a controller (R313, R315, R316, R329). -/

/-- The bytes of a write merged into a line by its byte mask. -/
def mergeLine (old : Bytes) (mask data : Nat) : Bytes :=
  (List.range 64).map fun i => if mask.testBit i then bits data (8 * i + 7) (8 * i) else old.getD i 0

/-- Whether a line operation reads the line before it acts. -/
def opReads : LineOp → Bool
  | .read => true
  | .write mask _ => mask != BitVec.allOnes 64

/-- Whether an act writes the whole line, which nothing that stands there stops. -/
def LineAct.whole : LineAct → Bool
  | .access op => !opReads op
  | .add .. => false

/-- A line's poison entry cleared by a full write (R315, R329). -/
def State.clearPoison (s : State) (a : Nat) : State :=
  if a / 64 ∈ s.ras.poison then
    { s with ras := { s.ras with poison := s.ras.poison.filter (· ≠ a / 64) } }
  else s

/-- The addends of a line in element order, `none` where the mask bit is 0. -/
def lineAddends (t : AddType) (mask addend : Nat) : List (Option Nat) :=
  (List.range (64 / t.size)).map fun i =>
    if mask.testBit i then some (bits addend (8 * t.addend * (i + 1) - 1) (8 * t.addend * i)) else none

/-- An act performed on a line that reads as `old`, and answered; an add is made by the adder next to the line (R316, R317). -/
def State.performLine (s : State) (pitch a : Nat) (act : LineAct) (old : Bytes) : State :=
  match act with
  | .access .read => s.send (.line 0 (ofBytes old))
  | .access (.write mask data) =>
    let s1 := (s.store a (mergeLine old mask.toNat data.toNat)).countLine a
    (if act.whole then s1.clearPoison a else s1).send (.line 0 0)
  | .add type mask addend reduce =>
    let (bs, w) := addRun (AddType.ofCode type) old (lineAddends (AddType.ofCode type) mask.toNat addend.toNat)
    (((s.store a bs).countLine a).countWraps pitch a w).send (.line 0 (if reduce then ofBytes bs else 0))

/-- One access at a pseudo-channel controller or a Shelf bank. No access reaches a page that has yet to join its pitch (R314). -/
def State.lineAccess (s : State) (pitch : Pitch) (line : Nat) (act : LineAct) (err : ReadErr) (who : Requester) : State :=
  let a := s.redirected (line * 64)
  let g := s.lineGate pitch a act.whole
  if region a = .hbm ∧ a / 2 ^ 21 ∈ (s.pitchRec pitch).joiningPages then s
  else if g = 1 then
    { s with ras := { s.ras with held := s.ras.held ++ [{ pitch := pitch, line := line, act := act, err := err, who := who }] } }
  else if g ≠ 0 then s.refuseLine pitch g a 0 who
  else if act.whole then s.performLine pitch a act []
  else
    let e : ReadErr := if region a = .hbm then err else { err with escaped := none }
    let old := s.lineBytes a e
    let (good, s1) := if region a = .hbm then (s.countLine a).decodeLine pitch a e 0 else (s.countLine a).shelfDecode pitch a e 0
    if good then s1.performLine pitch a act old else (s1.send (.line Code.MEM_UNCORRECTABLE 0)).failRequester who Code.MEM_UNCORRECTABLE a

/-- HBM_ACCESS (R308, R310-R315). -/
def execHbmAccess (pitch : Pitch) (line : Nat) (op : LineOp) (err : ReadErr) (s : State) (who : Requester := .other) :
    Host.Outcome State Fault Refusal :=
  if 2 ^ 33 ≤ line then .next (s.refuseLine pitch Code.ADDRESS_RESERVED (line * 64) 0 who)
  else .next (s.lineAccess pitch line (.access op) err who)

/-- SHELF_ACCESS (R328, R329). -/
def execShelfAccess (pitch : Pitch) (line : Nat) (op : LineOp) (err : ReadErr) (s : State) (who : Requester := .other) :
    Host.Outcome State Fault Refusal :=
  if region (line * 64) ≠ .shelf then .next (s.refuseLine pitch Code.ADDRESS_RESERVED (line * 64) 0 who)
  else .next (s.lineAccess pitch line (.access op) err who)

/-- MEMORY_ADD (R316, R317): an add-reduce also returns the line as written. -/
def execMemoryAdd (pitch : Pitch) (line : Nat) (type : Fin 5) (mask : BitVec 32) (addend : BitVec 512) (reduce : Bool) (s : State)
    (err : ReadErr := .clean) (who : Requester := .other) : Host.Outcome State Fault Refusal :=
  let a := line * 64
  match region a with
  | .cove _ => .next (s.refuseLine pitch Code.COVE_WRITE_REFUSED a 0 who)
  | .hbm => .next (s.lineAccess pitch line (.add type mask addend reduce) err who)
  | .shelf => .next (s.lineAccess pitch line (.add type mask addend reduce) err who)
  | _ => .next (s.refuseLine pitch Code.ADDRESS_RESERVED a 0 who)

/-- Held accesses tried again, in their order (R323, R332). -/
def State.releaseHeld (s : State) : State :=
  s.ras.held.foldl (fun t h => t.lineAccess h.pitch h.line h.act h.err h.who) { s with ras := { s.ras with held := [] } }

/-- HBM_REFRESH (R307): a refresh takes bank time and changes no bit. -/
def execHbmRefresh (_stack : Fin 8) (s : State) : Host.Outcome State Fault Refusal := .next s

/-- HBM_SCRUB (R319): the next codeword of the scrub period; at the period's end the counts of R312 and R320 begin anew. -/
def execHbmScrub (n : PseudoCh) (err : ReadErr) (s : State) : Host.Outcome State Fault Refusal :=
  if !s.pcLive n ∨ s.hbmAsleep ∨ s.fld Reg.HBM_MAP_STATE = 1 then .next s
  else
    let r := s.pc n
    let a := s.codewordAddr n r.scrub
    let s1 := s.countLine a
    let s2 := if a / 64 ∈ s.ras.poison then s1
      else
        let owner := s.pageOwner (a / 2 ^ 21)
        (s1.decodeLine (if owner ≤ 8 then owner else 0) a err 1).2
    let r2 := s2.pc n
    .next (if r.scrub + 1 < 2 ^ 24 then s2.setPc n { r2 with scrub := r.scrub + 1 }
      else s2.setPc n { r2 with scrub := 0, pins := [], ceLog := [] })

/-! Retrains (R322). -/

/-- A pseudo-channel starts retraining. -/
def State.startRetrain (s : State) (n : Nat) : State :=
  (((s.setFld Reg.HBM_PC_STATUS_STATE 1 n).bump Ctr.HBM_RETRAIN 0 (locPc n) n)).event Code.HBM_CHANNEL_RETRAIN 0 (locPc n)
    (atBytes [(10, s.liveN), (12, s.fld Reg.HBM_MAP_EPOCH)])

/-- An access that is not completed in time ends with MEM_TIMEOUT, and its pseudo-channel retrains unless it does already (R322). -/
def State.lineLate (s : State) (pitch a : Nat) (who : Requester) : State :=
  let n := (s.place a).1
  let s1 := s.refuseLine pitch Code.MEM_TIMEOUT a 0 who
  if s.fld Reg.HBM_PC_STATUS_STATE n = 0 then s1.startRetrain n else s1

/-- HBM_ACCESS_TIMEOUT (R322): also of an access that is held while its pseudo-channel retrains. -/
def execHbmAccessTimeout (pitch : Pitch) (line : Nat) (s : State) (who : Requester := .other) : Host.Outcome State Fault Refusal :=
  let a := s.redirected (line * 64)
  if 2 ^ 33 ≤ line ∨ !s.pcLive (s.place a).1 ∨ s.hbmAsleep ∨ s.fld Reg.HBM_MAP_STATE = 1 then .next s
  else .next (({ s with ras := { s.ras with
    held := s.ras.held.eraseP fun h => decide (h.pitch = pitch ∧ h.line = line ∧ h.who = who) } } : State).lineLate pitch a who)

/-- HBM_RETRAIN_DONE (R322). -/
def execHbmRetrainDone (n : PseudoCh) (s : State) : Host.Outcome State Fault Refusal :=
  if s.fld Reg.HBM_PC_STATUS_STATE n ≠ 1 then .next s
  else .next (((s.setFld Reg.HBM_PC_STATUS_STATE 0 n).setPc n { s.pc n with fails := 0 }).releaseHeld)

/-- HBM_RETRAIN_FAIL (R322): the third failure in a row makes the channel dead; otherwise it retrains again. -/
def execHbmRetrainFail (n : PseudoCh) (s : State) : Host.Outcome State Fault Refusal :=
  if s.fld Reg.HBM_PC_STATUS_STATE n ≠ 1 then .next s
  else if 2 ≤ (s.pc n).fails then .next ((s.setPc n { s.pc n with fails := 0 }).foundDead n)
  else .next ((s.setPc n { s.pc n with fails := (s.pc n).fails + 1 }).startRetrain n)

/-- Steps 5 and 6 of R324: memory is zero, its poison clear, its state normal. -/
def State.reformEnds (s : State) : State :=
  let s1 := s.zero 0 (2 ^ 39)
  let s2 : State := { s1 with ras := { s1.ras with
    poison := s1.ras.poison.filter (fun l => decide (2 ^ 33 ≤ l)), dying := [], before := [], marked := [], raw := []
    pageKeys := (s1.ras.owners.filter fun o => decide (o.2 ≤ 8)).foldl (fun m o => sset 0 m o.1 ((s1.pitchRec o.2).hbmKey.getD 0)) [] } }
  let loc := if s.ras.dying.isEmpty then locPackage else reformLoc s.ras.dying
  let s4 := s2.flashPages.foldl (fun t p =>
    t.event Code.MEM_PAGE_RETIRED 0 (locPc (s2.place (p * 2 ^ 21)).1) (atBytes [(0, p), (9, 3), (10, s.liveN), (12, s.fld Reg.HBM_MAP_EPOCH)])) s2
  (s4.setFld Reg.HBM_MAP_STATE 0).event Code.MEM_REFORM_DONE 0 loc (atBytes [(10, s.liveN), (12, s.fld Reg.HBM_MAP_EPOCH)])

/-- REFORM_ZEROING_DONE (R324). -/
def execReformZeroingDone (s : State) : Host.Outcome State Fault Refusal :=
  if s.fld Reg.HBM_MAP_STATE ≠ 1 then .next s else .next s.reformEnds

/-! The mover (R323). -/

/-- The bytes of one page as entries at another. -/
def movePage (old new : Nat) (m : Sparse Byte) : Sparse Byte :=
  (m.filter fun c => decide (c.1 / 2 ^ 21 = old)).foldl (fun t c => sset 0#8 t (c.1 - old * 2 ^ 21 + new * 2 ^ 21) c.2)
    (sclear (new * 2 ^ 21) ((new + 1) * 2 ^ 21) m)

/-- A page number replaced in a list of pages. -/
def replacePage (old new : Nat) (l : List Nat) : List Nat := l.map fun p => if p = old then new else p

/-- PAGE_MOVE_DONE (R323): the copy, the redirect, the translation, the held accesses; the old page is retired. -/
def execPageMoveDone (s : State) : Host.Outcome State Fault Refusal :=
  match s.ras.moving with
  | none => .next s
  | some (old, new) =>
    let owner := s.pageOwner old
    let r := s.pitchRec owner
    let s1 : State := { s with mem := movePage old new s.mem }
    let s2 := s1.setPitchRec owner { r with map := { r.map with pages := replacePage old new r.map.pages }, joiningPages := replacePage old new r.joiningPages }
    let s3 : State := { s2 with ras := { s2.ras with
      moving := none
      redirect := (old, new) :: s2.ras.redirect.map fun r => if r.2 = old then (r.1, new) else r
      poison := (s2.ras.poison.filter fun l => decide (l / 2 ^ 15 ≠ new)).map fun l =>
        if l / 2 ^ 15 = old then l - old * 2 ^ 15 + new * 2 ^ 15 else l } }
    .next (((s3.keyPage new (r.hbmKey.getD 0)).pageRetired old owner 2).releaseHeld)

/-- PAGE_MOVE_TIMEOUT (R323): the move is abandoned, the held accesses go to the old page. -/
def execPageMoveTimeout (s : State) : Host.Outcome State Fault Refusal :=
  match s.ras.moving with
  | none => .next s
  | some (old, new) =>
    let s1 := s.setOwner new 0xF
    .next ({ s1 with ras := { s1.ras with moving := none, retry := old :: s1.ras.retry } } : State).releaseHeld

/-- RETIRE_RETRY (R323): an abandoned retirement is tried again. -/
def execRetireRetry (page : Nat) (s : State) : Host.Outcome State Fault Refusal :=
  if page ∈ s.ras.retry ∧ s.ras.moving.isNone then
    .next (({ s with ras := { s.ras with retry := s.ras.retry.filter (· ≠ page) } } : State).retirePage page 2)
  else .next s

/-! Shelf memory (R328-R331). -/

/-- SHELF_SCRUB (R330): the next line of the period, of all that the live banks hold; at its end the counts of R331 begin anew. -/
def execShelfScrub (die : Die) (err : ReadErr) (s : State) : Host.Outcome State Fault Refusal :=
  if s.fld Reg.SHF_MAP_STATE die = 1 ∨ s.fld Reg.LNT_STATUS_STATE = 3 then .next s
  else
    let i := sget 0 s.ras.shelfScrub die
    let a := shelfBase + die * 2 ^ 31 + i * 64
    let owner := s.slabOwner (die * 32 + i / 2 ^ 20)
    let s0 := s.countLine a
    let s1 := if a / 64 ∈ s.ras.poison then s0 else (s0.shelfDecode (if owner ≤ 8 then owner else 0) a err 1).2
    let lines := s.fld Reg.SHF_MAP_LIVE_N die * 2 ^ 15
    .next (if i + 1 < lines then { s1 with ras := { s1.ras with shelfScrub := sset 0 s1.ras.shelfScrub die (i + 1) } }
      else { s1 with ras := { s1.ras with
        shelfScrub := sset 0 s1.ras.shelfScrub die 0
        bankUe := sclear (die * 1024) (die * 1024 + 1024) s1.ras.bankUe } })

/-- The end of a Shelf die's re-form (R331): the die is zero, its poison clear, its state normal. -/
def State.shelfReformEnds (s : State) (die : Nat) : State :=
  let lo := shelfBase + die * 2 ^ 31
  let s1 := (s.zero lo (lo + 2 ^ 31)).setFld Reg.SHF_MAP_STATE 0 die
  let s2 : State := { s1 with ras := { s1.ras with
    poison := s1.ras.poison.filter (fun l => !(decide (lo / 64 ≤ l) && decide (l < lo / 64 + 2 ^ 25)))
    bankUe := sclear (die * 1024) (die * 1024 + 1024) s1.ras.bankUe } }
  s2.event Code.MEM_REFORM_DONE 0 (locHeadland die) (atBytes [(10, s.fld Reg.SHF_MAP_LIVE_N die), (12, s.fld Reg.SHF_MAP_EPOCH die)])

/-- SHELF_REFORM_DONE (R331). -/
def execShelfReformDone (die : Die) (s : State) : Host.Outcome State Fault Refusal :=
  if s.fld Reg.SHF_MAP_STATE die ≠ 1 then .next s else .next (s.shelfReformEnds die)

/-! Test state and traffic generators (R326, R327). -/

/-- Leaving test starts a re-form at the current L (R327). -/
def State.reformAll (s : State) : State :=
  let epoch := s.nextEpoch (s.fld Reg.HBM_MAP_EPOCH) 16
  let s1 := (s.setFld Reg.HBM_MAP_STATE 1).setFld Reg.HBM_MAP_EPOCH epoch
  let s2 := (s.pitchesWith (fun r => !r.map.pages.isEmpty || !r.joiningPages.isEmpty)).foldl (fun t p =>
    t.event Code.MEM_REFORM_BEGIN p locPackage (atBytes [(10, s.liveN), (12, epoch)])) s1
  ({ s2 with ras := { s2.ras with moving := none, retry := [], redirect := [] } } : State).notePages.answerHeld Code.MEM_REFORM
    |>.rebuildPages locPackage

/-- The status of every live pseudo-channel, between 0 live and 3 test. -/
def State.markTest (s : State) (old new : Nat) : State :=
  (List.range 512).foldl (fun (t : State) n => if t.fld Reg.HBM_PC_STATUS_STATE n = old ∧ t.pcLive n then t.setFld Reg.HBM_PC_STATUS_STATE new n else t) s

/-- HBM enters the test state (R327). -/
def State.enterTest (s : State) : State := (s.setFld Reg.HBM_MAP_STATE 2).markTest 0 3

/-- HBM leaves the test state: the generators stop, and a re-form at the current L begins (R327). -/
def State.leaveHbmTest (s : State) : State :=
  ((List.range 512).foldl (fun (t : State) n => if t.fld Reg.HBM_TG_CFG_GO n = 1 then t.setFld Reg.HBM_TG_CFG_GO 0 n else t) (s.markTest 3 0)).reformAll

/-- GO written in HBM_TG_CFG: a run starts only while HBM is in test (R327). -/
def State.tgGo (s : State) (n : Nat) : State :=
  if s.fld Reg.HBM_MAP_STATE = 2 ∧ s.pcLive n then
    (s.setFld Reg.HBM_TG_CFG_GO 1 n).setFld Reg.HBM_TG_FIRST_VALID 0 n
  else s

/-- How many codewords a run covers (R334): 0 for the whole pseudo-channel, cut at 2^24. -/
def tgCodewords (first count : Nat) : Nat := if count = 0 then 2 ^ 24 - min first (2 ^ 24) else min count (2 ^ 24 - min first (2 ^ 24))

/-- One step of the PRBS31 register of O.150 on x^31 + x^28 + 1 (log 125). -/
def prbsStep (x : Nat) : Nat := (2 * x) % 2 ^ 31 + (if x.testBit 30 = x.testBit 27 then 0 else 1)

/-- The register after some steps. -/
def prbsAfter : Nat → Nat → Nat
  | 0, x => x
  | n + 1, x => prbsAfter n (prbsStep x)

/-- The 16 beats of a pin's sequence from a register on, inverted as O.150 states: beat b is bit b. -/
def prbsBeats (x : Nat) : Nat :=
  ((List.range 16).foldl (fun (acc : Nat × Nat) b => (prbsStep acc.1, acc.2 + (1 - prbsStep acc.1 % 2) * 2 ^ b)) (x, 0)).2

/-- The 36 symbols, by position, that a run's pattern gives a codeword (R326). -/
def RawRun.word (r : RawRun) (cw : Nat) : List Nat :=
  if r.pattern = 0 then (List.range 36).map fun pos =>
    let x := (r.seed + symbolPin pos) % 2 ^ 31
    prbsBeats (prbsAfter (16 * (cw - r.first)) (if x = 0 then 1 else x))
  else if r.pattern = 1 then (List.range 36).map fun pos =>
    if cw % 576 / 16 = symbolPin pos then 2 ^ (cw % 16) else 0
  else if r.pattern = 2 then encodeLine (ofBytes ((List.replicate 8 (toBytes 8 cw)).flatten))
  else encodeLine r.line

/-- A raw codeword as it stands: what a generator wrote there last, or what the memory holds. -/
def State.rawWord (s : State) (n cw : Nat) : List Nat :=
  match s.ras.raw.find? fun r => decide (r.pc = n ∧ r.first ≤ cw ∧ cw < r.first + r.count) with
  | some r => r.word cw
  | none => s.codeword (s.codewordAddr n cw)

/-- How many bits of a symbol are set. -/
def ones16 (x : Nat) : Nat := ((List.range 16).filter x.testBit).length

/-- One codeword checked (R326): how much it adds to HBM_TG_ERRS, and the first beat of a mismatch. `flip` is what its read turned. -/
def State.tgCheck (s : State) (r : RawRun) (cw flip : Nat) : Nat × Option Nat :=
  let read := (s.rawWord r.pc cw).zipIdx.map fun x => x.1 ^^^ bits flip (16 * x.2 + 15) (16 * x.2)
  let diff := List.zipWith (· ^^^ ·) read (r.word cw)
  let beat := (List.range 16).find? fun b => diff.any fun d => d.testBit b
  if r.pattern < 2 then (diff.foldl (fun n d => n + ones16 d) 0, beat)
  else
    let marked := s.marks r.pc
    let k := (diff.zipIdx.filter fun x => decide (x.1 ≠ 0) && !marked.contains (symbolPin x.2)).length
    if k = 0 then (0, none) else if k ≤ tideguardReach marked.length then (1, none) else (1, beat)

/-- TG_RUN_DONE (R326): the pattern is written over the range unless the run only checks, then read and compared codeword by codeword;
`words` are the codewords of which a read turned bits, `turned` the bits. The first mismatch raises TG_MISMATCH (log 125). -/
def execTgRunDone (n : PseudoCh) (words : List Nat) (turned : List (BitVec 576)) (s : State) : Host.Outcome State Fault Refusal :=
  if s.fld Reg.HBM_TG_CFG_GO n = 0 ∨ s.fld Reg.HBM_MAP_STATE ≠ 2 then .next s
  else
    let first := s.fld Reg.HBM_TG_RANGE_FIRST n
    let count := tgCodewords first (s.fld Reg.HBM_TG_RANGE_COUNT n)
    let r : RawRun := { pc := n, first := first, count := count, pattern := s.fld Reg.HBM_TG_CFG_PATTERN n
                        seed := s.fld Reg.HBM_TG_SEED_SEED n, line := s.fld Reg.HBM_TG_USER_LINE n }
    let only := s.fld Reg.HBM_TG_CFG_CHECK_ONLY n
    let s0 : State := if only = 1 then s else { s with ras := { s.ras with raw := r :: s.ras.raw } }
    let seen := (List.range count).map fun i =>
      (first + i, s0.tgCheck r (first + i) ((((words.zip turned).find? fun f => decide (f.1 = first + i)).map fun f => f.2.toNat).getD 0))
    let s1 := (((s0.setFld Reg.HBM_TG_CFG_GO 0 n).accum Reg.HBM_TG_WORDS count n).accum Reg.HBM_TRAFFIC (count * (2 - only)) n).bump
      Ctr.HBM_TG_ERRS 0 (locPc n) n (seen.foldl (fun e x => e + x.2.1) 0)
    match seen.find? fun x => x.2.2.isSome with
    | none => .next s1
    | some (cw, _, beat) =>
      .next ((((s1.setFld Reg.HBM_TG_FIRST_VALID 1 n).setFld Reg.HBM_TG_FIRST_CODEWORD cw n).setFld
        Reg.HBM_TG_FIRST_BEAT (beat.getD 0) n).event Code.TG_MISMATCH 0 (locPc n)
          (atBytes [(0, cw), (10, s.liveN), (12, s.fld Reg.HBM_MAP_EPOCH)]))

end Sys2Proof.Machine
end

