-- ==== Sys2Proof/Machine/Collective.lean ====
section
/-! DEFINITION. Collectives (R354-R362): the unit that carries out reduce-scatters, all-gathers and broadcasts, with the
DMA_REDUCE and GATHER rows and the collective messages. -/
namespace Sys2Proof.Machine

open Sys2Proof

/-! Membership (R222, R223, R357). -/

/-- The rows of shard `c` of `n` rows in `g` shards: first and end (R223). -/
def shardRows (n g c : Nat) : Nat × Nat :=
  let u := (n + 63) / 64
  (min n (64 * (c * u / g)), min n (64 * ((c + 1) * u / g)))

/-- This device's place in a participant list. -/
def placeOf (dev : Nat) (l : List Nat) : Nat := l.findIdx (· = dev)

/-- The member list and shard count of a GROUP (R357). -/
def State.memberList (s : State) (pitch group : Nat) : List Nat × Nat :=
  let j := s.job pitch
  let g := max j.gsize 1
  let me := placeOf s.devId j.parts
  if group = 0 then (j.parts, g)
  else if group = 1 then ((j.parts.drop (me / g * g)).take g, g)
  else (((List.range j.parts.length).filter fun k => k % g == me % g).map fun k => j.parts.getD k 0, 1)

/-- The members that own a shard, in order. -/
def Coll.owners (c : Coll) (shard : Nat) : List Nat := (List.range c.q.length).filter fun j => j % c.shards == shard

/-- The member that leads a shard (R357). -/
def Coll.lead (c : Coll) (shard : Nat) : Nat :=
  let o := c.owners shard
  o.getD (shard % max o.length 1) 0

/-- The shard that this member owns. -/
def Coll.mine (c : Coll) : Nat := c.member % max c.shards 1

/-- Elements of a row, their sizes at the source, in flight and at the destination. -/
def Coll.perRow (c : Coll) : Nat := c.rowBytes / (reduceSizes c.op).1

/-- The 256-byte in-flight spans of a shard. -/
def Coll.spans (c : Coll) (shard : Nat) : Nat :=
  let (lo, hi) := shardRows c.rows c.shards shard
  ((hi - lo) * c.perRow * flightSize c.op + 255) / 256

/-- The elements of a span: the first, counted in the shard, and how many. -/
def Coll.spanElems (c : Coll) (shard span : Nat) : Nat × Nat :=
  let (lo, hi) := shardRows c.rows c.shards shard
  let per := 256 / flightSize c.op
  (span * per, min per ((hi - lo) * c.perRow - span * per))

/-- Whether this member leads the shard it owns. -/
def Coll.leads (c : Coll) : Bool := c.ctype == 0 && c.lead c.mine == c.member

/-- The steps of a lead: a span from each member. -/
def Coll.steps (c : Coll) : Nat := if c.leads then c.spans c.mine * c.q.length else 0

/-- Whether nothing is to be moved. -/
def Coll.empty (c : Coll) : Bool := c.rows == 0 || c.rowBytes == 0

/-! The collectives under way. -/

/-- The collective of a pitch and CID. -/
def State.coll (s : State) (pitch cid : Nat) : Option Coll := s.fab.colls.find? fun c => decide (c.pitch = pitch ∧ c.cid = cid)

/-- The state with a collective replaced. -/
def State.setColl (s : State) (c : Coll) : State :=
  { s with fab := { s.fab with colls := s.fab.colls.map fun d => if d.uid = c.uid then c else d } }

/-- Whether a request that has not left its source is one of a collective's. -/
def Coll.waitsFor (c : Coll) (r : FabReq) : Bool :=
  decide (r.stage = 0 ∧ r.pkt.pitch = c.pitch) && (match r.origin with
    | .pull cid _ => decide (cid = c.cid)
    | .push cid _ => decide (cid = c.cid)
    | _ => false)

/-- The state without a collective, and without those of its requests that have not left. -/
def State.dropColl (s : State) (uid : Nat) : State :=
  let gone := s.fab.colls.filter fun d => decide (d.uid = uid)
  { s with fab := { s.fab with
    colls := s.fab.colls.filter fun d => decide (d.uid ≠ uid)
    reqs := s.fab.reqs.filter fun r => !(gone.any fun c => c.waitsFor r) } }

/-- The DETAIL of a collective event. -/
def collDetail (dev cid addr : Nat) : Nat := fabDetail dev 0 0 cid addr

/-- A collective ends with a fault: it stops, and its descriptor faults. -/
def State.collFault (s : State) (c : Coll) (code dev addr : Nat) : State :=
  let s1 := (s.dropColl c.uid).event code c.pitch locFabric (collDetail dev c.cid addr)
  match s1.flightOf c.uid with
  | some (k, f) => s1.flightFaulted k f code
  | none => s1

/-- COLL_ABORT to every other member (R358). -/
def State.sendAborts (s : State) (c : Coll) (code : Nat) : State :=
  (c.q.filter (· ≠ s.devId)).foldl (fun t d => t.message c.pitch (t.job c.pitch).num 5 d (c.cid ||| code <<< 32) 32) s

/-- Whether everything that R358-R362 ask of a member has been done. -/
def Coll.finished (c : Coll) : Bool :=
  let others := (List.range c.q.length).filter (· ≠ c.member)
  if c.ctype = 0 then
    if c.empty then others.all fun m => c.ready.any fun r => r.1 == m
    else
      c.toServe == 0 && c.added == c.steps && c.sends.isEmpty && c.unacked.isEmpty
      && (if c.leads then ((c.owners c.mine).filter (· ≠ c.member)).all (· ∈ c.doneTo)
          else (c.owners c.mine).isEmpty || decide (c.lead c.mine ∈ c.doneFrom))
  else if c.ctype = 1 then
    let size := max c.shards 1
    let peers := if c.group = 0 then others.filter fun m => m / size == c.member / size else others
    c.sends.isEmpty && c.unacked.isEmpty && peers.all (· ∈ c.doneFrom)
  else c.sends.isEmpty && c.unacked.isEmpty && (c.root == c.member || c.added == c.rows * c.rowBytes)

/-- A member sends COLL_DONE to each receiver whose writes are all acknowledged (R360, R361), once its COLL_READY is here; a reduce-scatter
of nothing sends none (R263). -/
def State.collDones (s : State) (c : Coll) : State × Coll :=
  let due := if c.ctype = 0 then
      (if c.leads ∧ c.added = c.steps ∧ !c.empty then (c.owners c.mine).filter (· ≠ c.member) else [])
    else if c.ctype = 1 then
      let size := max c.shards 1
      (List.range c.q.length).filter fun m => m != c.member && (c.group != 0 || m / size == c.member / size)
    else []
  let now := due.filter fun m => m ∉ c.doneTo ∧ m ∉ c.unacked ∧ c.sends.all (fun x => x.member != m) ∧ c.ready.any (fun r => r.1 == m)
  (now.foldl (fun t m => t.message c.pitch (t.job c.pitch).num 4 (c.q.getD m 0) c.cid 32) s, { c with doneTo := c.doneTo ++ now })

/-- A collective is looked at after a change: COLL_DONE where it is due, and completion. -/
def State.collCheck (s : State) (c : Coll) : State :=
  let (s1, c1) := s.collDones c
  if c1.finished then (s1.dropColl c1.uid).setFlight c1.uid fun f => { f with left := 0, done := true } else s1.setColl c1

/-! Sending a member's own bytes. -/

/-- The pitch address, in one's own rows, of an offset in the destination's rows. -/
def Coll.ownAddr (c : Coll) (off : Nat) : Nat :=
  let len := if c.ctype = 0 then c.perRow * (reduceSizes c.op).2 else c.rowBytes
  if c.ctype = 2 ∧ c.member ≠ c.root ∨ c.ctype = 0 then c.dst + off / max len 1 * c.dstPitch + off % max len 1
  else c.src + off / max len 1 * c.srcPitch + off % max len 1

/-- The other member's address of an offset in its rows, from its COLL_READY. -/
def Coll.peerAddr (c : Coll) (m off : Nat) : Option Nat :=
  let len := if c.ctype = 0 then c.perRow * (reduceSizes c.op).2 else c.rowBytes
  (c.ready.find? fun r => r.1 == m).map fun r => r.2.1 + off / max len 1 * r.2.2 + off % max len 1

/-- Those of a member's sends that can go, go: as WRITEs that cross no 256-byte boundary. A read that fails ends the
collective. -/
def State.collSend (s : State) (c : Coll) : List CollSend → List CollSend → State
  | [], kept => s.collCheck { c with sends := kept }
  | x :: rest, kept =>
    match c.peerAddr x.member x.off with
    | none => s.collSend c rest (kept ++ [x])
    | some a =>
      if !x.avail then s.collSend c rest (kept ++ [x])
      else match s.readAt c.pitch c.map (c.ownAddr x.off) x.len with
        | .ok bs =>
          let ps := spans256 a x.len
          let s1 := ps.foldl (fun t y => t.request { blankPacket with
            kind := kindWrite, pitch := c.pitch, job := (t.job c.pitch).num, dst := c.q.getD x.member 0, addr := y.1
            body := (bs.drop (y.1 - a)).take y.2 } (.push c.cid x.member)) s
          s1.collSend { c with unacked := c.unacked ++ ps.map fun _ => x.member } rest kept
        | .err code l => s.collFault c code s.devId l
        | .wait => s.collSend c rest (kept ++ [x])

/-- Every send of a collective that can go, goes. -/
def State.collPush (s : State) (c : Coll) : State := s.collSend c c.sends []

/-! The lead of a reduce-scatter (R359). -/

/-- The addresses of a member's source elements of a span, in order. -/
def Coll.srcAddrs (c : Coll) (shard span : Nat) : List Nat :=
  let (lo, _) := shardRows c.rows c.shards shard
  let (e0, n) := c.spanElems shard span
  (List.range n).map fun i =>
    c.src + (lo + (e0 + i) / c.perRow) * c.srcPitch + (e0 + i) % c.perRow * (reduceSizes c.op).1

/-- A member's own contribution to a span, as it travels. -/
def State.contribution (s : State) (c : Coll) : List Nat → Acc Bytes
  | [] => .ok []
  | a :: rest =>
    match s.readNum c.pitch c.map a (reduceSizes c.op).1 with
    | .ok x =>
      match s.contribution c rest with
      | .ok bs => .ok (toBytes (flightSize c.op) (inFlight c.op x) ++ bs)
      | e => e
    | .err code l => .err code l
    | .wait => .wait

/-- The destination addresses of a span's elements, in order. -/
def Coll.dstAddrs (c : Coll) (span : Nat) : List Nat :=
  let (e0, n) := c.spanElems c.mine span
  (List.range n).map fun i => c.dst + (e0 + i) / c.perRow * c.dstPitch + (e0 + i) % c.perRow * (reduceSizes c.op).2

/-- A span's addends added at the lead's DST. -/
def State.addSpan (s : State) (c : Coll) : List Nat → List Nat → Acc State
  | a :: as, x :: xs =>
    match s.addAt c.pitch c.map (reduceAdd c.op) a [some x] with
    | .ok s1 => s1.addSpan c as xs
    | e => e
  | _, _ => .ok s

/-- The sends that carry a finished span to the other owners: one for each run of a row. -/
def Coll.ownerSends (c : Coll) (span : Nat) : List CollSend :=
  let (e0, n) := c.spanElems c.mine span
  let ds := (reduceSizes c.op).2
  let len := c.perRow * ds
  ((c.owners c.mine).filter (· ≠ c.member)).flatMap fun m =>
    (List.range ((e0 + n + c.perRow - 1) / max c.perRow 1 - e0 / max c.perRow 1)).map fun i =>
      let lo := max (e0 * ds) ((e0 / max c.perRow 1 + i) * len)
      { member := m, off := lo, len := min ((e0 + n) * ds) ((e0 / max c.perRow 1 + i + 1) * len) - lo, avail := true }

/-- Pulled spans are added in order: by span, and within a span by member (R359). -/
def State.collAdds : Nat → State → Coll → State × Option Coll
  | 0, s, c => (s, some c)
  | fuel + 1, s, c =>
    match c.arrived.find? fun x => x.1 == c.added with
    | none => (s, some c)
    | some (step, bs) =>
      let n := c.q.length
      let span := step / max n 1
      match s.addSpan c (c.dstAddrs span) (chunkNums (flightSize c.op) bs) with
      | .ok s1 =>
        let last := step % max n 1 + 1 == n
        State.collAdds fuel s1 { c with
          added := step + 1, arrived := c.arrived.filter (fun x => x.1 != step)
          sends := if last then c.sends ++ c.ownerSends span else c.sends }
      | .err code l => (s.collFault c code s.devId l, none)
      | .wait => (s, some c)

/-- The lead's pulls go on, in order, with at most 1,024 outstanding and from members that are ready. -/
def State.collPulls : Nat → State → Coll → State × Option Coll
  | 0, s, c => (s, some c)
  | fuel + 1, s, c =>
    let n := c.q.length
    let step := c.nextPull
    let m := step % max n 1
    let span := step / max n 1
    if c.steps ≤ step ∨ 1024 ≤ c.pulls.length + c.arrived.length then (s, some c)
    else if m = c.member then
      match s.contribution c (c.srcAddrs c.mine span) with
      | .ok bs =>
        match State.collAdds 1025 s { c with nextPull := step + 1, arrived := c.arrived ++ [(step, bs)] } with
        | (s1, some c1) => State.collPulls fuel s1 c1
        | (s1, none) => (s1, none)
      | .err code l => (s.collFault c code s.devId l, none)
      | .wait => (s, some c)
    else if c.ready.any fun r => r.1 == m then
      let s1 := s.request { blankPacket with
        kind := kindPull, pitch := c.pitch, job := (s.job c.pitch).num, dst := c.q.getD m 0, seqn := c.cid
        addr := c.mine <<< 36 ||| span * 256 } (.pull c.cid step)
      State.collPulls fuel s1 { c with nextPull := step + 1, pulls := c.pulls ++ [step] }
    else (s, some c)

/-- A collective goes on as far as it can: adds, pulls, sends, completion. -/
def State.collAdvance (s : State) (c : Coll) : State :=
  match State.collAdds 1025 s c with
  | (s1, none) => s1
  | (s1, some c1) =>
    match State.collPulls (c1.steps - c1.nextPull) s1 c1 with
    | (s2, none) => s2
    | (s2, some c2) => s2.collPush c2

/-! Messages (R355, R358). -/

/-- ROOT as a message gives it: the root's device ID, or 0. -/
def Coll.rootDev (c : Coll) : Nat := if c.ctype = 2 then c.q.getD c.root 0 else 0

/-- The body of COLL_READY (R355). -/
def readyBody (c : Coll) : Nat :=
  c.cid ||| c.ctype <<< 58 ||| c.op <<< 60 ||| c.group <<< 64 ||| c.member <<< 66 ||| c.rootDev <<< 78 ||| c.rows <<< 90
    ||| c.rowBytes <<< 122 ||| c.dst <<< 154 ||| c.dstPitch <<< 202

/-- Whether a COLL_READY agrees with the descriptor (R358). -/
def Coll.agrees (c : Coll) (b : Nat) : Bool :=
  bits b 59 58 == c.ctype && bits b 63 60 == c.op && bits b 65 64 == c.group && bits b 121 90 == c.rows
    && bits b 153 122 == c.rowBytes && bits b 89 78 == c.rootDev

/-- A COLL_READY taken by its collective. -/
def State.takeReady (s : State) (c : Coll) (src b : Nat) : State :=
  if c.agrees b then
    s.collAdvance { c with ready := (bits b 77 66, bits b 201 154, bits b 249 202) :: c.ready.filter (fun r => r.1 != bits b 77 66) }
  else (s.sendAborts c Code.COLL_MISMATCH).collFault c Code.COLL_MISMATCH src 0

/-- A message held for a collective that has now issued. -/
def State.takeHeld (s : State) (pitch cid : Nat) (h : CollHeld) : State :=
  match s.coll pitch cid with
  | none => s
  | some c => if h.subtype = 3 then s.takeReady c h.src h.body else s.collFault c Code.COLL_ABORTED h.src 0

/-- Whether the slot that a CID names has issued that collective already (R356): a message for it then comes after its end. -/
def State.cidIssued (s : State) (pitch cid : Nat) : Bool :=
  let camps := (List.range 16).filter (s.mapOf pitch).camps.testBit
  newer 26 (sget 0 s.fab.collCount (pitch * 64 + 4 * camps.getD (bits cid 31 28) 0 + bits cid 27 26)) (bits cid 25 0)

/-- A READY or an ABORT taken: by its collective, or held until that issues; one for a collective that has ended is discarded. -/
def State.collMessage (s : State) (pkt : Packet) (tagOk : Bool) : State :=
  let b := ofBytes pkt.body
  let cid := bits b 31 0
  let h : CollHeld := { pitch := pkt.pitch, src := pkt.src, subtype := pkt.subtype, body := b }
  let (ok, s1) := s.accept pkt tagOk
  if !ok ∨ pkt.job ≠ (s.job pkt.pitch).num ∨ pkt.src ∉ (s.job pkt.pitch).parts then s1
  else if (s.coll pkt.pitch cid).isSome then s1.takeHeld pkt.pitch cid h
  else if s.cidIssued pkt.pitch cid then s1
  else { s1 with fab := { s1.fab with collHeld := s1.fab.collHeld ++ [h] } }

/-- COLL_READY (R358): compared with the descriptor, or held until it issues. -/
def execCollReady (pkt : Packet) (tagOk : Bool) (s : State) : Host.Outcome State Fault Refusal :=
  if s.takesMessage pkt 3 then .next (s.collMessage pkt tagOk) else .next s

/-- COLL_ABORT (R358): the member stops and faults, or the message is held until its collective issues. -/
def execCollAbort (pkt : Packet) (tagOk : Bool) (s : State) : Host.Outcome State Fault Refusal :=
  if s.takesMessage pkt 5 then .next (s.collMessage pkt tagOk) else .next s

/-- COLL_DONE (R360, R361): one of the conditions of completion. -/
def execCollDone (pkt : Packet) (tagOk : Bool) (s : State) : Host.Outcome State Fault Refusal :=
  if !s.takesMessage pkt 4 then .next s
  else
    let (ok, s1) := s.accept pkt tagOk
    if !ok then .next s1
    else match s1.coll pkt.pitch (bits (ofBytes pkt.body) 31 0) with
      | none => .next s1
      | some c =>
        if pkt.job ≠ (s.job pkt.pitch).num ∨ pkt.src ∉ c.q then .next s1
        else .next (s1.collCheck { c with doneFrom := placeOf pkt.src c.q :: c.doneFrom })

/-- COLL_PULL (R345, R346, R359): a contributor serves a span to the lead. The offset is that of a whole 256-byte span, else the span
crosses a 256-byte boundary; of another job than the pitch runs it is refused. -/
def execCollPull (pkt : Packet) (tagOk : Bool) (s : State) : Host.Outcome State Fault Refusal :=
  if pkt.kind ≠ kindPull ∨ pkt.dst ≠ s.devId ∨ s.devId = 0xFFF then .next s
  else
    let (ok, s1) := s.accept pkt tagOk
    let off := bits pkt.addr 35 0
    if !ok then .next s1
    else if off % 256 ≠ 0 then .next (s1.authFail pkt)
    else if pkt.job ≠ (s.job pkt.pitch).num ∨ pkt.job = 0 then .next (s1.refuse pkt Code.MEM_OWNER_MISMATCH)
    else match s.coll pkt.pitch pkt.seqn with
    | none => .next (s1.answer pkt Code.COLL_ABORTED [])
    | some c =>
      match s1.contribution c (c.srcAddrs (bits pkt.addr 47 36) (off / 256)) with
      | .wait => .next s
      | .err code l => .next ((s1.memEvent pkt.pitch code l).answer pkt code [])
      | .ok bs => .next ((s1.answer pkt 0 bs).collCheck { c with toServe := c.toServe - 1 })

/-! Issue (R356-R358). -/

/-- The place of a camp among its pitch's camps. -/
def campOrdinal (camps c : Nat) : Nat := ((List.range c).filter camps.testBit).length

/-- The spans that a member serves to other leads. -/
def Coll.serves (c : Coll) : Nat :=
  if c.ctype ≠ 0 ∨ c.empty then 0
  else ((List.range c.shards).filter fun h => !(c.owners h).isEmpty && c.lead h != c.member).foldl (fun n h => n + c.spans h) 0

/-- The tree position of a member in a broadcast (R362), and the member at a position. -/
def Coll.treePos (c : Coll) (m : Nat) : Nat := if m = c.root then 0 else if m < c.root then m + 1 else m
def Coll.atPos (c : Coll) (i : Nat) : Nat := if i = 0 then c.root else if i ≤ c.root then i - 1 else i

/-- The members that a member forwards a broadcast to. -/
def Coll.children (c : Coll) : List Nat :=
  let i := c.treePos c.member
  ([2 * i + 1, 2 * i + 2].filter (· < c.q.length)).map c.atPos

/-- What a member has to send at issue: its shard to its replica group, or the root's block to its children. -/
def Coll.firstSends (c : Coll) : List CollSend :=
  if c.empty then []
  else if c.ctype = 1 then
    let size := max c.shards 1
    let (lo, hi) := shardRows c.rows c.shards c.mine
    ((List.range c.q.length).filter fun m => m != c.member && (c.group != 0 || m / size == c.member / size)).flatMap fun m =>
      (List.range (hi - lo)).map fun r => { member := m, off := (lo + r) * c.rowBytes, len := c.rowBytes, avail := true }
  else if c.ctype = 2 ∧ c.member = c.root then
    c.children.flatMap fun m => (List.range c.rows).map fun r => { member := m, off := r * c.rowBytes, len := c.rowBytes, avail := true }
  else []

/-- The bytes of the destination's rows that DST_PITCH must hold (R357). -/
def Coll.dstRow (c : Coll) : Nat := if c.ctype = 0 then c.perRow * (reduceSizes c.op).2 else c.rowBytes

/-- The setting checks of R356 and R357 (log 30). -/
def Coll.settingBad (c : Coll) (rootDev : Nat) : Bool :=
  c.group == 3 || (c.ctype == 1 && c.group == 2) || (c.ctype == 2 && !c.q.contains rootDev) || decide (c.dstPitch < c.dstRow)

/-- A member's own copies at issue: of its shard in an all-gather, of the block at a broadcast's root (R361, R362). -/
def State.ownCopy (s : State) (i : Issue) (c : Coll) : Acc State :=
  if c.empty ∨ c.src = c.dst then .ok s
  else
    let (lo, hi) := if c.ctype = 1 then shardRows c.rows c.shards c.mine else if c.ctype = 2 ∧ c.member = c.root then (0, c.rows) else (0, 0)
    match s.readRows c.pitch c.map (c.src + lo * c.srcPitch) c.srcPitch c.rowBytes (hi - lo) with
    | .ok rows => s.writeRows c.pitch c.map (some i.camp) c.dstPitch (c.dst + lo * c.dstPitch) rows
    | .err code l => .err code l
    | .wait => .wait

/-- A collective descriptor issues (R356-R358), in a leg section over the leg's rows of its records (R255): its number, its settings, COLL_READY to every other member, the messages
held for it, and its first steps (log 45). -/
def State.issueColl (s : State) (i : Issue) (ctype : Nat) : Option State :=
  let w := i.w
  let p := i.pitch
  let x := s.slot i.k
  if (i.idx, i.leg) ∈ x.collsIssued then
    some ((s.event Code.COLL_SETTING_INVALID p locFabric (collDetail s.devId 0 0)).issueFault i Code.COLL_SETTING_INVALID)
  else
    let home := s.slotHome i.k
    let key := p * 64 + home
    let n := sget 0 s.fab.collCount key
    let cid := (campOrdinal i.map.camps (home / 4) % 16) <<< 28 ||| (home % 4) <<< 26 ||| n
    let group := if ctype = 0 then bits w 423 422 else bits w 419 418
    let (q, shards) := s.memberList p group
    let (r0, rows) := s.legRange i (mvRows w)
    let rootDev := if ctype = 2 then bits w 431 420 else 0
    let c : Coll :=
      { pitch := p, cid := cid, uid := s.issued, slot := i.k, ctype := ctype, op := if ctype = 0 then bits w 419 416 else 0
        group := group, rows := rows, rowBytes := mvRowBytes w, root := if ctype = 2 then placeOf rootDev q else 0
        member := placeOf s.devId q, q := q, shards := shards, src := s.issueAddr i 64 + r0 * mvSrcPitch w, srcPitch := mvSrcPitch w
        dst := s.issueAddr i 128 + r0 * mvDstPitch w, dstPitch := mvDstPitch w, map := i.map, ready := [], doneFrom := [], doneTo := [], sends := []
        unacked := [], pulls := [], nextPull := 0, arrived := [], added := 0, toServe := 0 }
    let s1 := s.setSlot i.k { x with collsIssued := (i.idx, i.leg) :: x.collsIssued }
    let s2 : State := { s1 with fab := { s1.fab with collCount := sset 0 s1.fab.collCount key ((n + 1) % 2 ^ 26) } }
    if c.settingBad rootDev then
      some ((s2.event Code.COLL_SETTING_INVALID p locFabric (collDetail s.devId cid 0)).issueFault i Code.COLL_SETTING_INVALID)
    else match s2.ownCopy i c with
    | .wait => none
    | .err code l => some (s2.issueFaultMem i code l)
    | .ok s3 =>
      let c1 := { c with sends := c.firstSends, toServe := c.serves }
      let s4 := s3.fly i 1 true false [] (mvRows w)
      let s5 : State := { s4 with fab := { s4.fab with colls := s4.fab.colls ++ [c1] } }
      let s6 := (q.filter (· ≠ s.devId)).foldl (fun t d => t.message p (t.job p).num 3 d (readyBody c1) 32) s5
      let mine (h : CollHeld) : Bool := decide (h.pitch = p ∧ bits h.body 31 0 = cid)
      let held := s6.fab.collHeld.filter mine
      let s7 : State := { s6 with fab := { s6.fab with collHeld := s6.fab.collHeld.filter fun h => !mine h } }
      let s8 := held.foldl (fun t h => t.takeHeld p cid h) s7
      match s8.coll p cid with
      | some c2 => some (s8.collAdvance c2)
      | none => some s8

/-- DMA_REDUCE (R263): point to point, or a reduce-scatter. -/
def execDmaReduce (k : SlotKey) (s : State) : Host.Outcome State Fault Refusal :=
  .next (s.issueRow k.val tDmaReduce fun s1 i => if bits i.w 421 420 = 0 then s1.reducePlain i else s1.issueColl i 0)

/-- GATHER (R264): indexed, an all-gather, or a broadcast. -/
def execGather (k : SlotKey) (s : State) : Host.Outcome State Fault Refusal :=
  .next (s.issueRow k.val tGather fun s1 i =>
    let mode := bits i.w 417 416
    if mode = 0 then s1.gatherPlain i else s1.issueColl i mode)

/-- A broadcast's span that its parent has written here is passed on (R362). -/
def State.collForward (s : State) (p : Packet) : State :=
  match s.fab.colls.find? fun c => decide (c.pitch = p.pitch ∧ c.ctype = 2 ∧ c.member ≠ c.root
      ∧ c.q.getD (c.atPos ((c.treePos c.member - 1) / 2)) 0 = p.src
      ∧ c.dst ≤ p.addr ∧ (p.addr - c.dst) / max c.dstPitch 1 < c.rows ∧ (p.addr - c.dst) % max c.dstPitch 1 < c.rowBytes) with
  | none => s
  | some c =>
    let off := (p.addr - c.dst) / max c.dstPitch 1 * c.rowBytes + (p.addr - c.dst) % max c.dstPitch 1
    let more : List CollSend := c.children.map fun m => { member := m, off := off, len := p.body.length, avail := true }
    s.collPush { c with added := c.added + p.body.length, sends := c.sends ++ more }

end Sys2Proof.Machine
end

