-- ==== Sys2Proof/Machine/Remote.lean ====
section
/-! DEFINITION. Requests from peers performed here (R345, R346), their completions at the originator (R352), remote signals
and the tide pool (R297-R300), guyline releases and fabric barriers (R288-R294). -/
namespace Sys2Proof.Machine

open Sys2Proof

/-! Requests performed here. -/

/-- Whether a packet of a kind is for this device now: it is addressed to it, and the module's ports and memory run. -/
def State.takes (s : State) (p : Packet) (kind : Nat) : Bool :=
  p.kind == kind && p.dst == s.devId && s.devId != 0xFFF && decide (s.fld Reg.LNT_STATUS_STATE ≤ 1)

/-- An arriving request wakes a module in DOZE (R418). -/
def State.dozeRequest (s : State) (p : Packet) : State :=
  if isRequest p ∧ p.dst = s.devId ∧ s.fld Reg.LNT_STATUS_STATE = 2 then { s with power := { s.power with waking := true } } else s

/-- The number of the tally at an address. -/
def tallyNo (a : Nat) : Nat :=
  match region a with
  | .tally _ off => off / 8 % 1024
  | _ => 0

/-- A remote signal that its target refuses (R282), with the DETAIL of R306. -/
def State.refuseSignal (s : State) (p : Packet) : State :=
  ((s.event Code.SIGNAL_REFUSED p.pitch locFabric (tallyDetail p.seqn (s.settled p.pitch p.src) (tallyNo p.addr) 8 0 p.src)).answer p
    Code.SIGNAL_REFUSED []).settle p

/-- What refuses a request before its access: form (R345), control space and job (R346). -/
def State.requestCheck (s : State) (p : Packet) (formOk : Bool) : Nat :=
  if !formOk then Code.FABRIC_AUTH_FAIL
  else if region p.addr = .control then Code.FABRIC_CONTROL_REFUSED
  else if p.job ≠ (s.job p.pitch).num ∨ p.job = 0 then Code.MEM_OWNER_MISMATCH
  else match region p.addr with
    | .tally .. => Code.ADDRESS_RESERVED
    | .guyline .. => Code.ADDRESS_RESERVED
    | _ => 0

/-- A request performed whole: the tracker's checks, the refusals, the access, its answer. An access that must wait leaves
the state as it was (log 20). -/
def State.serveRequest (s : State) (p : Packet) (tagOk : Bool) (kind : Nat) (formOk : Bool) (access : State → Acc (State × Bytes)) :
    State :=
  if !s.takes p kind then s.dozeRequest p
  else
    let (ok, s1) := s.accept p tagOk
    if !ok then s1
    else
      let c := s1.requestCheck p formOk
      if c ≠ 0 then s1.refuse p c
      else match access s1 with
        | .wait => s
        | .err code a => ((s1.memEvent p.pitch code a).answer p code []).settle p
        | .ok (s2, data) => (s2.answer p 0 data).settle p

/-- Whether `n` bytes at an address stay within 256. -/
def within256 (a n : Nat) : Bool := decide (1 ≤ n) && decide (a % 256 + n ≤ 256)

/-- REMOTE_READ (R345, R346). -/
def execRemoteRead (pkt : Packet) (tagOk : Bool) (s : State) : Host.Outcome State Fault Refusal :=
  .next (s.serveRequest pkt tagOk kindRead (within256 pkt.addr pkt.seqn) fun t =>
    match t.readAt pkt.pitch (t.mapOf pkt.pitch) pkt.addr pkt.seqn with
    | .ok bs => .ok (t, bs)
    | .err c a => .err c a
    | .wait => .wait)

/-- REMOTE_WRITE (R345, R346); a broadcast's span is passed on (R362). -/
def execRemoteWrite (pkt : Packet) (tagOk : Bool) (s : State) : Host.Outcome State Fault Refusal :=
  .next (s.serveRequest pkt tagOk kindWrite (within256 pkt.addr pkt.body.length) fun t =>
    match t.writeAt pkt.pitch (t.mapOf pkt.pitch) none pkt.addr pkt.body with
    | .ok t1 => .ok (t1.collForward pkt, [])
    | .err c a => .err c a
    | .wait => .wait)

/-- Whether an add packet has the form of R345. -/
def addFormOk (p : Packet) : Bool :=
  let t := AddType.ofCode p.etype
  let n := p.body.length / t.addend
  decide (p.etype ≤ 4) && decide (p.body.length % t.addend = 0) && decide (p.addr % t.size = 0) && within256 p.addr (n * t.size)

/-- An add packet's addends performed at their adders. -/
def State.addPacket (s : State) (p : Packet) : Acc State :=
  let t := AddType.ofCode p.etype
  s.addAt p.pitch (s.mapOf p.pitch) t p.addr ((chunkNums t.addend p.body).map some)

/-- REMOTE_ADD (R316, R317, R345). -/
def execRemoteAdd (pkt : Packet) (tagOk : Bool) (s : State) : Host.Outcome State Fault Refusal :=
  .next (s.serveRequest pkt tagOk kindAdd (addFormOk pkt) fun t =>
    match t.addPacket pkt with
    | .ok t1 => .ok (t1, [])
    | .err c a => .err c a
    | .wait => .wait)

/-- REMOTE_ADD_REDUCE (R317): the completion returns what stands there after the add. -/
def execRemoteAddReduce (pkt : Packet) (tagOk : Bool) (s : State) : Host.Outcome State Fault Refusal :=
  .next (s.serveRequest pkt tagOk kindAddReduce (addFormOk pkt) fun t =>
    match t.addPacket pkt with
    | .ok t1 =>
      let ty := AddType.ofCode pkt.etype
      match t1.readAt pkt.pitch (t1.mapOf pkt.pitch) pkt.addr (pkt.body.length / ty.addend * ty.size) with
      | .ok bs => .ok (t1, bs)
      | .err c a => .err c a
      | .wait => .wait
    | .err c a => .err c a
    | .wait => .wait)

/-- The result of a 64-bit atomic (R345): 0 swap, 1 add, 2 and, 3 or, 4 xor, 5 max, 6 min, 7 maxu, 8 minu. -/
def amoResult (op old x : Nat) : Nat :=
  match op with
  | 0 => x
  | 1 => (old + x) % 2 ^ 64
  | 2 => old &&& x
  | 3 => old ||| x
  | 4 => old ^^^ x
  | 5 => if signed 64 old < signed 64 x then x else old
  | 6 => if signed 64 x < signed 64 old then x else old
  | 7 => max old x
  | _ => min old x

/-- REMOTE_AMO (R316, R345): performed where there is an adder; the completion returns the old value. -/
def execRemoteAmo (pkt : Packet) (tagOk : Bool) (s : State) : Host.Outcome State Fault Refusal :=
  .next (s.serveRequest pkt tagOk kindAmo (pkt.subtype ≤ 8 && pkt.body.length == 8 && pkt.addr % 8 == 0) fun t =>
    let m := t.mapOf pkt.pitch
    let adder : Bool := match (translate m pkt.addr).map region with
      | some (.store _) => false
      | _ => true
    if !adder then .err Code.ADDRESS_RESERVED pkt.addr
    else match t.readNum pkt.pitch m pkt.addr 8 with
    | .ok old =>
      match t.writeAt pkt.pitch m none pkt.addr (toBytes 8 (amoResult pkt.subtype old (ofBytes pkt.body))) with
      | .ok t1 => .ok (t1, toBytes 8 old)
      | .err c a => .err c a
      | .wait => .wait
    | .err c a => .err c a
    | .wait => .wait)

/-! Remote signals (R297-R300). -/

/-- The packet that a parked signal answers. -/
def Parked.pkt (x : Parked) (job : Nat) : Packet :=
  { blankPacket with kind := kindSignal, pitch := x.pitch, job := job, src := x.source, tag := x.tag, seqn := x.wm,
                     addr := tallyAddr x.camp x.tally }

/-- A remote signal performs at its tally and is answered (R279, R298). -/
def State.applySignal (s : State) (x : Parked) : State :=
  let (code, s1) := s.tallyAdd x.camp x.tally x.amount 8 0 x.source
  s1.answer (x.pkt (s.job x.pitch).num) code []

/-- Whether a signal must still wait for writes of its pair (R298). -/
def State.signalWaits (s : State) (x : Parked) : Bool := newer 32 x.wm (s.settled x.pitch x.source)

/-- The tally that a signal's address names in a pitch. -/
def State.signalTally (s : State) (pitch addr : Nat) : Option (Nat × Nat) :=
  match (translate (s.mapOf pitch) addr).map region with
  | some (.tally c off) => if off < 2 ^ 13 ∧ off % 8 = 0 then some (c, off / 8) else none
  | _ => none

/-- A signal parks in its pitch's part of the tide pool, or is held in the link (R298, R299). -/
def State.parkSignal (s : State) (x : Parked) : State :=
  if s.poolUsed x.pitch < s.poolSize x.pitch then
    ({ s with sync := { s.sync with pool := s.sync.pool ++ [{ x with held := false }] } } : State).accum Reg.TPL_PARKED 1 x.pitch
  else
    ({ s with sync := { s.sync with pool := s.sync.pool ++ [{ x with held := true }] } } : State).bump Ctr.TPL_HELD x.pitch locFabric x.pitch

/-- The oldest held signal of a pitch parks if there is room. -/
def State.promoteOne (s : State) (pitch : Nat) : State :=
  match s.sync.pool.find? fun x => decide (x.pitch = pitch) && x.held with
  | none => s
  | some x =>
    if s.poolUsed pitch < s.poolSize pitch then
      ({ s with sync := { s.sync with pool := s.sync.pool.map fun y => if y = x then { x with held := false } else y } } : State).accum
        Reg.TPL_PARKED 1 pitch
    else s

/-- Held signals of a pitch park, oldest first, as long as there is room. -/
def State.promote (s : State) (pitch : Nat) : State := s.sync.pool.foldl (fun t _ => t.promoteOne pitch) s

/-- The parts of the tide pool have changed (R299): every pitch's held signals take what room there is. -/
def State.promoteAll (s : State) : State := (List.range 9).foldl State.promote s

/-- REMOTE_SIGNAL (R282, R298): applied, parked, or refused; it wakes a module in IDLE (R418). -/
def execRemoteSignal (pkt : Packet) (tagOk : Bool) (s : State) : Host.Outcome State Fault Refusal :=
  if !s.takes pkt kindSignal then .next (s.dozeRequest pkt)
  else
    let (ok, s0) := s.accept pkt tagOk
    let s1 := s0.wake
    if !ok then .next s0
    else if pkt.body.length ≠ 4 ∨ pkt.addr % 8 ≠ 0 then .next (s1.refuse pkt Code.FABRIC_AUTH_FAIL)
    else if region pkt.addr = .control then .next (s1.refuse pkt Code.FABRIC_CONTROL_REFUSED)
    else if pkt.job ≠ (s.job pkt.pitch).num ∨ pkt.job = 0 then .next (s1.refuseSignal pkt)
    else match s1.signalTally pkt.pitch pkt.addr with
      | none => .next (s1.refuseSignal pkt)
      | some (c, t) =>
        let x : Parked :=
          { pitch := pkt.pitch, source := pkt.src, camp := c, tally := t, amount := ofBytes pkt.body, wm := pkt.seqn, tag := pkt.tag
            held := false }
        .next (if s1.signalWaits x then s1.parkSignal x else s1.applySignal x)

/-- PARKED_SIGNAL_APPLY (R298): the oldest signal whose WM has been reached is applied. -/
def execParkedSignalApply (s : State) : Host.Outcome State Fault Refusal :=
  match s.sync.pool.find? fun x => !s.signalWaits x with
  | none => .next s
  | some x =>
    if s.fld Reg.LNT_STATUS_STATE ≠ 0 then .next s
    else .next ((({ s with sync := { s.sync with pool := s.sync.pool.erase x } } : State).applySignal x).promote x.pitch)

/-- SIGNAL_AHEAD (R300): a signal not applied within 200 µs is discarded; one that is ready is applied instead. -/
def execSignalAhead (n : Nat) (s : State) : Host.Outcome State Fault Refusal :=
  match s.sync.pool[n]? with
  | none => .next s
  | some x =>
    if !s.signalWaits x then .next s
    else
      let s1 := (({ s with sync := { s.sync with pool := s.sync.pool.erase x } } : State).bump Ctr.TPL_AHEAD x.pitch locFabric x.pitch).event
        Code.SIGNAL_AHEAD x.pitch locFabric (tallyDetail x.wm (s.settled x.pitch x.source) x.tally 8 0 x.source)
      .next ((s1.answer (x.pkt (s.job x.pitch).num) Code.SIGNAL_AHEAD []).promote x.pitch)

/-! Completions at the originator (R352). -/

/-- Data read for a descriptor goes to its place: added under a DMA_REDUCE, stored otherwise. -/
def State.landData (s : State) (k : Nat) (f : Flight) (dst : Nat) (data : Bytes) : Acc State :=
  let p := s.slotPitch k
  if data = [] then .ok s
  else if dType f.word = tDmaReduce then
    let op := bits f.word 419 416
    s.addAt p f.map (reduceAdd op) dst ((addendsOf op data).map some)
  else s.writeAt p f.map (some (slotCamp k)) dst data

/-- A request has ended with a status: its originator goes on. -/
def State.ended (s : State) (r : FabReq) (status : Nat) (data : Bytes) : State :=
  match r.origin with
  | .flight uid dst =>
    match s.flightOf uid with
    | none => s
    | some (k, f) =>
      if status ≠ 0 ∧ r.pkt.kind = kindSignal then s.setFlight uid fun g => { g.part status with keep := [r.pkt.seqn] }
      else if status ≠ 0 ∨ (s.slot k).aborting then s.setFlight uid (·.part status)
      else match s.landData k f dst data with
        | .ok s1 => s1.setFlight uid (·.part 0)
        | .err c _ => s.setFlight uid (·.part c)
        | .wait => s.setFlight uid (·.part 0)
  | .peg p =>
    let x := (s.peg p).count r.pkt.dst false
    let x1 := if status ≠ 0 ∧ r.pkt.dst ∉ x.failed then { x with failed := x.failed ++ [r.pkt.dst] } else x
    match x1.block with
    | some (.wfence rd t) =>
      if t = r.pkt.dst ∧ sget 0 x1.outstanding t = 0 then s.setPeg p (x1.fenceDone rd t) else s.setPeg p x1
    | _ => s.setPeg p x1
  | .pull cid step =>
    match s.coll r.pkt.pitch cid with
    | none => s
    | some c =>
      if status ≠ 0 then s.collFault c status r.pkt.dst 0
      else s.collAdvance { c with pulls := c.pulls.erase step, arrived := c.arrived ++ [(step, data)] }
  | .push cid member =>
    match s.coll r.pkt.pitch cid with
    | none => s
    | some c =>
      if status ≠ 0 then s.collFault c status r.pkt.dst r.pkt.addr else s.collCheck { c with unacked := c.unacked.erase member }

/-- Whether data of an answer could be put in its place now. -/
def State.landWaits (s : State) (r : FabReq) (status : Nat) (data : Bytes) : Bool :=
  match r.origin with
  | .flight uid dst =>
    match s.flightOf uid with
    | some (k, f) =>
      decide (status = 0) && (match s.landData k f dst data with
        | .wait => true
        | _ => false)
    | none => false
  | _ => false

/-- REMOTE_COMPLETION (R350, R352): it ends its request; one for a timed-out tag is discarded and counted. -/
def execRemoteCompletion (pkt : Packet) (tagOk : Bool) (s : State) : Host.Outcome State Fault Refusal :=
  if pkt.kind ≠ kindCompletion ∨ pkt.dst ≠ s.devId ∨ s.devId = 0xFFF then .next s
  else
    let (ok, s1) := s.accept pkt tagOk
    if !ok then .next s1
    else if s.fab.late.any fun x => decide (x.1 = pkt.tag) then .next (s1.bump Ctr.TWY_LATE pkt.pitch locFabric pkt.pitch)
    else match s.fab.reqs.find? fun r => decide (r.stage = 1 ∧ r.pkt.tag = pkt.tag ∧ r.pkt.pitch = pkt.pitch) with
      | none => .next s1
      | some r =>
        if pkt.status = Code.FABRIC_BUSY then
          .next { s1 with fab := { s1.fab with reqs := s1.fab.reqs.map fun x => if x = r then { r with stage := 2 } else x } }
        else if s.landWaits r pkt.status pkt.body then .next s
        else
          .next ((({ s1 with fab := { s1.fab with reqs := s1.fab.reqs.erase r } } : State).pump).ended r
            pkt.status pkt.body)

/-- FABRIC_REQUEST_TIMEOUT (R352): a request without its COMPLETION ends with FABRIC_TIMEOUT, and its tag rests. -/
def execFabricRequestTimeout (tag : BitVec 16) (s : State) : Host.Outcome State Fault Refusal :=
  match s.fab.reqs.find? fun r => decide (r.stage ≠ 0 ∧ r.pkt.tag = tag.toNat) with
  | none => .next s
  | some r =>
    let s1 : State := { s with fab := { s.fab with reqs := s.fab.reqs.erase r, late := s.fab.late ++ [(tag.toNat, false)] } }
    let p := r.pkt.pitch
    let s2 := (s1.bump Ctr.TWY_TIMEOUT p locFabric p).event Code.FABRIC_TIMEOUT p locFabric (fabDetail r.pkt.dst 0 0 r.pkt.tag r.pkt.addr)
    .next (s2.pump.ended r Code.FABRIC_TIMEOUT [])

/-! Guyline releases and fabric barriers (R288, R292-R294). -/

/-- The root holds an ARRIVE; with one from every participant it sends RELEASE to each and ends its own round (log 47). -/
def State.rootArrive (s : State) (g dev : Nat) (thr : Bool) (slack : Nat) : State :=
  let p := s.fld Reg.GUY_CFG_PITCH g
  let j := s.job p
  let s1 : State := if (g, dev) ∈ s.sync.arrives then s else { s with sync := { s.sync with arrives := s.sync.arrives ++ [(g, dev)] } }
  if j.parts.all fun d => decide ((g, d) ∈ s1.sync.arrives) then
    let r := s1.guy g
    let body := barrierBody 2 s.devId dev (ofBool thr) 0 0 g j.num r.fbRound
    ((j.parts.filter (· ≠ s.devId)).foldl (fun t d => t.message p j.num 1 d body 16) s1).roundReleased g dev (ofBool thr)
      (if r.fbRound = 0 then 0 else slack)
  else s1

/-- GUYLINE_RELEASE (R288, R292): the root finds a round complete and releases it; on a fabric guyline the unit sends
ARRIVE, and releases at once in a job of one device. -/
def execGuylineRelease (guy : Guyline) (slack : BitVec 16) (s : State) : Host.Outcome State Fault Refusal :=
  let g := guy.val
  let j := s.job (s.fld Reg.GUY_CFG_PITCH g)
  if !s.roundComplete g then .next s
  else if s.fld Reg.GUY_CFG_FABRIC g = 0 then .next (s.releaseRound g)
  else if s.sync.arriving.any fun x => decide (x.1 = g) then .next s
  else
    let thr := decide (g ∈ s.sync.bubbled)
    let s1 : State := { s with sync := { s.sync with
      arriving := s.sync.arriving ++ [(g, thr)], bubbled := s.sync.bubbled.filter (· ≠ g) } }
    if j.parts.headD s.devId = s.devId then .next (s1.rootArrive g s.devId thr slack.toNat)
    else .next (s1.sendArrive g thr)

/-- FABRIC_ARRIVE (R292, R294): the root device takes an ARRIVE, or answers one of a released round again. -/
def execFabricArrive (pkt : Packet) (tagOk : Bool) (slack : BitVec 16) (s : State) : Host.Outcome State Fault Refusal :=
  let b := ofBytes pkt.body
  if !s.takesMessage pkt 1 ∨ bits b 127 124 ≠ 1 then .next s
  else
    let (ok, s1) := s.accept pkt tagOk
    let g := bits b 68 64
    let p := s.fld Reg.GUY_CFG_PITCH g
    let j := s.job p
    let dev := bits b 123 112
    if !ok ∨ p ≠ pkt.pitch ∨ j.num ≠ bits b 63 48 ∨ j.num = 0 ∨ dev ∉ j.parts ∨ j.parts.head? ≠ some s.devId
        ∨ s.fld Reg.GUY_CFG_FABRIC g = 0 then .next s1
    else
      let r := s1.guy g
      if bits b 31 0 = r.fbRound then .next (s1.rootArrive g dev (bit b 98) slack.toNat)
      else if newer 32 (bits b 31 0) r.fbRound then .next s1
      else .next (s1.message p j.num 1 dev (barrierBody 2 s.devId r.lastDev r.lastThr 0 0 g j.num (bits b 31 0)) 16)

/-- FABRIC_RELEASE (R292, R294, R404, R405): the device's current round is released. -/
def execFabricRelease (pkt : Packet) (tagOk : Bool) (slack : BitVec 16) (s : State) : Host.Outcome State Fault Refusal :=
  let b := ofBytes pkt.body
  if !s.takesMessage pkt 1 ∨ bits b 127 124 ≠ 2 then .next s
  else
    let (ok, s1) := s.accept pkt tagOk
    let g := bits b 68 64
    let p := s.fld Reg.GUY_CFG_PITCH g
    let j := s.job p
    if !ok ∨ p ≠ pkt.pitch ∨ j.num ≠ bits b 63 48 ∨ j.num = 0 ∨ bits b 123 112 ∉ j.parts ∨ s.fld Reg.GUY_CFG_FABRIC g = 0
        ∨ bits b 31 0 ≠ (s1.guy g).fbRound ∨ !(s1.sync.arriving.any fun x => decide (x.1 = g)) then .next s1
    else .next (s1.roundReleased g (bits b 111 100) (bits b 99 99) slack.toNat)

/-- FABRIC_ARRIVE_RESEND (R294): an ARRIVE that awaits its RELEASE is sent again, and counted. -/
def execFabricArriveResend (guy : Guyline) (s : State) : Host.Outcome State Fault Refusal :=
  let g := guy.val
  let p := s.fld Reg.GUY_CFG_PITCH g
  match s.sync.arriving.find? fun x => decide (x.1 = g) with
  | none => .next s
  | some (_, thr) =>
    if (s.job p).parts.head? = some s.devId then .next s
    else .next ((s.sendArrive g thr).bump Ctr.FB_RESENDS p (locHarbour 0x0C) p)

end Sys2Proof.Machine
end

