-- ==== Sys2Proof/Machine/Fence.lean ====
section
/-! DEFINITION. Fencing (R469-R474): units by location word, latches, strikes, the fence of a lane, engine and camp with what
becomes of the work caught by it, and the move of a fenced camp's work to a host. -/
namespace Sys2Proof.Machine

open Sys2Proof

/-! Units (R12, R390, R469). -/

/-- A unit that FENCE can name. -/
inductive FUnit where
  | lane (e l : Nat)
  | engine (e : Nat)
  | camp (c : Nat)
  | die (d : Nat)
  | pc (n : Nat)
  | bank (d b : Nat)
  | port (n : Nat)
  | host (n : Nat)
  deriving DecidableEq, Repr

/-- Whether a location word has a reserved UCLASS, or names memory or a port at a LEVEL that its class does not have (R12, R390). -/
def locReserved (u level : Nat) : Bool :=
  decide (12 ≤ u) || (u == 4 && level != 6) || (u == 5 && level != 5) || ((u == 6 || u == 7) && level != 7)

/-- The unit of a location word, or the code that refuses it (R390, R469, log 74). -/
def unitOf (loc : Nat) : Except Nat FUnit :=
  let level := bits loc 31 29
  let u := bits loc 28 25
  let camp := bits loc 24 24 * 8 + bits loc 23 21
  if locReserved u level then .error Code.MBX_FORMAT_INVALID
  else if u = 0 ∧ 1 ≤ level ∧ level ≤ 2 then .ok (.lane (camp * 8 + bits loc 20 18) (bits loc 17 10))
  else if u = 0 ∧ level = 3 then .ok (.engine (camp * 8 + bits loc 20 18))
  else if level = 4 ∧ (u ≤ 3 ∨ u = 9) then .ok (.camp camp)
  else if u = 0 ∧ 5 ≤ level ∧ level ≤ 6 then .ok (.die (bits loc 24 24))
  else if u = 4 then .ok (.pc (bits loc 24 24 * 256 + bits loc 22 21 * 64 + bits loc 20 15))
  else if u = 5 then .ok (.bank (bits loc 24 24) (bits loc 23 14))
  else if u = 6 ∧ bits loc 24 19 < 36 then .ok (.port (bits loc 24 19))
  else if u = 7 then .ok (.host (bits loc 24 24))
  else .error Code.FENCE_UNIT_INVALID

/-- The location word of a unit. -/
def FUnit.loc : FUnit → Nat
  | .lane e l => locLane e l
  | .engine e => locEngine e
  | .camp c => locCamp c
  | .die d => locWord 5 0 (d <<< 24)
  | .pc n => locPc n
  | .bank d b => locBank d b
  | .port n => locPort n
  | .host n => locHost n

/-! Latches (R469, R486). -/

/-- The latch of a lane. -/
def State.laneLatch (s : State) (e l : Nat) : Nat := bits (s.fld Reg.FEN_LANE_STATE e (l / 16)) (2 * (l % 16) + 1) (2 * (l % 16))

/-- The state with a lane's latch set. -/
def State.setLane (s : State) (e l v : Nat) : State :=
  s.setFld Reg.FEN_LANE_STATE (setBits (s.fld Reg.FEN_LANE_STATE e (l / 16)) (2 * (l % 16) + 1) (2 * (l % 16)) v) e (l / 16)

/-- Whether any lane of any engine is being fenced. -/
def State.lanesFencing (s : State) : Bool :=
  (List.range 128).any fun e => (List.range 16).any fun w =>
    let v := s.fld Reg.FEN_LANE_STATE e w
    v != 0 && (List.range 16).any fun i => bits v (2 * i + 1) (2 * i) == 1

/-- How many of an engine's lanes are fenced. -/
def State.lanesFenced (s : State) (e : Nat) : Nat := ((List.range 256).filter fun l => s.laneLatch e l == 2).length

/-- The latch of a unit (R469): a die reads FENCED when all its camps do; the other units read FENCED while they are dead, fenced
or held down. -/
def State.latch (s : State) : FUnit → Nat
  | .lane e l => s.laneLatch e l
  | .engine e => s.fld Reg.FEN_STATE_ENG_STATE e
  | .camp c => s.fld Reg.FEN_STATE_CAMP_STATE c
  | .die d =>
    let v := (List.range 8).map fun i => s.fld Reg.FEN_STATE_CAMP_STATE (8 * d + i)
    if v.all (· == 2) then 2 else if v.all (· == 0) then 0 else if v.any (· == 3) then 3 else 1
  | .pc n => if s.pcLive n then 0 else 2
  | .bank d b => if s.bankLive d b then 0 else 2
  | .port n => if s.fld Reg.TWY_PORT_CFG_ENABLE n = 1 then 0 else 2
  | .host n => if s.fld Reg.HE_STATUS_STATE (36 + n) = 0 then 2 else 0

/-- Firmware's own record of a unit (R472, log 75). -/
def State.unitRecord (s : State) (u : FUnit) : Nat :=
  match u with
  | .lane .. => sget 0 s.rel.records u.loc
  | .engine .. => sget 0 s.rel.records u.loc
  | .camp .. => sget 0 s.rel.records u.loc
  | _ => s.latch u

/-- The state with a latch set, and firmware's record with it. -/
def State.setLatch (s : State) (u : FUnit) (v : Nat) : State :=
  let s1 := match u with
    | .lane e l => s.setLane e l v
    | .engine e => s.setFld Reg.FEN_STATE_ENG_STATE v e
    | .camp c => s.setFld Reg.FEN_STATE_CAMP_STATE v c
    | _ => s
  { s1 with rel := { s1.rel with records := sset 0 s1.rel.records u.loc v } }

/-- A unit's state read for a reply (R472): the latch and the record as it stood; a skew is settled and counted. -/
def State.readUnit (s : State) (u : FUnit) : Nat × Nat × State :=
  let l := s.latch u
  let r := s.unitRecord u
  if l = r then (l, r, s)
  else
    let s1 : State := { s with rel := { s.rel with records := sset 0 s.rel.records u.loc l } }
    (l, r, (s1.bump Ctr.REL_SKEW 0 locPackage).event Code.UNIT_STATE_SKEW 0 u.loc (atBytes [(0, 0xFFFF)]))

/-- The DETAIL of a fence, check or strike event (R488). -/
def relDetail (lane sub strikes index : Nat) : Nat := atBytes [(0, lane), (2, sub), (3, strikes % 256), (4, index % 2 ^ 32)]

/-- The strikes standing against a unit (R462). -/
def State.strikesOf (s : State) (u : FUnit) : Nat := sget 0 s.rel.strikes u.loc

/-- A strike recorded (R462); `recent` tells whether the one before it still lies in the window. -/
def State.strike (s : State) (u : FUnit) (recent : Bool) : State :=
  let n := if recent then s.strikesOf u + 1 else 1
  { s with rel := { s.rel with strikes := sset 0 s.rel.strikes u.loc n } }

/-- The camp of a unit. -/
def FUnit.campOf : FUnit → Nat
  | .lane e _ => e / 8
  | .engine e => e / 8
  | .camp c => c
  | _ => 0

/-- A break of the repeatable-timing setting of a pitch (R407), reported at its lead camp (log 76). -/
def State.repeatBroken (s : State) (p cause : Nat) : State :=
  if s.fld Reg.GOV_PITCH_CFG_REPEAT p = 1 then s.event Code.REPEAT_BROKEN p (locSlot (4 * s.leadCamp p)) (atBytes [(6, cause)]) else s

/-- The lane of a unit in a DETAIL. -/
def FUnit.laneNo : FUnit → Nat
  | .lane _ l => l
  | _ => 0xFFFF

/-- Deferred replies to FENCE that a latch now satisfies (R390): the latch state as the reply's body. -/
def State.settleFenceWaits (s : State) : State :=
  let done : List WaitOn := (s.host.waits.filterMap fun w => match w.on with
    | .fence loc => match unitOf loc with
      | .ok u => if s.latch u = 2 then some w.on else none
      | .error _ => none
    | _ => none).eraseDups
  done.foldl (fun t on => t.replyWaits on 0 (fun _ => toBytes 4 2)) s

/-- A latch reads FENCED (R470): cause and HARD, FENCE_DONE, its count and its logbook entry, then the replies that waited. -/
def State.fenceDone (s : State) (u : FUnit) (hard : Bool) (cause : Nat) : State :=
  let s1 := match u with
    | .engine e => (s.setFld Reg.FEN_STATE_ENG_HARD (ofBool hard) e).setFld Reg.FEN_STATE_ENG_CAUSE cause e
    | .camp c => (s.setFld Reg.FEN_STATE_CAMP_HARD (ofBool hard) c).setFld Reg.FEN_STATE_CAMP_CAUSE cause c
    | _ => s
  let s2 := s1.setLatch u 2
  let s3 := (s2.event Code.FENCE_DONE 0 u.loc (relDetail u.laneNo cause (s.strikesOf u) 0)).bump Ctr.REL_FENCES 0 locPackage
  let s4 := match s.host.waits.find? fun w => decide (w.on = .fence u.loc) with
    | some w => s3.log 0x42 (((s.session w.session).map (fun (x : Session) => x.role)).getD actorFirmware) 0 w.session w.tod [u.loc, 0, 2]
    | none => s3.log 0x42 actorFirmware 0 0 0 [u.loc, 0, 2]
  (s4.repeatBroken (s.campPitch u.campOf) 3).settleFenceWaits

/-! Work taken off a unit. -/

/-- Rectangles given back to a product to be dealt again. -/
def State.giveBack (s : State) (l : List (Nat × Rect)) : State :=
  l.foldl (fun t x => t.mapProduct x.1 fun p => { p with todo := x.2 :: p.todo }) s

/-- The blocks that an engine holds. -/
def EngRec.blocks (x : EngRec) : List (Nat × Rect) :=
  (x.plots.filter fun q => decide (q.plot < 16)).map (fun q => (q.uid, q.rect)) ++ x.banks.map (fun b => (b.uid, b.rect)) ++ x.queue
    ++ x.denied.map (fun d => (d.1, d.2.1))

/-- The bank that the drain is in. -/
def EngRec.inDrain (x : EngRec) : Option BankRec := 
  match x.draining with
  | some p => x.banks.find? fun b => decide (b.plot = p)
  | none => none

/-- A drain cut short: a free number of a bank's elements have left, in drain order (log 24). -/
def State.cutDrain (s : State) (e : Nat) (p : Product) (b : BankRec) : Nat × State :=
  let (n, s1) := s.draw (b.acc.length + 1)
  let whole := n / max b.rect.cols 1
  let d := s1.drainBlock e p { b.rect with rows := whole } b.acc
  if d.code ≠ 0 then (ofBool d.wrote, d.s)
  else match d.s.drainRow e p (b.rect.row + whole) b.rect.col ((b.acc.drop (whole * b.rect.cols)).take (n % max b.rect.cols 1)) with
    | .ok s2 => (n, s2)
    | _ => (whole, d.s)

/-- An engine emptied: no block, bank or panel on it; STATE reads fenced while it or its camp is fenced, and idle otherwise. -/
def State.emptyEngine (s : State) (e : Nat) : State :=
  (s.setEngine e .empty).setEngState e (if s.fld Reg.FEN_STATE_ENG_STATE e = 2 ∨ s.campFenced (e / 8) then 8 else 0) 0

/-- The work of a fenced engine (R470): its blocks go back to be dealt again, but for an add whose drain had begun. -/
def State.takeEngineWork (s : State) (e : Nat) : State :=
  let x := s.engine e
  let back (t : State) : State := t.giveBack (x.blocks.filter fun b => (t.product b.1).isSome)
  let t := s.emptyEngine e
  let t1 := match x.inDrain with
    | none => back t
    | some b => match t.product b.uid with
      | none => back t
      | some p =>
        let (n, t1) := t.cutDrain e p b
        if n ≠ 0 ∧ oAdd p.orec ∧ !p.carryOut then
          let q := { p with wrote := true }
          back (((t1.mapProduct p.uid fun _ => q).event Code.UNIT_FENCED p.pitch (locEngine e) (relDetail 0xFFFF 0 0 0)).productFaulted q
            Code.UNIT_FENCED)
        else back (t1.mapProduct p.uid fun r => { r with wrote := r.wrote || n != 0 })
  t1.settleCamp (e / 8)

/-- A VPROG's add ends at its header (R205); `keep` of its flight begins with the header's address while it makes one. A held one
has not begun. -/
def State.closeAdd (s : State) (f : Flight) (wrote completed : Bool) : State :=
  if dType f.word = tVprog ∧ f.uid ∉ s.eng.held then
    match f.keep with
    | a :: _ => s.gsUpdate f.map a (gsEnd wrote completed)
    | [] => s
  else { s with eng := { s.eng with held := s.eng.held.filter (· ≠ f.uid) } }

/-- A drain cut short before its descriptor ends: what had left stays written. -/
def State.cutInDrain (s : State) (e : Nat) (uids : List Nat) : State :=
  match (s.engine e).inDrain with
  | none => s
  | some b =>
    if b.uid ∉ uids then s
    else match s.product b.uid with
      | none => s
      | some p =>
        let (n, s1) := s.cutDrain e p b
        s1.mapProduct p.uid fun r => { r with wrote := r.wrote || n != 0 }

/-- The block of a descriptor that an engine's drain is in drained to its end (R175): no further block is. -/
def State.finishInDrain (s : State) (e uid : Nat) : State :=
  match (s.engine e).inDrain with
  | none => s
  | some b =>
    if b.uid ≠ uid then s
    else match s.product b.uid with
      | none => s
      | some p =>
        let d := s.drainBlock e p b.rect b.acc
        d.s.mapProduct p.uid fun r => { r with wrote := r.wrote || d.wrote }

/-- A flight ended without a completion signal: its product leaves the engines, its requests not yet sent are withdrawn, its
collective is forgotten, its put is no longer pending, its Groundsheet header is closed (R174, R175, R205, R208). Where `whole`, the
block in a drain drains to its end first, as a forced abort asks. -/
def State.dropFlight (s : State) (k : Nat) (f : Flight) (whole : Bool := false) : State :=
  let s0 := match s.product f.uid with
    | some p => ((List.range 8).map (· + 8 * p.camp)).foldl
        (fun (t : State) e => if whole then t.finishInDrain e f.uid else t.cutInDrain e [f.uid]) s
    | none => s
  let s1 := match s0.product f.uid with
    | some p => s0.dropProduct p false
    | none => s0.closeAdd f true false
  let s2 := (s1.withdraw f.uid).dropColl f.uid
  if dType f.word = tStashPut ∧ f.left ≠ 0 then s2.putSettled k f else s2

/-- An agent leaves every wait: its tally's queue with nothing subtracted, its guyline (the arrival stays latched). -/
def State.leaveWaits (s : State) (a : Agent) : State :=
  let s1 := s.leaveQueue a
  { s1 with sync := { s1.sync with
      guyWaits := s1.sync.guyWaits.filter (fun w => decide (w.agent ≠ a)), longWaits := s1.sync.longWaits.filter (· ≠ a) } }

/-- Every flight of a slot ended. -/
def State.dropFlights (s : State) (k : Nat) : State :=
  let s1 := (s.slot k).allFlights.foldl (fun t f => t.dropFlight k f) (s.leaveWaits (.slot k))
  let x := s1.slot k
  s1.setSlot k { x with chain := none, main := { x.main with flights := [] } }

/-- A slot of a fenced camp halts at its oldest descriptor that has not completed (R174). -/
def State.haltFenced (s : State) (k : Nat) : State :=
  let x := s.slot k
  if x.run.isNone ∨ x.state = 4 ∨ x.aborting then s
  else
    let i := x.oldest
    let s1 := (s.dropFlights k).event Code.STREAM_CAMP_FENCED (s.slotPitch k) (locSlot (s.slotHome k))
      (streamDetail 0 0 x.mbatch i)
    (s1.slotFaulted k s1.issued { idx := i, leg := x.leg, sect := x.legStart, sectMax := x.legMax, code := Code.STREAM_CAMP_FENCED })

/-! The move of a fenced camp's work (R474). -/

/-- Waits queued at a fenced camp's tallies leave with TALLY_UNREACHABLE, their agents blocked no longer (R302). -/
def State.dropTallyWaits (s : State) (c : Nat) : State :=
  (s.sync.waits.filter fun w => decide (w.camp = c)).foldl (fun t w =>
    let t1 : State := { t with sync := { t.sync with
      waits := t.sync.waits.erase w, longWaits := t.sync.longWaits.filter (· ≠ w.agent) } }
    let t2 := t1.tallyFault Code.TALLY_UNREACHABLE w.camp w.tally w.amount w.agent.code w.agent.camp 0
    match w.agent with
    | .slot k =>
      match (t2.slot k).frame.flights.getLast? with
      | some f => t2.flightFaulted k f Code.TALLY_UNREACHABLE
      | none => t2
    | .peg p => (t2.setPeg p { t2.peg p with block := none }).pegTrap p causeStore (tallyAddr w.camp w.tally)) s

/-- The host for a camp's work: the lowest camp of its pitch in service that hosts no camp. -/
def State.hostFor (s : State) (c : Nat) : Option Nat :=
  let p := s.campPitch c
  (List.range 16).find? fun h => (s.mapOf p).camps.testBit h && h != c && s.fld Reg.FEN_STATE_CAMP_STATE h == 0
    && !(s.rel.moved.any fun m => decide (m.2 = h))

/-- A camp's tally words copied between its own bank and the guest bank; the bank left behind reads as after reset. -/
def moveTallies (src dst : Nat) (m : Sparse Tally) : Sparse Tally :=
  let mine := m.filter fun e => decide (e.1 / 1024 = src)
  let rest := m.filter fun e => decide (e.1 / 1024 ≠ src ∧ e.1 / 1024 ≠ dst)
  mine.foldl (fun t e => sset .reset t (dst * 1024 + e.1 % 1024) e.2) rest

/-- A guest context: a stream halted by the fence runs again from the descriptor after its resume point, its touched table as
recorded there; one halted by a fault of its own before stays HALTED. -/
def StreamSlot.asGuest (x : StreamSlot) (home : Nat) : StreamSlot :=
  match x.run with
  | none => { StreamSlot.idle with queue := x.queue, home := home }
  | some r =>
    if x.faulted.any fun f => decide (f.code ≠ Code.STREAM_CAMP_FENCED) then { x with home := home }
    else
      { StreamSlot.idle with
        state := 1, queue := x.queue, run := some r, resume := x.resume, resumeTouched := x.resumeTouched, touched := x.resumeTouched
        home := home, main := { Frame.empty with base := r.list, next := (x.resume.map fun m => m.2 + 1).getD 0 } }

/-- One slot's context moves to a guest context of the host; one under a forced abort stays until that completes (R175). -/
def State.moveSlot (s : State) (c h i : Nat) : State :=
  let k := s.slotFor c i
  let g := 64 + 4 * h + i
  let x := s.slot k
  if x.aborting then s
  else (s.setSlot k { StreamSlot.idle with home := x.home }).setSlot g (x.asGuest (4 * c + i))

/-- Camp `c`'s Cove buffer and local store mapped or not in its pitch. -/
def State.setDark (s : State) (c : Nat) (dark : Bool) : State :=
  let p := s.campPitch c
  let r := s.pitchRec p
  let d := if dark then r.map.dark ||| 2 ^ c else r.map.dark - (if r.map.dark.testBit c then 2 ^ c else 0)
  s.setPitchRec p { r with map := { r.map with dark := d } }

/-- The work of a fenced camp moved to a host, or left halted when none is free (R474, log 77). -/
def State.moveCamp (s : State) (c : Nat) : State :=
  let p := s.campPitch c
  if p = 0 then s
  else
    let s0 := s.dropTallyWaits c
    match s0.hostFor c with
    | none =>
      let s1 : State := { s0 with
        rel := { s0.rel with moved := s0.rel.moved.filter fun m => decide (m.1 ≠ c) }
        sync := { s0.sync with tallies := if s0.tallyMoved c then moveTallies (16 + c) c s0.sync.tallies else s0.sync.tallies } }
      s1.event Code.MOVE_FAILED p (locCamp c) (atBytes [(0, 0xFFFF)])
    | some h =>
      let s1 := (List.range 4).foldl (fun t i => t.moveSlot c h i) s0
      let s2 : State := { s1 with
        rel := { s1.rel with moved := (c, h) :: s1.rel.moved.filter fun m => decide (m.1 ≠ c) }
        sync := { s1.sync with tallies := if s0.tallyMoved c then s1.sync.tallies else moveTallies c (16 + c) s1.sync.tallies } }
      let s3 := (s2.setFld Reg.FEN_STATE_CAMP_HOST h c).setDark c true
      (List.range 4).foldl (fun t i => t.refill (64 + 4 * h + i)) (s3.event Code.CAMP_MOVED p (locCamp c) (atBytes [(0, 0xFFFF), (10, h)]))

/-! The end of a fence. -/

/-- An engine's latch reads FENCED: its own children settle with it, and its work is dealt again. -/
def State.engineFenced (s : State) (e : Nat) (hard : Bool) (cause : Nat) : State :=
  let s1 := (List.range 256).foldl (fun t l => if t.laneLatch e l = 1 then t.fenceDone (.lane e l) hard (sget 0 t.rel.causes (locLane e l)) else t) s
  (s1.fenceDone (.engine e) hard cause).takeEngineWork e

/-- The cores of a camp stop with their blocked instructions given up. -/
def State.stopPegs (s : State) (c : Nat) : State :=
  (List.range 4).foldl (fun t i =>
    let p := 4 * c + i
    let t1 := t.leaveWaits (.peg p)
    if (t1.peg p).block.isSome then t1.setPeg p { t1.peg p with block := none } else t1) s

/-- A camp's latch reads FENCED (R174, R470, R471, R474). -/
def State.campFencedNow (s : State) (c : Nat) (hard : Bool) (cause : Nat) : State :=
  let es := (List.range 8).map (· + 8 * c)
  let s1 := es.foldl (fun t e => if t.fld Reg.FEN_STATE_ENG_STATE e = 1 then t.engineFenced e hard (sget 0 t.rel.causes (locEngine e)) else t) s
  let s2 := es.foldl (fun t e => (List.range 256).foldl (fun t l =>
    if t.laneLatch e l = 1 then t.fenceDone (.lane e l) hard (sget 0 t.rel.causes (locLane e l)) else t) t) s1
  let s3 := (s2.fenceDone (.camp c) hard cause).noteCampFence c
  let guests := (s3.rel.moved.filter fun m => decide (m.2 = c)).map (·.1)
  let s4 := ((List.range 4).map (· + 4 * c) ++ (List.range 4).map (· + 64 + 4 * c)).foldl State.haltFenced s3
  let s5 := es.foldl State.emptyEngine ((s4.stopPegs c).voteCheck (s.campPitch c))
  (guests.foldl State.moveCamp s5).moveCamp c

/-! The start of a fence (R470, R471). -/

/-- Firmware's cause for a unit that is being fenced. -/
def State.setCause (s : State) (u : FUnit) (cause : Nat) : State :=
  { s with rel := { s.rel with causes := sset 0 s.rel.causes u.loc cause } }

/-- Whether a unit of a fenced camp has already stopped (R471). -/
def State.parentStopped (s : State) : FUnit → Bool
  | .lane e _ => s.campFenced (e / 8)
  | .engine e => s.campFenced (e / 8)
  | _ => false

/-- The latch of a lane, engine or camp reads FENCED. -/
def State.unitFenced (s : State) (u : FUnit) (hard : Bool) (cause : Nat) : State :=
  match u with
  | .engine e => s.engineFenced e hard cause
  | .camp c => s.campFencedNow c hard cause
  | _ => s.fenceDone u hard cause

/-- A fence begins (R470): the latch reads FENCING, or FENCED at once in a fenced camp. -/
def State.startFence (s : State) (u : FUnit) (cause : Nat) : State :=
  if s.latch u ≠ 0 then s
  else if s.parentStopped u then s.unitFenced u false cause
  else (s.setLatch u 1).setCause u cause

/-- A camp with all eight engines fenced, and an engine with more than 32 lanes fenced, are fenced (R462). -/
def State.fenceParents (s : State) (c : Nat) : State :=
  let s1 := ((List.range 8).map (· + 8 * c)).foldl (fun t e =>
    if t.fld Reg.FEN_STATE_ENG_STATE e = 0 ∧ 32 < t.lanesFenced e then t.startFence (.engine e) 9 else t) s
  if s1.fld Reg.FEN_STATE_CAMP_STATE c = 0 ∧ (List.range 8).all (fun i => s1.fld Reg.FEN_STATE_ENG_STATE (8 * c + i) == 2) then
    s1.startFence (.camp c) 11
  else s1

/-- A fence ends at its point (R470 step 2). -/
def State.acknowledge (s : State) (u : FUnit) : State :=
  if s.latch u = 1 then (s.unitFenced u false (sget 0 s.rel.causes u.loc)).fenceParents u.campOf else s

/-- Whether a lane lies in a plot of an engine that holds a block. -/
def State.laneBusy (s : State) (e l : Nat) : Bool :=
  let mode := s.fld Reg.BRK_STATUS_PLOT_MODE e
  (s.engine e).plots.any fun q => decide (q.plot < 16 ∧ plotLane mode q.plot ≤ l ∧ l < plotLane mode q.plot + plotSize mode)

/-- Whether a unit stands at the point where it acknowledges its fence (R469). -/
def State.atFencePoint (s : State) : FUnit → Bool
  | .lane e l => !s.laneBusy e l
  | .engine e => (s.engine e).plots.isEmpty && (s.engine e).banks.isEmpty && (s.engine e).queue.isEmpty && (s.engine e).denied.isEmpty
  | .camp c => ((List.range 4).map (· + 4 * c) ++ (List.range 4).map (· + 64 + 4 * c)).all fun k => (s.slot k).allFlights.isEmpty
  | _ => false

/-- A block boundary of a plot: its fencing lanes acknowledge (R469). -/
def State.ackLanes (s : State) (e plot : Nat) : State :=
  if 16 ≤ plot then s
  else
    let mode := s.fld Reg.BRK_STATUS_PLOT_MODE e
    (List.range (plotSize mode)).foldl (fun t i => t.acknowledge (.lane e (plotLane mode plot + i))) s

/-- A lane hard-fenced: the block of its plot is discarded and runs again on the lanes that remain (R137, R470). -/
def State.laneHard (s : State) (e l cause : Nat) : State :=
  let mode := s.fld Reg.BRK_STATUS_PLOT_MODE e
  let x := s.engine e
  let hit (q : PlotRec) : Bool := decide (q.plot < 16 ∧ plotLane mode q.plot ≤ l ∧ l < plotLane mode q.plot + plotSize mode)
  let mine := x.plots.filter hit
  let s1 := s.setEngine e { x with plots := x.plots.filter (fun q => !hit q), denied := x.denied ++ mine.map (fun q => (q.uid, q.rect, q.fails)) }
  ((s1.fenceDone (.lane e l) true cause).fenceParents (e / 8)).settleCamp (e / 8)

/-- A hard fence (R470 steps 3 to 5). -/
def State.hardFence (s : State) (u : FUnit) (cause : Nat) : State :=
  match u with
  | .lane e l => s.laneHard e l cause
  | _ => (s.unitFenced u true cause).fenceParents u.campOf

/-- What firmware does about a hardware happening. -/
def State.fwRun (s : State) : FwAct → State
  | .fence loc cause => match unitOf loc with
    | .ok u => s.startFence u cause
    | .error _ => s
  | .hard loc cause => match unitOf loc with
    | .ok u => s.hardFence u cause
    | .error _ => s
  | .dead n => s.channelDead n

/-- A happening that needs firmware: acted on now, or queued while a hand-off runs (R505). -/
def State.firmware (s : State) (a : FwAct) : State :=
  if s.boot.hand = 0 then s.fwRun a else { s with boot := { s.boot with putOff := s.boot.putOff ++ [a] } }

/-- A strike, and the fence that a second one brings (R462). -/
def State.strikeFence (s : State) (u : FUnit) (recent : Bool) (cause : Nat) : State :=
  let s1 := s.strike u recent
  if 2 ≤ s1.strikesOf u then s1.firmware (.fence u.loc cause) else s1

/-- Every fence pending on a unit of a camp is acknowledged (R270). -/
def State.acknowledgeCamp (s : State) (c : Nat) : State :=
  let es := (List.range 8).map (· + 8 * c)
  let s1 := es.foldl (fun t e => (List.range 256).foldl (fun t l => t.acknowledge (.lane e l)) t) s
  (es.foldl (fun t e => t.acknowledge (.engine e)) s1).acknowledge (.camp c)

end Sys2Proof.Machine
end

