-- ==== Sys2Proof/Machine/Blocks.lean ====
section
/-! DEFINITION. The rows of the Breaker engines (chapters 02 to 05, R458-R462): a MATMUL's issue, panels, blocks, banks, stalls,
ramps and the margin. -/
namespace Sys2Proof.Machine

open Sys2Proof

/-! MATMUL (R77, R79-R96, R128, R205, R251). -/

/-- The seed of a pitch, or the fault where the signs of R82 are needed and none is set (R81, log 52). -/
def State.seedFor (s : State) (pitch : Nat) (need : Bool) (detail : Nat) : Chk Nat :=
  match (s.pitchRec pitch).rotSeed with
  | some x => .ok x
  | none => if need then bad Code.ROT_SEED_ABSENT detail else .ok 0

/-- Whether an operand is stored rotated. -/
def Operand.rotated (o : Operand) : Bool := o.kind == 1 && qRot o.record != 0

/-- A plain operand's coarse scale taken from its site's record, or marked for the pre-pass (R88-R90). -/
def Operand.scaled (o : Operand) (ofB : Bool) (record : Option Nat) : Operand :=
  if o.kind ≠ 0 then o
  else match record.bind fun w => siteCoarse w ofB o.q with
    | some c => { o with coarse := c }
    | none => { o with prepass := true }

/-- The use of a MATMUL settled (R79, R81, R90, R92, R93, R108): the product with its rung, scales and signs, and the site's record to
be stored with what its advance raises. -/
def State.matmulUse (s : State) (i : Issue) (pl : Plan) : Chk (Product × Option (Nat × SiteMove)) := do
  let p := pl.p
  let site := mSite i.w
  let d := siteDetail site (mStep i.w) 0 0
  let rotated := p.a.rotated || p.b.rotated
  if mMode i.w ≠ 0 then pure (p, none)
  else if !pl.use then do
    let rung := if mProfile i.w = 0 then 1 else mProfile i.w - 1
    let _ ← s.seedFor i.pitch (rotated || mProfile i.w == 1) d
    pure ({ p with rung := rung }, none)
  else if site = 0 then do
    let seed ← s.seedFor i.pitch rotated d
    pure ({ p with rung := 1, pinned := true, signs := siteSigns seed site, a := p.a.scaled false none, b := p.b.scaled true none }, none)
  else do
    let (w, mv) ← s.siteStart i site (mStep i.w) (mLimset i.w)
    let rung := startRung (mProfile i.w) w
    let seed ← s.seedFor i.pitch (rotated || rung == 0) d
    pure ({ p with rung := rung, signs := siteSigns seed site, a := p.a.scaled false (some w), b := p.b.scaled true (some w) }, some (w, mv))

/-- What earlier legs of a MATMUL leave for this one (R189, R255). -/
def State.legUse (s : State) (slot idx leg : Nat) : LegUse :=
  ((if leg = 0 then none else s.eng.legUses.find? fun u => decide (u.slot = slot ∧ u.idx = idx))).getD
    { slot := slot, idx := idx, amaxA := 0, amaxB := 0, coarseA := none, coarseB := none, tripped := false, floored := false, lostAt := []
      poison := false, loss := false, wrote := false }

/-- An operand as the descriptor's earlier legs leave it: its amax, and at site 0 the coarse scale of the pre-pass that they made (R90). -/
def Operand.carried (o : Operand) (amax : Nat) (coarse : Option Nat) (work : Bool) : Operand :=
  match coarse with
  | some c => if o.prepass then { o with amax := amax, coarse := c, prepass := false } else { o with amax := amax }
  | none => { o with amax := amax, prepass := o.prepass && work }

/-- How R205 lets an add begin; what is no add runs. -/
def State.addGate (s : State) (i : Issue) (p : Product) (work : Bool) : GsStart :=
  if oAdd p.orec ∧ work ∧ !p.carryOut then s.gsBegin i.map p.hdr i.mbatch else .run 0

/-- A product joins the engines and begins, unless it is held or its pre-pass is to run first. -/
def State.enter (s : State) (p : Product) (held : Bool) : Option State :=
  let s1 : State := { s with eng := { s.eng with
    products := s.eng.products ++ [p], held := if held then s.eng.held ++ [p.uid] else s.eng.held } }
  if held ∨ p.a.prepass ∨ p.b.prepass then some s1 else s1.startProduct p

/-- An add whose check fails in a leg after its first, earlier legs' adds written: its header becomes DIRTY (R208). -/
def State.legFault (s : State) (i : Issue) : State :=
  let o := s.peek i.map (s.slotAt i i.w 192) 64
  if i.leg ≠ 0 ∧ (s.legUse i.k i.idx i.leg).wrote ∧ oAdd o then s.gsUpdate i.map (s.slotAt i o 0) fun h => setBits h 197 197 1 else s

/-- MATMUL's own effect at issue; a fault found after the seed leaves its site's record unchanged, as one found before it does (R108) (log
118). -/
def State.issueMatmul (s : State) (i : Issue) : Option State :=
  let r : Chk (Plan × Product × Option (Nat × SiteMove)) := do
    let pl ← s.matmulChecks i
    let (p, rec) ← s.matmulUse i pl
    let q ← s.matmulLate i { pl with p := p }
    pure (pl, q, rec)
  match r with
  | .error b => (if b.code = 0 then s else s.legFault i).issueBad i b
  | .ok (pl, p, rec) =>
    let site := mSite i.w
    let s1 := match rec with
      | some (w, mv) => (s.siteStore i.pitch i.map site w).siteEvents i.pitch (locSlot (s.slotHome i.k)) site (mStep i.w) mv
      | none => s
    let u := s.legUse i.k i.idx i.leg
    let p1 : Product := { p with
      a := p.a.carried u.amaxA u.coarseA pl.work, b := p.b.carried u.amaxB u.coarseB pl.work
      tripped := u.tripped, floored := u.floored, lostAt := u.lostAt, poison := u.poison, loss := u.loss, wrote := u.wrote }
    let axis := if mTok i.w = 1 then pl.whole.1 else if mTok i.w = 2 then pl.whole.2.1 else pl.whole.2.2
    let go (t : State) (q : Product) (held : Bool) : Option State := (t.fly i 1 false false [] axis).enter q held
    let gd := gsDetail i.camp 0 i.mbatch (gsMbCur (s1.peek i.map p1.hdr 32))
    match s1.addGate i p1 pl.work with
    | .run h =>
      if oAdd p1.orec ∧ pl.work ∧ !p1.carryOut then go (s1.gsUpdate i.map p1.hdr fun _ => h) { p1 with added := true } false else go s1 p1 false
    | .hold => go (s1.bump Ctr.GS_HELD i.pitch (s1.leadSlot i.pitch) i.pitch (detail := gd)) p1 true
    | .fault code =>
      let s2 := if code = Code.GS_ORDER_STALE then s1.bump Ctr.GS_STALE i.pitch (s1.leadSlot i.pitch) i.pitch (detail := gd) else s1
      (s2.legFault i).issueBad i (s1.gsBad i p1.hdr code)

/-- MATMUL (R251); a leg starts from what the one before it left (R189, log 57). -/
def execMatmul (k : SlotKey) (s : State) : Host.Outcome State Fault Refusal :=
  .next (s.issueRow k.val tMatmul fun s1 i =>
    if i.leg ≠ 0 ∧ (s1.slot k.val).frame.flights.any (fun f => decide (f.idx = i.idx)) then none else s1.issueMatmul i)

/-! Cycles (R121, R134, R140). -/

/-- The cycles that a happening reports counted in an engine's registers (R121, R134, R140, R161). -/
def State.countCycles (s : State) (e : Nat) (c : Cycles) : State :=
  let p := s.campPitch (e / 8)
  let l := locEngine e
  let s1 := ((s.accum Reg.BRK_ADV_CYC c.adv e).accum Reg.BRK_RNL_CYC c.rnl e).accum Reg.DTM_PASS_CYC c.datum e
  let s2 := (((s1.bump Ctr.BRK_FRZ_TOTAL p l e c.total).bump Ctr.BRK_FRZ_FEED_A p l e c.feedA).bump Ctr.BRK_FRZ_FEED_B p l e c.feedB).bump
    Ctr.BRK_FRZ_REQ p l e c.req
  let s3 := (s2.bump Ctr.BRK_FRZ_DRAIN p l e c.drain).bump Ctr.BRK_RNL_STALL p l e c.rnlStall
  c.lanes.foldl (fun t x => t.bump Ctr.BRK_FRZ_LANE p (locLane e (x.1 % 256)) e x.2 (x.1 % 256)) s3

/-! Panels (R97-R102, R110, R111). -/

/-- The tile rows of a row panel. -/
def panelTiles (o : Operand) (p : Nat) : List Nat := (List.range (min 8 (tilesOf o.outer - 8 * p))).map (· + 8 * p)

/-- The bytes that the feeder reads for a panel of an operand (R110). -/
def Operand.reads (o : Operand) (p j : Nat) : List (Nat × Nat) :=
  if o.kind = 0 then
    let r := plainOf o.record
    let rows := min 64 (o.outer - 64 * p)
    let ks := min 64 (o.depth - 64 * j)
    if o.ax = 0 then (List.range rows).map fun i => (r.at (64 * p + i) (64 * j), ks * fmtSize r.fmt)
    else (List.range ks).map fun k => (r.at (64 * j + k) (64 * p), rows * fmtSize r.fmt)
  else
    (if o.kind = 2 then [o.record, o.low] else [o.record]).flatMap fun w =>
      (panelTiles o p).flatMap fun ti => (List.range (chunkTiles o.depth j o.rotated)).flatMap fun c =>
        let t := if o.ax = 0 then qTileIndex w ti (8 * j + c) else qTileIndex w (8 * j + c) ti
        [(qData w + 32 * t, 32), (qScale w + t, 1)]

/-- Whether runs of bytes may all be read. -/
def State.mayRead (s : State) (pitch : Nat) (m : PageMap) : List (Nat × Nat) → Acc Unit
  | [] => .ok ()
  | (a, n) :: rest => match s.readAt pitch m a n with
    | .ok _ => s.mayRead pitch m rest
    | .err c b => .err c b
    | .wait => .wait

/-- The index in the whole tensor of the first tile of a panel whose fine-scale code is reserved (R47), in feed order. -/
def State.reservedTile (s : State) (m : PageMap) (o : Operand) (at0 k0 p j : Nat) : Option Nat :=
  if o.kind = 0 then none
  else firstSome (fun (x : Nat × Nat × Nat) =>
      let (w, ti, c) := x
      if (s.operandTile m o w ti (8 * j + c)).kind = .reserved then some (o.tileIndex at0 k0 ti (8 * j + c)) else none)
    ((if o.kind = 2 then [o.record, o.low] else [o.record]).flatMap fun w =>
      (panelTiles o p).flatMap fun ti => (List.range (chunkTiles o.depth j o.rotated)).map fun c => (w, ti, c))

/-- The largest finite magnitude of a plain operand's panel, as FP32 (R60, R87). -/
def State.panelAmax (s : State) (m : PageMap) (o : Operand) (p j : Nat) : Nat :=
  fp32.encode (tilesAmax 8 8 ((List.range 64).map fun i => s.chunkRow m o (64 * p + i) j))

/-- A counter of R106 raised by a use of a site (R107). -/
def State.bumpSite (s : State) (c : Ctr) (e : Nat) (p : Product) (n : Nat) : State :=
  s.bump c p.pitch (locEngine e) e n (detail := siteDetail (mSite p.word) (mStep p.word) 0 0)

/-- The counts of R106 after a panel quantised in the feeder. -/
def State.countPanel (s : State) (e : Nat) (p : Product) (r : PanelResult) : State :=
  if p.pinned && r.tripped then s.bumpSite Ctr.LAD_HELD e p 1
  else
    let s1 := ((s.bumpSite Ctr.LAD_ZELEM e p r.counts.1).bumpSite Ctr.LAD_SELEM e p r.counts.2.1).bumpSite Ctr.LAD_ZTILE e p r.counts.2.2.1
    let s2 := (s1.bumpSite Ctr.LAD_STILE e p r.counts.2.2.2).bumpSite Ctr.LAD_TRIPS e p r.descents
    if r.tripped then s2.bumpSite Ctr.LAD_FLOOR e p 1 else s2

/-- The time that a pinned use held the ladder back (R101, R406). -/
def State.countHeld (s : State) (pitch : Nat) (c : Cycles) : State :=
  let s1 := s.accum Reg.GOV_HELD_LADDER c.held pitch
  if c.policyNew then s1.event Code.POLICY_HELD pitch (locSlot (4 * s.leadCamp pitch)) (atBytes [(6, 0)]) else s1

/-- A plain operand's panel settled: its counts, what it leaves of its trips in the product, and its amax. -/
def State.settleFeed (s : State) (e : Nat) (pr : Product) (ofB : Bool) (o : Operand) (p j : Nat) (c : Cycles) : State :=
  let r := s.settlePanel pr o p j 3 pr.rung 0
  let amax := s.panelAmax pr.map o p j
  let s1 := s.countPanel e pr r
  let s2 := if pr.pinned && r.tripped then s1.countHeld pr.pitch c else s1
  let o1 := { o with amax := max o.amax amax }
  s2.mapProduct pr.uid fun q => { q with
    a := if ofB then q.a else o1, b := if ofB then o1 else q.b
    tripped := q.tripped || (!pr.pinned && (decide (0 < r.descents) || r.tripped))
    floored := q.floored || (!pr.pinned && r.tripped) }

/-- What a happening says of the freeze by a feed or a requantisation (R120): STATE reads frozen while one stands. -/
def State.noteFreeze (s : State) (e : Nat) (c : Cycles) : State :=
  (s.setEngine e { s.engine e with dry := c.frozen && (s.engine e).plots.any fun q => decide (q.plot < 16) }).settleArray e

/-- A panel given to a plot's block, and kept in the Cove buffer when the engine chooses so (R111). -/
def State.feedPanel (s : State) (e plot : Nat) (uid : Nat) (r : PanelRec) (keep : Bool) : State :=
  let x := s.engine e
  s.setEngine e { x with
    plots := x.plots.map fun q => if q.plot = plot then { q with fed := q.fed ++ [r] } else q
    kept := if keep ∧ !r.ofB then x.kept ++ [(uid, r)] else x.kept }

/-- PANEL_READY (R97-R102): the feeder has quantised a panel; its own rung is settled and counted. -/
def execPanelReady (e : Engine) (plot : Fin 17) (ofB : Bool) (p j : Nat) (keep : Bool) (cyc : Cycles) (s : State) :
    Host.Outcome State Fault Refusal :=
  if s.engGated then .next s else
  let x := s.engine e.val
  match x.plots.find? fun q => decide (q.plot = plot.val) with
  | none => .next s
  | some q =>
    match s.product q.uid with
    | none => .next s
    | some pr =>
      let o := if ofB then pr.b else pr.a
      let pans := if ofB then panelSpan q.rect.col q.rect.cols else panelSpan q.rect.row q.rect.rows
      let r : PanelRec := { ofB := ofB, p := p, j := j }
      if p ∉ pans ∨ pr.chunks ≤ j ∨ r ∈ q.fed ∨ (q.uid, r) ∈ x.kept then .next s
      else match s.mayRead pr.pitch pr.map (o.reads p j) with
        | .wait => .next s
        | .err c a => .next ((s.memEvent pr.pitch c a).productFaulted pr c)
        | .ok () =>
          match s.reservedTile pr.map o (if ofB then pr.n0 else pr.m0) pr.k0 p j with
          | some t => .next ((s.event Code.FINE_SCALE_RESERVED pr.pitch (locSlot (s.slotHome pr.slot)) (numDetail (ofBool ofB) t)).productFaulted pr
              Code.FINE_SCALE_RESERVED)
          | none =>
            let s1 := s.countCycles e.val cyc
            let s2 := if o.kind = 0 ∧ mMode pr.word = 0 then s1.settleFeed e.val pr ofB o p j cyc else s1
            .next ((s2.feedPanel e.val plot.val q.uid r keep).noteFreeze e.val cyc)

/-! The amax pre-pass (R89, R90). -/

/-- The rows of a whole plain source. -/
def wholeReads (w : Nat) : List (Nat × Nat) :=
  let r := plainOf w
  (List.range r.rows).map fun i => (r.at i 0, r.cols * fmtSize r.fmt)

/-- The largest finite magnitude of a whole plain source, as FP32 (R60, R87). -/
def State.wholeAmax (s : State) (m : PageMap) (w : Nat) : Nat :=
  let r := plainOf w
  fp32.encode (tilesAmax 8 8 ((List.range r.rows).map fun i => (List.range r.cols).map fun k => s.plainAt m r i k))

/-- One operand after its pre-pass. -/
def State.afterPrepass (s : State) (m : PageMap) (o : Operand) : Operand :=
  if o.prepass then { o with prepass := false, coarse := coarseScale (fp32.decode (s.wholeAmax m o.whole)) o.q } else o

/-- A site's record with the results of a pre-pass (R89). -/
def State.prepassRecord (s : State) (p : Product) (w : Nat) : Nat :=
  let put (o : Operand) (ofB : Bool) (w : Nat) : Nat :=
    if o.prepass then setBits w (sitePreLow ofB + 31) (sitePreLow ofB) (s.wholeAmax p.map o.whole) else w
  siteSetCtrl (put p.b true (put p.a false w)) 14 14 1

/-- AMAX_PREPASS_DONE (R89, R90): the pre-pass of a use has read its whole sources (log 53). -/
def execAmaxPrepassDone (e : Engine) (k : SlotKey) (chain : Bool) (n : Fin 32) (s : State) : Host.Outcome State Fault Refusal :=
  if s.engGated then .next s else
  match (s.flightAt k.val chain n.val).bind fun f => s.product f.uid with
  | none => .next s
  | some p =>
    if !(p.a.prepass || p.b.prepass) ∨ p.uid ∈ s.eng.held ∨ e.val / 8 ≠ p.camp ∨ !s.engineUp e.val then .next s
    else
      match s.mayRead p.pitch p.map ((if p.a.prepass then wholeReads p.a.whole else []) ++ (if p.b.prepass then wholeReads p.b.whole else [])) with
      | .wait => .next s
      | .err c a => .next ((s.memEvent p.pitch c a).productFaulted p c)
      | .ok () =>
        let site := mSite p.word
        let runs := ofBool p.a.prepass + ofBool p.b.prepass
        let s1 := s.bumpSite Ctr.LAD_PREPASS e.val p runs
        let s2 := if site = 0 then s1
          else s1.siteStore p.pitch p.map site (s.prepassRecord p (s.peek p.map (s.siteAddr p.pitch site) 256))
        let q := { p with a := s.afterPrepass p.map p.a, b := s.afterPrepass p.map p.b }
        match (s2.mapProduct p.uid fun _ => q).startProduct q with
        | some t => .next t
        | none => .next s

/-! Blocks (R112, R100, R154, R458-R462). -/

/-- Whether every panel of a block has been fed or is kept. -/
def EngRec.allFed (x : EngRec) (q : PlotRec) (p : Product) : Bool :=
  (List.range p.chunks).all fun j =>
    ((panelSpan q.rect.row q.rect.rows).all fun n =>
      decide ({ ofB := false, p := n, j := j } ∈ q.fed) || decide ((q.uid, ({ ofB := false, p := n, j := j } : PanelRec)) ∈ x.kept))
    && (panelSpan q.rect.col q.rect.cols).all fun n => decide ({ ofB := true, p := n, j := j } ∈ q.fed)

/-- How many panels of a block were requantised for a partner (R99). -/
def State.partners (s : State) (p : Product) (r : Rect) : Nat :=
  ((List.range p.chunks).map fun j =>
    let a := s.blockRungs p p.a (panelSpan r.row r.rows) j
    let b := s.blockRungs p p.b (panelSpan r.col r.cols) j
    (a.map fun x => (b.filter fun y => decide (x.2 ≠ y.2)).length).sum).sum

/-- The poisoned tiles that a block consumes: operand (0 A, 1 B) and tile index. On the Runnel path those of the weight operand stand
once, and those of the vector operand once for each weight row tile (R65, log 63). -/
def State.blockPoison (s : State) (p : Product) (r : Rect) (runnel : Bool) : List (Nat × Nat) :=
  let a := (s.poisonedTiles p p.a p.b p.m0 r.row r.rows r.col r.cols).map fun t => (0, t)
  let b := (s.poisonedTiles p p.b p.a p.n0 r.col r.cols r.row r.rows).map fun t => (1, t)
  if !runnel then a ++ b
  else if p.m ≤ 8 then (List.range (tileSpan r.col r.cols).length).flatMap (fun _ => a) ++ b
  else a ++ (List.range (tileSpan r.row r.rows).length).flatMap fun _ => b

/-- The counts and notice of poison that a block consumed (R65): raised at the end of the descriptor's first block that met any, naming its
first tile of A, or of B when A has none (log 63). -/
def State.notePoison (s : State) (e : Nat) (p : Product) (l : List (Nat × Nat)) : State :=
  match l with
  | [] => s
  | (o, t) :: _ =>
    let s1 := s.bump Ctr.CNV_POISON_IN p.pitch (locEngine e) e l.length
    if p.poison then s1
    else (s1.event Code.POISON_CONSUMED p.pitch (locSlot (s.slotHome p.slot)) (numDetail o t)).mapProduct p.uid fun q => { q with poison := true }

/-- The first loss that a Datum block meets: the earliest chunk with one, and there the first element row by row (R162). -/
def firstLoss (l : List (Nat × Nat × Nat)) : Option (Nat × Nat × Nat) :=
  (lowest (l.map (·.2.2))).bind fun j => l.find? fun x => decide (x.2.2 = j)

/-- The slice counts of the last chunk that a Datum block ran (R161). -/
def State.noteSlices (s : State) (e : Nat) (p : Product) (r : Rect) : State :=
  if mMode p.word = 0 then s
  else (s.setFld Reg.DTM_SLICES_LAST_A (s.lastSlices p p.a (bits p.word 332 328) r.row r.rows) e).setFld
    Reg.DTM_SLICES_LAST_B (s.lastSlices p p.b (bits p.word 337 333) r.col r.cols) e

/-- The counts and notice of a Datum block's losses (R154, R161, R162, log 64). -/
def State.noteDatum (s : State) (e : Nat) (p : Product) (d : DatumBlock) : State :=
  let l := locEngine e
  let s1 := ((s.bump Ctr.DTM_LOSS p.pitch l e d.alignLost).bump Ctr.DTM_WIN_LOSS p.pitch l e d.winLost).bump Ctr.DTM_SPECIAL p.pitch l e d.special
  let at0 (x : Nat × Nat × Nat) : Nat := (p.m0 + x.1) * p.nAll + p.n0 + x.2.1
  match firstLoss d.lost with
  | none => s1
  | some x =>
    let s2 := s1.mapProduct p.uid fun q => { q with lostAt := q.lostAt ++ d.lost.map at0, loss := true }
    if p.loss then s2 else s2.event Code.DATUM_LOSS p.pitch l (atBytes [(4, x.2.2 + p.k0 / 64), (8, at0 x)])

/-- A finished block's bank taken for the drain (R112, R119). -/
def State.bankBlock (s : State) (e : Nat) (q : PlotRec) (acc : List Nat) : State :=
  let x := s.engine e
  let b : BankRec := { plot := q.plot, uid := q.uid, rect := q.rect, acc := acc, fails := q.fails }
  s.setEngine e { x with
    plots := x.plots.filter fun r => decide (r.plot ≠ q.plot), banks := x.banks ++ [b]
    draining := if x.draining.isNone then some q.plot else x.draining
    queue := if q.plot = 16 then x.queue.erase (q.uid, q.rect) else x.queue }

/-- A block whose checks have passed ends. -/
def State.blockPasses (s : State) (e : Nat) (q : PlotRec) (p : Product) : State :=
  let s1 := if mMode p.word = 0 then
      let s0 := (s.notePoison e p (s.blockPoison p q.rect (q.plot == 16))).bumpSite Ctr.LAD_PARTNER e p (s.partners p q.rect)
      s0.bankBlock e q (s.fourBitBlock p q.rect)
    else
      let d := s.datumBlock p q.rect
      (s.noteDatum e p d).bankBlock e q d.acc
  (s1.ackLanes e q.plot).settleCamp (e / 8)

/-- A block discarded after a failed check (R461): it runs again on the engine; after a third failure the engine is fenced and the
block is dealt to another. -/
def State.rerun (s : State) (e plot uid : Nat) (r : Rect) (fails : Nat) : State :=
  let x := s.engine e
  let s1 := if 3 ≤ fails then s else s.bump Ctr.REL_RERUN (s.campPitch (e / 8)) (locEngine e) e
  let gone : EngRec := { x with plots := x.plots.filter fun q => decide (q.plot ≠ plot) }
  if 3 ≤ fails then
    let s2 := s1.setEngine e { gone with queue := if plot = 16 then x.queue.erase (uid, r) else x.queue }
    (s2.giveBack [(uid, r)]).firmware (.fence (locEngine e) 2)
  else if plot = 16 then
    s1.setEngine e { gone with plots := gone.plots ++ [{ plot := 16, uid := uid, rect := r, fed := [], fails := fails }] }
  else s1.setEngine e { gone with denied := gone.denied ++ [(uid, r, fails)] }

/-- A block whose checks have failed (R461, R462). -/
def State.blockFails (s : State) (e : Nat) (q : PlotRec) (check : BlockCheck) : State :=
  let pitch := s.campPitch (e / 8)
  match check with
  | .pass => s
  | .upset .. => s
  | .lane l c sub index recent =>
    let u := FUnit.lane e l.val
    let s1 := s.bump Ctr.REL_RESIDUE pitch (locEngine e) e
    let s2 := s1.strike u recent
    let s3 := s2.event Code.RESIDUE_MISMATCH pitch (locCell e l.val c.val) (relDetail l.val sub (s2.strikesOf u) index)
    let s4 := if 2 ≤ s3.strikesOf u then s3.firmware (.fence u.loc 2) else s3
    ((s4.rerun e q.plot q.uid q.rect (q.fails + 1)).ackLanes e q.plot).settleCamp (e / 8)
  | .engine dup sub index recent =>
    let u := FUnit.engine e
    let s1 := s.bump (if dup then Ctr.REL_DUP else Ctr.REL_RESIDUE) pitch (locEngine e) e
    let s2 := s1.strike u recent
    let s3 := s2.event (if dup then Code.DUP_MISMATCH else Code.RESIDUE_MISMATCH) pitch (locEngine e) (relDetail 0xFFFF sub (s2.strikesOf u) index)
    let s4 := if 2 ≤ s3.strikesOf u then s3.firmware (.fence u.loc 2) else s3
    ((s4.rerun e q.plot q.uid q.rect (q.fails + 1)).ackLanes e q.plot).settleCamp (e / 8)

/-- A block that passed with an upset that no check saw: the element's accumulator is wrong by an amount that the manual does not fix (a
free value). -/
def State.unseen (s : State) (e : Nat) (q : PlotRec) (p : Product) (check : BlockCheck) (r : Option (Int × Int)) : State :=
  match check with
  | .upset _ _ elem _ err _ =>
    if err = 0 ∨ r.isNone then s
    else
      let (v, t) := s.draw (2 ^ (8 * p.accBytes))
      let x := t.engine e
      t.setEngine e { x with
        banks := x.banks.map fun b => if b.plot = q.plot ∧ b.uid = q.uid ∧ b.rect = q.rect then { b with acc := b.acc.set elem v } else b }
  | _ => s

/-- BLOCK_END (R112, R458-R462): the last accumulation of a plot's block. -/
def execBlockEnd (e : Engine) (plot : Fin 17) (check : BlockCheck) (cyc : Cycles) (s : State) : Host.Outcome State Fault Refusal :=
  if s.engGated then .next s else
  let x := s.engine e.val
  match x.plots.find? fun q => decide (q.plot = plot.val) with
  | none => .next s
  | some q =>
    match s.product q.uid with
    | none => .next s
    | some p =>
      if s.engState e.val ∉ (if plot.val = 16 then [7] else [2, 3]) ∨ x.drainFrozen s.eng.products ∨ !x.allFed q p then .next s
      else
        let s1 := (s.countCycles e.val cyc).noteSlices e.val p q.rect
        match s.checkSeen p q.rect check with
        | .pass =>
          let r : Option (Int × Int) := match check with
            | .upset _ _ elem index err _ => s.residues p q.rect elem index err
            | _ => none
          .next (((s1.blockPasses e.val q p).unseen e.val q p check r).noteFreeze e.val cyc)
        | c => .next ((s1.blockFails e.val q c).noteFreeze e.val cyc)

/-! The drain (R67, R112, R119, R461). -/

/-- A drained bank released: the drain goes on to the lowest plot that waits. -/
def State.releaseBank (s : State) (e : Nat) (b : BankRec) : State :=
  let x := s.engine e
  let banks := x.banks.erase b
  s.setEngine e { x with banks := banks, draining := lowest (banks.map (·.plot)) }

/-- A disagreement of the two output converters (R461, log 62). -/
def State.dupEvent (s : State) (e : Nat) (strikes : Nat) : State :=
  let pitch := s.campPitch (e / 8)
  (s.bump Ctr.REL_DUP pitch (locEngine e) e).event Code.DUP_MISMATCH pitch (locEngine e) (relDetail 0xFFFF 0 strikes 0)

/-- The bank in the drain written out. -/
def State.drainBank (s : State) (e : Nat) (b : BankRec) (p : Product) : Option State :=
  let d := s.drainBlock e p b.rect b.acc
  if d.code = 1 then none
  else
    let s1 := d.s.mapProduct p.uid fun q => { q with wrote := q.wrote || d.wrote }
    if d.code = 0 then some ((s1.releaseBank e b).settleCamp (e / 8))
    else some ((s1.memEvent p.pitch d.code d.addr).productFaulted { p with wrote := p.wrote || d.wrote } d.code)

/-- DRAIN_BANK_DONE (R112): the bank in the drain has been converted and written. -/
def execDrainBankDone (e : Engine) (conv : ConvCheck) (cyc : Cycles) (s : State) : Host.Outcome State Fault Refusal :=
  if s.engGated then .next s else
  match (s.engine e.val).inDrain with
  | none => .next s
  | some b =>
    match s.product b.uid with
    | none => .next s
    | some p =>
      let s0 := s.countCycles e.val cyc
      match conv with
      | .agree => .next (((s0.drainBank e.val b p).map fun t => t.noteFreeze e.val cyc).getD s)
      | .once => .next ((((s0.dupEvent e.val (s.strikesOf (.engine e.val))).drainBank e.val b p).map fun t => t.noteFreeze e.val cyc).getD s)
      | .twice recent =>
        let s1 := (s0.dupEvent e.val (s.strikesOf (.engine e.val))).strike (.engine e.val) recent
        let s2 := s1.dupEvent e.val (s1.strikesOf (.engine e.val))
        let s3 := if 2 ≤ s2.strikesOf (.engine e.val) then s2.firmware (.fence (locEngine e.val) 2) else s2
        .next ((((s3.releaseBank e.val b).rerun e.val b.plot b.uid b.rect (b.fails + 1)).settleCamp (e.val / 8)).noteFreeze e.val cyc)

/-! Stalls and watchdogs (R113, R123, R134). -/

/-- The descriptors of a list ended, each with an event of its own. -/
def State.endProducts (s : State) (e code lane cycles : Nat) (loc : Nat) : List (Nat × Nat) → State
  | [] => s
  | (uid, plot) :: rest =>
    match s.product uid with
    | none => s.endProducts e code lane cycles loc rest
    | some p => ((s.event code p.pitch loc (engDetail lane plot cycles)).productFaulted p code).endProducts e code lane cycles loc rest

/-- The descriptors on an engine, each with the lowest plot that it stands on. -/
def EngRec.descriptors (x : EngRec) : List (Nat × Nat) :=
  let all := x.plots.map (fun q => (q.uid, q.plot)) ++ x.banks.map fun b => (b.uid, b.plot)
  ((all.map (·.1)).eraseDups).map fun u => (u, (lowest ((all.filter fun a => decide (a.1 = u)).map (·.2))).getD 0)

/-- A stall (R123): the descriptors on the engine end, its contents are discarded, it ramps down to idle, and the unit takes a
strike. -/
def State.stall (s : State) (e code lane cycles loc : Nat) (u : FUnit) (recent : Bool) : State :=
  let ds := (s.engine e).descriptors
  let st := s.engState e
  let s1 := s.cutInDrain e (ds.map (·.1))
  let s2 := s1.setEngState e (if st ∈ [5, 7] then 0 else 6) (if st ∈ [5, 7] then 0 else 16)
  let s3 := s2.endProducts e code lane cycles loc ds
  (s3.strikeFence u recent 3).settleCamp (e / 8)

/-- FEED_STALL (R121, R123, R134, log 69): a lane that is being fenced is in use to its block's end. -/
def execFeedStall (e : Engine) (stall : StallSlot) (cycles : BitVec 32) (recent : Bool) (s : State) (cyc : Cycles := .none) :
    Host.Outcome State Fault Refusal :=
  if s.engGated then .next s else
  let x := s.engine e.val
  let runnel := s.engState e.val == 7
  match stall with
  | .lane l =>
    if runnel ∨ !s.laneBusy e.val l.val ∨ 2 ≤ s.laneLatch e.val l.val then .next s
    else .next ((s.countCycles e.val cyc).stall e.val Code.FEED_STALL l.val cycles.toNat (locLane e.val l.val) (.lane e.val l.val) recent)
  | .column =>
    if runnel ∨ x.plots = [] then .next s
    else .next ((s.countCycles e.val cyc).stall e.val Code.FEED_STALL 0xFFFF cycles.toNat (locEngine e.val) (.engine e.val) recent)
  | .runnel =>
    if !runnel ∨ x.plots = [] then .next s
    else .next ((s.countCycles e.val cyc).stall e.val Code.FEED_STALL 0xFFFF cycles.toNat (locEngine e.val) (.engine e.val) recent)

/-- DRAIN_STALL (R121, R123): a freeze by the drain has lasted too long. -/
def execDrainStall (e : Engine) (cycles : BitVec 32) (recent : Bool) (s : State) (cyc : Cycles := .none) :
    Host.Outcome State Fault Refusal :=
  if s.engGated then .next s else
  if !(s.engine e.val).drainFrozen s.eng.products ∨ s.engState e.val = 8 then .next s
  else .next ((s.countCycles e.val cyc).stall e.val Code.DRAIN_STALL 0xFFFF cycles.toNat (locEngine e.val) (.engine e.val) recent)

/-- An engine's self-test brought forward (R471, R473): firmware fences it for the test, to return it once it passes. -/
def State.bringForward (s : State) (e cause : Nat) : State :=
  if s.latch (.engine e) ≠ 0 then s
  else
    let s1 := s.firmware (.fence (locEngine e) cause)
    { s1 with rel := { s1.rel with testing := s1.rel.testing.filter (fun t => decide (t.1 ≠ e)) ++ [(e, true)] } }

/-- A QUANTISE or CONVERT whose watchdog has expired on an engine ends alone (R247, log 123). -/
def State.converterExpires (s : State) (e : Nat) (k : SlotKey) (f : Flight) (cycles : Nat) : State :=
  if dType f.word ∉ [tQuantise, tConvert] ∨ e ∉ s.enginesFor (slotCamp k.val) f.word ∨ (s.slot k.val).aborting then s
  else
    let s1 := (s.dropFlight k.val f).event Code.ENGINE_WATCHDOG (s.slotPitch k.val) (locEngine e) (engDetail 0xFFFF 0 cycles)
    (s1.flightFaulted k.val f Code.ENGINE_WATCHDOG).bringForward e 4

/-- ENGINE_WATCHDOG (R123, R247): one descriptor's watchdog has expired on an engine, which ends it alone. -/
def execEngineWatchdog (e : Engine) (k : SlotKey) (chain : Bool) (n : Fin 32) (cycles : BitVec 32) (s : State) (cyc : Cycles := .none) :
    Host.Outcome State Fault Refusal :=
  if s.engGated then .next s else
  match s.flightAt k.val chain n.val with
  | none => .next s
  | some f =>
    match s.product f.uid, (s.engine e.val).descriptors.find? fun d => decide (d.1 = f.uid) with
    | none, _ => .next (s.converterExpires e.val k f cycles.toNat)
    | some _, none => .next s
    | some p, some d =>
      let s1 := (s.countCycles e.val cyc).cutInDrain e.val [p.uid]
      .next (((s1.endProducts e.val Code.ENGINE_WATCHDOG 0xFFFF cycles.toNat (locEngine e.val) [d]).bringForward e.val 4).settleCamp (e.val / 8))

/-! Ramps and parking (R122, R124, R125). -/

/-- ARRAY_PARK (R122): the array has been frozen for PARK_AFTER cycles. -/
def execArrayPark (e : Engine) (s : State) : Host.Outcome State Fault Refusal :=
  if s.engGated then .next s else
  if s.engState e.val ∈ [2, 3] ∧ (s.engine e.val).plots ≠ [] then
    .next ((s.setEngState e.val 4 16).bump Ctr.BRK_PARKS (s.campPitch (e.val / 8)) (locEngine e.val) e.val)
  else .next s

/-- RAMP_DOWN_DONE (R125): parked, or idle with nothing left; an engine with work waiting ramps up again. -/
def execRampDownDone (e : Engine) (s : State) : Host.Outcome State Fault Refusal :=
  if s.engGated then .next s else
  if s.engState e.val = 4 ∧ (s.engine e.val).plots ≠ [] then .next (s.setEngState e.val 5 0)
  else if s.engState e.val = 6 ∨ s.engState e.val = 4 then
    if (s.engine e.val).plots = [] then .next ((s.setEngState e.val 0 0).settleCamp (e.val / 8))
    else .next (s.setEngState e.val 1 1)
  else .next s

/-- ARRAY_UNPARK (R122): the freeze has cleared, and a full ramp-up begins. -/
def execArrayUnpark (e : Engine) (s : State) : Host.Outcome State Fault Refusal :=
  if s.engGated then .next s else
  if s.engState e.val = 5 then .next (s.setEngState e.val 1 1) else .next s

/-- RAMP_UP_DONE (R124): every lane group is enabled, and the array may advance (log 56). -/
def execRampUpDone (e : Engine) (s : State) : Host.Outcome State Fault Refusal :=
  if s.engGated then .next s else
  if s.engState e.val = 1 then .next ((s.setEngState e.val 2 16).settleCamp (e.val / 8)) else .next s

/-! The margin (R126, R127, R399). -/

/-- MARGIN_OK (R126): the supply reports the margin reached. -/
def execMarginOk (e : Engine) (s : State) : Host.Outcome State Fault Refusal :=
  if s.engGated then .next s else
  if s.fld Reg.BRK_STATUS_MARGIN_REQ e.val = 1 ∧ s.fld Reg.GOV_PITCH_CFG_MARGIN_ALLOW (s.campPitch (e.val / 8)) = 1 then
    .next ((s.setFld Reg.BRK_STATUS_MARGIN_OK 1 e.val).settleCamp (e.val / 8))
  else .next s

/-- MARGIN_DENIED (R127): the waiting Runnel descriptors run on the array, with the blocks that they have still to send to this engine. -/
def execMarginDenied (e : Engine) (s : State) : Host.Outcome State Fault Refusal :=
  if s.engGated then .next s else
  let x := s.engine e.val
  if s.fld Reg.BRK_STATUS_MARGIN_REQ e.val = 1 ∧ s.fld Reg.BRK_STATUS_MARGIN_OK e.val = 0 then
    let p := s.campPitch (e.val / 8)
    let s1 := s.setEngine e.val { x with
      queue := [], denied := x.denied ++ x.queue.map fun q => (q.1, q.2, 0), noMargin := (x.noMargin ++ x.queue.map (·.1)).eraseDups }
    let s2 := s1.bump Ctr.BRK_MARGIN_DENIED p (locEngine e.val) e.val
    .next ((s2.event Code.MARGIN_DENIED p (locEngine e.val) (engDetail 0xFFFF 0 0)).settleCamp (e.val / 8))
  else .next s

/-- MARGIN_RELEASE (R126): no Runnel descriptor has been queued for 2,048 engine cycles. -/
def execMarginRelease (e : Engine) (s : State) : Host.Outcome State Fault Refusal :=
  if s.engGated then .next s else
  let x := s.engine e.val
  if x.queue = [] ∧ !(x.plots.any fun q => decide (q.plot = 16)) then
    .next ((s.setFld Reg.BRK_STATUS_MARGIN_OK 0 e.val).setFld Reg.BRK_STATUS_MARGIN_REQ 0 e.val)
  else .next s

end Sys2Proof.Machine
end

