-- ==== Sys2Proof/Machine/Convert.lean ====
section
/-! DEFINITION. QUANTISE, CONVERT and DIGEST (R72-R74, R256-R258, R268, R465, R466): their work is done as they issue, and
their writes are acknowledged by a later row. -/
namespace Sys2Proof.Machine

open Sys2Proof

/-! Runs of bytes. -/

/-- Several runs of bytes stored in order; one that may not be stored ends it (the caller keeps its own state then, log 12). -/
def State.writeAll (s : State) (pitch : Nat) (m : PageMap) (mover : Option Nat) : List (Nat × Bytes) → Acc State
  | [] => .ok s
  | (a, bs) :: rest => match s.writeAt pitch m mover a bs with
    | .ok s1 => s1.writeAll pitch m mover rest
    | r => r

/-- The runs of bytes that a plain record holds, block scales among them. -/
def Plain.runs (r : Plain) : List (Nat × Nat) :=
  ((List.range r.rows).map fun i => (r.base + i * r.pitch, r.rowBytes))
    ++ (if r.fmt = 6 then [(r.mxs, r.rows * ((r.cols + 31) / 32))] else [])

/-- The runs of bytes that a Q4T record holds. -/
def q4tRuns (w : Nat) : List (Nat × Nat) :=
  let n := tilesOf (qRows w) * tilesOf (qKlen w)
  [(qData w, 32 * n), (qScale w, n)]

/-- Element codes packed two a byte, low nibble first. -/
def packCodes (codes : List Nat) (n : Nat) : Bytes := toBytes n (codes.foldr (fun c v => c % 16 + 16 * v) 0)

/-- The bytes of an encoded tile at its place in a record's data area and scale plane (R52, R53). -/
def tileBytes (w tr tk : Nat) (t : QTile) : List (Nat × Bytes) :=
  let x := qTileIndex w tr tk
  [(qData w + 32 * x, packCodes t.codes 32), (qScale w + x, [t.fine])]

/-! QUANTISE (R256, R257). -/

/-- SRC_AX, SPLIT, CMODE, K0, ROW0. -/
def zAx (w : Nat) : Nat := bits w 323 323
def zSplit (w : Nat) : Bool := bit w 322
def zCmode (w : Nat) : Nat := bits w 321 320
def zK0 (w : Nat) : Nat := bits w 319 288
def zRow0 (w : Nat) : Nat := bits w 287 256

/-- The rows and K positions of the destination that a source covers. -/
def zExtent (ax : Nat) (r : Plain) : Nat × Nat := if ax = 0 then (r.rows, r.cols) else (r.cols, r.rows)

/-- What the checks of a QUANTISE settle: its source, whole and cut to its leg, the destination row and K position of the cut source's first
element, the destination records, their address, the coarse scale given (0 under CMODE 0), the signs. -/
structure QPlan where
  whole : Plain
  src : Plain
  row0 : Nat
  k0 : Nat
  dst : Nat
  low : Nat
  home : Nat
  coarse : Nat
  signs : List Bool
  deriving DecidableEq, Repr

/-- Whether the alignment of R257 fails for a rotated axis (or the plain one) from `at0`, `n` long, on an axis of `len`: a source that ends
within the last chunk is extended to its end (R84). -/
def zAlignBad (rotated : Bool) (at0 n len : Nat) : Bool :=
  if rotated then at0 % 64 != 0 || (n % 64 != 0 && decide ((at0 + n + 63) / 64 * 64 < len)) else at0 % 8 != 0

/-- How far the tiles reach that a source of `n` positions gives along an axis: whole chunks along a rotated one (R84). -/
def zReach (rotated : Bool) (n : Nat) : Nat := if rotated then (n + 63) / 64 * 64 else n

/-- The checks of a QUANTISE, in the order of R77. -/
def State.quantChecks (s : State) (i : Issue) : Chk QPlan := do
  let w := i.w
  let sw ← s.plainRecord i 64
  let src := plainOf sw
  refuseDesc i (decide (2 < src.fmt)) Code.DESC_RECORD_INVALID 64 4
  let a := s.slotAt i w 128
  let dst ← s.q4tAt i a 3
  let low ← if zSplit w then s.q4tAt i (a + 32) 3 else pure 0
  let (nr, nk) := zExtent (zAx w) src
  refuseIf (zAlignBad (qRot dst == 2) (zRow0 w) nr (qRows dst) || zAlignBad (qRot dst == 1) (zK0 w) nk (qKlen dst)) Code.ROT_SHAPE_INVALID
    (siteDetail (qSite dst) 0 0 0)
  refuseDesc i (decide (qRows dst < zRow0 w + nr) || decide (qKlen dst < zK0 w + nk)) Code.DESC_RECORD_INVALID 64 3
  let v ← if zCmode w = 0 then pure 0 else ofAcc (s.readNum i.pitch i.map (s.slotAt i w 192) 4)
  refuseIf (zCmode w == 1 && !amaxOk v) Code.COARSE_SCALE_INVALID (numDetail 3 0)
  refuseIf (zCmode w == 2 && !coarseOk v) Code.COARSE_SCALE_INVALID (numDetail 3 0)
  refuseIf (zSplit w && pairBad dst low false) Code.Q4T_MISMATCH (numDetail 3 0)
  let seed ← s.seedFor i.pitch (qRot dst != 0) (siteDetail (qSite dst) 0 0 0)
  let (t0, tn) := s.legRange i src.rows
  pure { whole := src, src := plainOf (legPlain sw true t0 tn), row0 := zRow0 w + (if zAx w = 0 then t0 else 0)
         k0 := zK0 w + (if zAx w = 0 then 0 else t0), dst := dst, low := low, home := a, signs := siteSigns seed (qSite dst)
         coarse := if zCmode w = 1 then coarseScale (fp32.decode (plusZero v)) (qElem dst) else v }

/-- The source value of a position of the destination, +0 beyond the source. -/
def State.zValue (s : State) (m : PageMap) (p : QPlan) (w r k : Nat) : Num :=
  let (nr, nk) := zExtent (zAx w) p.src
  if p.row0 ≤ r ∧ r < p.row0 + nr ∧ p.k0 ≤ k ∧ k < p.k0 + nk then
    let y := r - p.row0
    let x := k - p.k0
    s.plainAt m p.src (if zAx w = 0 then y else x) (if zAx w = 0 then x else y)
  else .zero

/-- The 64 values of a destination tile, rotated as the record states (R83, R84). -/
def tileValues (f : Nat → Nat → Num) (rot : Nat) (signs : List Bool) (tr tk : Nat) : List Num :=
  if rot = 1 then
    (List.range 8).flatMap fun i =>
      ((rotateChunk signs ((List.range 64).map fun x => f (8 * tr + i) (tk / 8 * 64 + x))).drop (8 * (tk % 8))).take 8
  else if rot = 2 then
    let cols := (List.range 8).map fun j => rotateChunk signs ((List.range 64).map fun x => f (tr / 8 * 64 + x) (8 * tk + j))
    (List.range 64).map fun e => (cols.getD (e % 8) []).getD (8 * (tr % 8) + e / 8) .zero
  else (List.range 64).map fun e => f (8 * tr + e / 8) (8 * tk + e % 8)

/-- One destination tile, and with SPLIT its low part. -/
def State.zTile (s : State) (m : PageMap) (p : QPlan) (w coarse tr tk : Nat) : List (Nat × Bytes) :=
  let (mc, ec) := coarseParts coarse
  let nr := min 8 (qRows p.dst - 8 * tr)
  let nk := min 8 (qKlen p.dst - 8 * tk)
  let v := tileValues (s.zValue m p w) (qRot p.dst) p.signs tr tk
  let hi := quantTile (qElem p.dst) (qFscale p.dst == 1) mc ec nr nk v
  tileBytes p.dst tr tk hi ++ (if zSplit w then tileBytes p.low tr tk (lowTile hi mc ec nr nk v) else [])

/-- Everything that a QUANTISE writes. -/
def State.zWrites (s : State) (m : PageMap) (p : QPlan) (w coarse : Nat) : List (Nat × Bytes) :=
  let (nr, nk) := zExtent (zAx w) p.src
  let tiles := (tileSpan p.row0 (zReach (qRot p.dst == 2) nr)).flatMap fun tr =>
    (tileSpan p.k0 (zReach (qRot p.dst == 1) nk)).flatMap fun tk => s.zTile m p w coarse tr tk
  (p.home + 20, toBytes 4 coarse) :: (if zSplit w then [(p.home + 52, toBytes 4 coarse)] else []) ++ tiles

/-- The coarse scale of a QUANTISE: given, or from a pre-pass over its whole source, in every leg (R189). A source whose amax lies beyond FP32 gives a free
positive normal value (log 38). -/
def State.zCoarse (s : State) (m : PageMap) (p : QPlan) (w : Nat) : Nat × State :=
  if zCmode w ≠ 0 then (p.coarse, s)
  else
    let (hr, hk) := if qRot p.dst = 2 then (64, 8) else if qRot p.dst = 1 then (8, 64) else (8, 8)
    let (h, v) := if zAx w = 0 then (hr, hk) else (hk, hr)
    let h := fp32.encode (tilesAmax h v ((List.range p.whole.rows).map fun i => (List.range p.whole.cols).map fun k => s.plainAt m p.whole i k))
    if amaxOk h then (coarseScale (fp32.decode h) (qElem p.dst), s)
    else
      let (n, s1) := s.draw 0x7F000000
      (0x00800000 + n, s1)

/-- A descriptor that does its work as it issues joins the flights with its writes made and unacknowledged. -/
def State.flyWork (s : State) (i : Issue) (a : Acc State) (axis : Nat := 0) : Option State :=
  match a with
  | .ok s1 => some (s1.fly i 1 true false [] axis)
  | .err c l => some (s.issueFaultMem i c l)
  | .wait => none

/-- Whether a leg of a section lies beyond its descriptor's token axis, so that the descriptor does nothing in it (R188). -/
def Issue.pastAxis (i : Issue) (n : Nat) : Bool := i.inLeg && decide (i.leg ≠ 0 ∧ n = 0)

/-- QUANTISE (R256, R257): in a leg section it takes the leg's rows of its source (log 123). -/
def execQuantise (k : SlotKey) (s : State) : Host.Outcome State Fault Refusal :=
  .next (s.issueRow k.val tQuantise fun s1 i =>
    if s1.enginesFor i.camp i.w = [] then none
    else match s1.quantChecks i with
    | .error b => s1.issueBad i b
    | .ok p =>
      if i.pastAxis p.src.rows then s1.flyWork i (.ok s1) p.whole.rows
      else match s1.mayRead i.pitch i.map (if zCmode i.w = 0 then p.whole.runs else p.src.runs) with
      | .wait => none
      | .err c l => some (s1.issueFaultMem i c l)
      | .ok () =>
        let (coarse, s2) := s1.zCoarse i.map p i.w
        s1.flyWork i (s2.writeAll i.pitch i.map none (s1.zWrites i.map p i.w coarse)) p.whole.rows)

/-! CONVERT (R258). -/

/-- KIND and MXTYPE. -/
def vKind (w : Nat) : Nat := bits w 259 256
def vMxtype (w : Nat) : Nat := bits w 263 260

/-- What a CONVERT gives: its writes, its NaN outputs, those that overflowed or were clamped, the poisoned source tiles by their index in
the whole tensor, and the length of its token axis. -/
structure Converted where
  writes : List (Nat × Bytes)
  nans : Nat
  overs : Nat
  poison : List Nat
  rows : Nat
  deriving DecidableEq, Repr

/-- A value in a plain format (R70), whether it is NaN, whether the conversion overflowed. -/
def plainCode (fmt : Nat) (x : Num) : Nat × Bool × Bool :=
  if fmt = 3 then
    let c := encodeE4m3 x
    let past := match x with
      | .fin _ m e => decide (0x7E < (Fmt.mk 4 3).roundMag m 1 e)
      | _ => false
    (c, c % 128 == 127, past)
  else
    let g := if fmt = 0 then bf16 else if fmt = 1 then fp32 else fp64
    let c := g.encode x
    (c, g.isNan c, x.isFinite && !(g.decode c).isFinite)

/-- Values laid out as a plain tensor. -/
def plainWrites (r : Plain) (f : Nat → Nat → Num) : Converted :=
  let rows := (List.range r.rows).map fun y => (List.range r.cols).map fun x => plainCode r.fmt (f y x)
  let all := rows.flatten
  { writes := rows.zipIdx.map fun c => (r.at c.2 0, c.1.flatMap fun v => toBytes (fmtSize r.fmt) v.1)
    nans := (all.filter (·.2.1)).length, overs := (all.filter (·.2.2)).length, poison := [], rows := 0 }

/-- The tiles of a Q4T record, row by row. -/
def State.allTiles (s : State) (m : PageMap) (w : Nat) : List (List QTile) :=
  (List.range (tilesOf (qRows w))).map fun tr => (List.range (tilesOf (qKlen w))).map fun tk => s.storedTile m w tr tk

/-- The indices of the tiles that satisfy a test. -/
def tilesWhere (f : QTile → Bool) (ts : List (List QTile)) : List Nat := (ts.flatten.zipIdx.filter fun t => f t.1).map (·.2)

/-- The exact value of an element of a Q4T tensor. -/
def q4tValue (w : Nat) (ts : List (List QTile)) (r k : Nat) : Num :=
  let (mc, ec) := coarseParts (qCoarse w)
  (((ts[r / 8]?).bind fun l => l[k / 8]?).map fun t => t.value mc ec (8 * (r % 8) + k % 8)).getD .zero

/-- The exact value of an MXFP4 element (R73); NaN in a block with scale 0xFF. -/
def State.mxValue (s : State) (m : PageMap) (r : Plain) (row col : Nat) : Num :=
  let scale := s.peek m (r.mxs + row * ((r.cols + 31) / 32) + col / 32) 1
  if scale = 0xFF then .nan
  else
    let z := elemInt 0 ((s.peek m (r.base + row * r.pitch + col / 2) 1) >>> (4 * (col % 2)))
    .fin (decide (z < 0)) z.natAbs ((scale : Int) - 128)

/-- An MXFP4 block (R74): its scale code, its 32 element codes, how many were clamped. -/
def mxBlock (v : List Num) : Nat × List Nat × Nat :=
  if v.any fun x => !x.isFinite then (0xFF, List.replicate 32 0, 0)
  else
    let (ma, ea) := (amaxOf v).parts
    if ma = 0 then (0, List.replicate 32 0, 0)
    else
      let raw := floorLog ma 1 + ea - 2
      let x : Int := if raw < -127 then -127 else if 127 < raw then 127 else raw
      let es := v.map (encodeElem 0 1 x)
      ((x + 127).toNat, es.map (·.1), (es.filter (·.2)).length)

/-- The MXFP4 form of a Q4T tensor (R74). -/
def mxWrites (r : Plain) (f : Nat → Nat → Num) : Converted :=
  let nb := (r.cols + 31) / 32
  let blocks := (List.range r.rows).map fun y => (List.range nb).map fun b =>
    mxBlock ((List.range (min 32 (r.cols - 32 * b))).map fun x => f y (32 * b + x))
  { writes := (blocks.zipIdx.map fun c => (r.base + c.2 * r.pitch, c.1.flatMap fun b => packCodes b.2.1 16))
      ++ [(r.mxs, blocks.flatten.map (·.1))]
    nans := 0, overs := (blocks.flatten.map (·.2.2)).sum, poison := [], rows := 0 }

/-- The Q4T form of `n` rows from `t` of an MXFP4 tensor (R73), with its coarse scale for the record at `rec`, from the whole tensor's exact
amax (log 38). -/
def importWrites (dst rec t n : Nat) (f : Nat → Nat → Num) : Converted :=
  let h := tilesAmax 8 8 ((List.range (qRows dst)).map fun r => (List.range (qKlen dst)).map fun k => f r k)
  let coarse := coarseScale h (qElem dst)
  let (mc, ec) := coarseParts coarse
  { writes := (rec + 20, toBytes 4 coarse) :: (tileSpan t n).flatMap fun tr =>
      (List.range (tilesOf (qKlen dst))).flatMap fun tk =>
        tileBytes dst tr tk (quantTile (qElem dst) true mc ec (min 8 (qRows dst - 8 * tr)) (min 8 (qKlen dst - 8 * tk)) (tileValues f 0 [] tr tk))
    nans := 0, overs := 0, poison := [], rows := 0 }

/-- A Q4T source's last check, of its fine scales; `at0` tiles of the tensor come before those read. -/
def fineOk (at0 : Nat) (ts : List (List QTile)) : Chk Unit :=
  match tilesWhere (fun t => t.kind == .reserved) ts with
  | [] => .ok ()
  | t :: _ => bad Code.FINE_SCALE_RESERVED (numDetail 0 (at0 + t))

/-- A CONVERT's checks (R72-R74, R258) and what it writes, in a leg section of the leg's rows alone (log 123); every fine-scale code is
checked before any write (R47, log 118). -/
def State.convert (s : State) (i : Issue) : Chk Converted := do
  let w := i.w
  let kind := vKind w
  refuseIf ((kind == 1 || kind == 2) && vMxtype w != 0) Code.MX_FORMAT_INVALID (numDetail 0 0)
  if kind = 0 ∨ kind = 2 then
    let src ← s.q4tAt i (s.slotAt i w 64) 0
    let dst ← s.plainRecord i 128
    let d := plainOf dst
    refuseDesc i (if kind = 0 then decide (2 < d.fmt) else d.fmt != 6) Code.DESC_RECORD_INVALID 128 4
    refuseDesc i (d.rows != qRows src || d.cols != qKlen src) Code.DESC_RECORD_INVALID 128 3
    refuseIf (!coarseOk (qCoarse src)) Code.COARSE_SCALE_INVALID (numDetail 0 0)
    refuseIf (kind == 2 && qRot src != 0) Code.Q4T_MISMATCH (numDetail 0 0)
    let (t0, tn) := s.legRange i d.rows
    let part := legQ4t src t0 tn
    let at0 := t0 / 8 * tilesOf (qKlen src)
    let dl := legPlain (← s.plainRecord i 128) true t0 tn
    let out := plainOf (if kind = 2 then setBits dl 223 176 (d.mxs + t0 * ((d.cols + 31) / 32)) else dl)
    ofAcc (s.mayRead i.pitch i.map (q4tRuns part))
    let ts := s.allTiles i.map part
    fineOk at0 ts
    let c := if kind = 0 then plainWrites out (q4tValue part ts) else mxWrites out (q4tValue part ts)
    pure { c with poison := (tilesWhere QTile.poisoned ts).map (at0 + ·), rows := d.rows }
  else
    let src ← s.plainRecord i 64
    let r := plainOf src
    refuseDesc i (if kind = 1 then r.fmt != 6 else decide (3 < r.fmt)) Code.DESC_RECORD_INVALID 64 4
    if kind = 1 then
      let a := s.slotAt i w 128
      let dst ← s.q4tAt i a 3
      refuseDesc i (qRows dst != r.rows || qKlen dst != r.cols) Code.DESC_RECORD_INVALID 128 3
      refuseIf (qFscale dst != 1 || qRot dst != 0 || qElem dst != 0) Code.Q4T_MISMATCH (numDetail 3 0)
      ofAcc (s.mayRead i.pitch i.map r.runs)
      let (t0, tn) := s.legRange i r.rows
      pure { importWrites dst a t0 tn (s.mxValue i.map r) with rows := r.rows }
    else
      let dst ← s.plainRecord i 128
      let d := plainOf dst
      refuseDesc i (decide (3 < d.fmt)) Code.DESC_RECORD_INVALID 128 4
      refuseDesc i (d.rows != r.rows || d.cols != r.cols) Code.DESC_RECORD_INVALID 128 3
      let (t0, tn) := s.legRange i r.rows
      let part := plainOf (legPlain (← s.plainRecord i 64) true t0 tn)
      ofAcc (s.mayRead i.pitch i.map part.runs)
      pure { plainWrites (plainOf (legPlain (← s.plainRecord i 128) true t0 tn)) (s.plainAt i.map part) with rows := r.rows }

/-- Whether an earlier leg of a CONVERT has met a poisoned tile, so that POISON_CONSUMED is raised already (R65). -/
def State.convertTold (s : State) (i : Issue) : Bool :=
  match s.q4tAt i (s.slotAt i i.w 64) 0 with
  | .ok src => !(tilesWhere QTile.poisoned (s.allTiles i.map (legQ4t src 0 (s.legRange i (qRows src)).1))).isEmpty
  | .error _ => false

/-- The counts of a conversion, at the engine that made it (R65, R71, R74, log 60). -/
def State.countConvert (s : State) (i : Issue) (e : Nat) (c : Converted) : State :=
  let l := locEngine e
  let s1 := (s.bump Ctr.CNV_NAN_OUT i.pitch l e c.nans).bump Ctr.CNV_OVF_OUT i.pitch l e c.overs
  match c.poison with
  | [] => s1
  | t :: _ =>
    let s2 := s1.bump Ctr.CNV_POISON_IN i.pitch l e c.poison.length
    if i.inLeg ∧ s.convertTold i then s2 else s2.event Code.POISON_CONSUMED i.pitch (locSlot (s.slotHome i.k)) (numDetail 0 t)

/-- CONVERT (R258). -/
def execConvert (k : SlotKey) (s : State) : Host.Outcome State Fault Refusal :=
  .next (s.issueRow k.val tConvert fun s1 i =>
    match s1.enginesFor i.camp i.w with
    | [] => none
    | e :: _ =>
      match s1.convert i with
      | .error b => s1.issueBad i b
      | .ok c =>
        if i.pastAxis (s1.legRange i c.rows).2 then s1.flyWork i (.ok s1) c.rows
        else s1.flyWork i ((s1.countConvert i e c).writeAll i.pitch i.map none c.writes) c.rows)

/-! DIGEST (R268, R465, R466). -/

/-- LEN and MODE of a DIGEST. -/
def gLen (w : Nat) : Nat := bits w 303 256
def gMode (w : Nat) : Nat := bits w 305 304

/-- The tree digest of some bytes (R465). -/
def treeDigest (bs : Bytes) : Bytes :=
  let leaves := (List.range ((bs.length + 2 ^ 20 - 1) / 2 ^ 20)).map fun i =>
    shake256 (ascii "PL480LEAF" ++ toBytes 8 i ++ (bs.drop (i * 2 ^ 20)).take (2 ^ 20)) 32
  shake256 (ascii "PL480TREE" ++ toBytes 8 bs.length ++ leaves.flatten) 64

/-- The audit beacon of some bytes (R466). -/
def beacon (bs : Bytes) : Bytes := shake256 (ascii "PL480BCN" ++ bs) 64

/-- DIGEST (R268): the camp's DMA mover writes 64 bytes. -/
def execDigest (k : SlotKey) (s : State) : Host.Outcome State Fault Refusal :=
  .next (s.issueRow k.val tDigest fun s1 i =>
    match s1.readAt i.pitch i.map (s1.slotAt i i.w 64) (gLen i.w) with
    | .err c l => some (s1.issueFaultMem i c l)
    | .wait => none
    | .ok bs =>
      match s1.writeAt i.pitch i.map (some i.camp) (s1.slotAt i i.w 128) (if gMode i.w = 0 then treeDigest bs else beacon bs) with
      | .ok s2 => some (s2.fly i 0 true true)
      | .err c l => some (s1.issueFaultMem i c l)
      | .wait => none)

end Sys2Proof.Machine
end

