-- ==== Sys2Proof/Machine/Vprog.lean ====
section
/-! DEFINITION. VPROG (R215-R218, R228-R230, R259-R261): the vector engine's built-in programs and the optimiser. -/
namespace Sys2Proof.Machine

open Sys2Proof

/-! Row arithmetic (R215-R218), over FP32 codes. -/

/-- One level of the reduction tree. -/
def pairSums : List Nat → List Nat
  | a :: b :: rest => fp32.add a b :: pairSums rest
  | l => l

/-- A group of values, padded with +0 to 1,024, reduced by ten tree levels. -/
def groupSum (l : List Nat) : Nat :=
  (((List.range 10).foldl (fun v _ => pairSums v) (l ++ List.replicate (1024 - l.length) 0))).headD 0

/-- The groups of 1,024 of a row. -/
def rowGroups (v : List Nat) : List (List Nat) := (List.range ((v.length + 1023) / 1024)).map fun g => (v.drop (1024 * g)).take 1024

/-- A reduction along a row (R215). -/
def rowSum (v : List Nat) : Nat :=
  match (rowGroups v).map groupSum with
  | [] => 0
  | a :: rest => rest.foldl fp32.add a

/-- The largest value of a row, NaN when it holds one, minus infinity when it is empty. -/
def rowMax (v : List Nat) : Num :=
  v.foldl (fun m x => let y := fp32.decode x
    if m = .nan ∨ y = .nan then .nan else if m.lt y then y else m) (.inf true)

/-- The correctly rounded reciprocal square root. -/
def rsqrt32 (x : Nat) : Nat :=
  match fp32.decode x with
  | .nan => fp32.nan
  | .inf neg => if neg then fp32.nan else 0
  | .fin neg m e =>
    if m = 0 then fp32.inf neg
    else if neg then fp32.nan
    else
      let odd := e % 2 = 1
      let m1 := if odd then 2 * m else m
      let e1 := if odd then e - 1 else e
      let q := isqrt (2 ^ 128 / m1)
      fp32.round false (2 * q + ofBool (decide (q * q * m1 ≠ 2 ^ 128))) 1 (-(e1 / 2) - 65)

/-- An FP32 value divided by a length. -/
def divLen (x n : Nat) : Nat := fp32.divNum (fp32.decode x) (Num.ofInt n)

/-- FP32 to BF16. -/
def toBf16 (x : Nat) : Nat := convert fp32 bf16 x

/-- The scale r of a row (R217). -/
def rmsScale (eps : Nat) (x : List Nat) : Nat := rsqrt32 (fp32.add (divLen (rowSum (x.map fun v => fp32.mul v v)) x.length) eps)

/-- RMS forward over a row (R217). -/
def rmsForward (eps : Nat) (x gamma : List Nat) : List Nat :=
  let r := rmsScale eps x
  (x.zip gamma).map fun p => toBf16 (fp32.mul (fp32.mul p.1 r) p.2)

/-- RMS backward over a row (R217): dx, and the row's part of the gain gradient. -/
def rmsBackward (eps : Nat) (x gamma dy : List Nat) : List Nat × List Nat :=
  let r := rmsScale eps x
  let g := (gamma.zip dy).map fun p => fp32.mul p.1 p.2
  let c := rowSum ((g.zip x).map fun p => fp32.mul p.1 p.2)
  let q := fp32.mul (fp32.mul (fp32.mul r r) r) (divLen c x.length)
  ((x.zip g).map fun p => toBf16 (fp32.sub (fp32.mul r p.2) (fp32.mul p.1 q)),
   (x.zip dy).map fun p => fp32.mul p.2 (fp32.mul p.1 r))

/-- LOG2E (R218). -/
def log2e : Nat := 0x3FB8AA3B

/-- The floor of an exact value. -/
def floorInt : Num → Int
  | .fin neg m e =>
    let d := 2 ^ (-e).toNat
    let v : Int := if neg then -(m : Int) else m
    if 0 ≤ e then v * (2 ^ e.toNat : Nat) else v.fdiv d
  | _ => 0

/-- exp_ of R218. -/
def expTable (table z : Nat) : Nat :=
  match fp32.decode (fp32.mul z log2e) with
  | .nan => fp32.nan
  | .inf neg => if neg then 0 else fp32.inf false
  | v =>
    let n := floorInt v
    let f := v.add (Num.ofInt n).neg
    fp32.encode ((fp32.decode (tableNum table f)).mul (.pow2 n))

/-- The soft-maximum of a row (R218): `none` for a fully masked one. -/
def softRow (table : Nat) (s : List Nat) : Option (List Nat) :=
  let m := rowMax s
  if m = .inf true then none
  else
    let e := s.map fun x => expTable table (fp32.encode ((fp32.decode x).add m.neg))
    let total := rowSum e
    some (e.map fun x => fp32.div x total)

/-- SMAX_FWD over a row. -/
def softForward (table : Nat) (s : List Nat) : List Nat :=
  match softRow table s with
  | none => s.map fun _ => 0
  | some p => p.map toBf16

/-- SMAX_BWD over a row. -/
def softBackward (table : Nat) (s dp : List Nat) : List Nat :=
  match softRow table s with
  | none => s.map fun _ => 0
  | some p =>
    let c := rowSum ((p.zip dp).map fun x => fp32.mul x.1 x.2)
    (p.zip dp).map fun x => toBf16 (fp32.mul x.1 (fp32.sub x.2 c))

/-- A score row with the causal mask of its row (R260). -/
def maskRow (mask row : Nat) (s : List Nat) : List Nat :=
  if bit mask 32 then
    let group := bits mask 63 48
    let pos := bits mask 31 0 + (if group = 0 then row else row % group)
    s.zipIdx.map fun x => if pos < x.2 then fp32.inf true else x.1
  else s

/-! The built-in programs row by row (R260). -/

/-- Which operands of a program are inputs with token rows, which is the gain row, and which are outputs. -/
def progShape (prog : Nat) : List Nat × Option Nat × List Nat :=
  match prog with
  | 0x02 => ([0], none, [1])
  | 0x03 => ([0, 1], none, [2])
  | 0x04 => ([0, 1], none, [2])
  | 0x05 => ([0, 1, 2], none, [3, 4])
  | 0x06 => ([0], some 1, [2])
  | 0x07 => ([0, 2], some 1, [3])
  | 0x08 => ([0], none, [1])
  | 0x09 => ([0, 1], none, [2])
  | 0x0A => ([0, 1], none, [2])
  | 0x0B => ([0], none, [1])
  | 0x0C => ([0, 1], none, [2])
  | _ => ([], none, [])

/-- One output row per output, from the input rows, the gain row, the parameter, the two tables, the row's number and the output's
format (ADD alone writes other than BF16). -/
def progRow (prog param value deriv row fmt : Nat) (ins : List (List Nat)) (gamma : List Nat) : List (List Nat) :=
  let a := ins.getD 0 []
  let b := ins.getD 1 []
  let c := ins.getD 2 []
  match prog with
  | 0x02 => [a.map fun z => toBf16 (tableEval value z)]
  | 0x03 => [(a.zip b).map fun p => toBf16 (fp32.mul p.2 (tableEval deriv p.1))]
  | 0x04 => [(a.zip b).map fun p => toBf16 (fp32.mul (tableEval value p.1) p.2)]
  | 0x05 =>
    [((a.zip b).zip c).map fun p => toBf16 (fp32.mul (fp32.mul p.2 p.1.2) (tableEval deriv p.1.1)),
     (a.zip c).map fun p => toBf16 (fp32.mul p.2 (tableEval value p.1))]
  | 0x06 => [rmsForward param a gamma]
  | 0x07 => [(rmsBackward param a gamma b).1]
  | 0x08 => [softForward value (maskRow param row a)]
  | 0x09 => [softBackward value (maskRow param row a) b]
  | 0x0A => [(a.zip b).map fun p => toBf16 (fp32.fma param p.1 p.2)]
  | 0x0B => [a.map fun x => bf16.encode ((fp32.decode param).mul (fp32.decode x))]
  | 0x0C => [(a.zip b).map fun p => (plainCode fmt (fp32.decode (fp32.add p.1 p.2))).1]
  | _ => []

/-! Operands. -/

/-- PROG, TPAIR_EN, TPAIR, NOPS. -/
def pProg (w : Nat) : Nat := bits w 263 256
def pPairEn (w : Nat) : Bool := bit w 272
def pPair (w : Nat) : Nat := bits w 271 268
def pNops (w : Nat) : Nat := bits w 267 264

/-- A row of a plain record as FP32 codes. -/
def State.wideRow (s : State) (m : PageMap) (r : Plain) (row : Nat) : List Nat :=
  (List.range r.cols).map fun c =>
    let v := s.peek m (r.at row c) (fmtSize r.fmt)
    fp32.encode (plainNum r.fmt v)

/-- What the checks of a VPROG settle: the plain records of its operands cut to its leg, the parameter, the header of an add, the first
row, and whether this is the leg in which it ends. -/
structure VPlan where
  recs : List Nat
  param : Nat
  hdr : Nat
  row0 : Nat
  rows : Nat
  last : Bool
  deriving DecidableEq, Repr

/-- An operand list's entry as an address, or its form's fault (R259). -/
def State.operandAddr (s : State) (i : Issue) (e : Nat) : Chk Nat := do
  refuseDesc i (bits e 63 50 != 0 || bits e 49 48 == 3) Code.DESC_RECORD_INVALID 128 2
  pure (resolveBank (bits e 49 48) i.bank (s.fld Reg.CMT_STRIDE_STRIDE i.pitch) (bits e 47 0))

/-- A plain record at an address. -/
def State.plainAtAddr (s : State) (i : Issue) (a : Nat) : Chk Nat := do
  refuseDesc i (a % 32 != 0) Code.DESC_RECORD_INVALID 128 0
  let r ← ofAcc (s.readNum i.pitch i.map a 32)
  refuseDesc i (!plainValid r) Code.DESC_RECORD_INVALID 128 0
  pure r

/-- The addresses of the operand list. -/
def State.operandList (s : State) (i : Issue) : Chk (List Nat) := do
  let n := pNops i.w
  let l ← ofAcc (s.readNum i.pitch i.map (s.slotAt i i.w 128) (8 * n))
  (List.range n).mapM fun k => s.operandAddr i (bits l (64 * k + 63) (64 * k))

/-- Whether a record's format is among some. -/
def fmtIn (l : List Nat) (r : Nat) : Bool := l.contains (plainOf r).fmt

/-- Whether an FP32 code is positive and normal, zero or positive and finite, in [0, 1), at least 1 and finite. -/
def unsignedOk (c : Nat) : Bool := decide (plusZero c < 0x7F800000)
/-- In [0, 1). -/
def fractionOk (c : Nat) : Bool := decide (plusZero c < 0x3F800000)
/-- At least 1 and finite. -/
def atLeastOne (c : Nat) : Bool := decide (0x3F800000 ≤ c ∧ c < 0x7F800000)

/-- The fields of an optimiser's parameter record (R228). -/
def uProg (w : Nat) : Nat := bits w 263 256
def uGscale (w : Nat) : Nat := bits w 255 224
def uBc2 (w : Nat) : Nat := bits w 223 192
def uBc1 (w : Nat) : Nat := bits w 191 160
def uEps (w : Nat) : Nat := bits w 159 128
def uBeta2 (w : Nat) : Nat := bits w 127 96
def uBeta1 (w : Nat) : Nat := bits w 95 64
def uWd (w : Nat) : Nat := bits w 63 32
def uLr (w : Nat) : Nat := bits w 31 0

/-- Whether a parameter record passes R228. -/
def updateOk (w : Nat) (bf16Job : Bool) : Bool :=
  bits w 511 265 == 0 && bit w 264 == bf16Job && decide (uProg w ≤ 2) && coarseOk (uGscale w) && unsignedOk (uLr w) && unsignedOk (uWd w)
    && fractionOk (uBeta1 w) && (uProg w == 1 || fractionOk (uBeta2 w))
    && (uProg w != 0 || (atLeastOne (uBc1 w) && atLeastOne (uBc2 w) && coarseOk (uEps w)))

/-- A check that fails with an UPD_ code, at the camp's vector engine; it is kept apart from `Chk` by its location. -/
def State.updateFault (s : State) (i : Issue) (code detail : Nat) : State :=
  (s.event code i.pitch (locVector i.camp) detail).issueFault i code

/-- The parameter of a program: FP32 for 0x06, 0x07, 0x0A and 0x0B, a mask word for 0x08 and 0x09, a record for 0x01. -/
def paramBytes (prog : Nat) : Nat :=
  if prog = 1 then 64 else if prog ∈ [6, 7, 0xA, 0xB] then 4 else if prog ∈ [8, 9] then 8 else 0

/-- Whether a leg is the one in which a program over `rows` token rows ends (R189). -/
def lastLeg (inLeg : Bool) (leg legLen rows : Nat) : Bool :=
  !inLeg || (decide (rows ≤ (leg + 1) * legLen) && (leg == 0 || decide (leg * legLen < rows)))

/-- The checks of a built-in program. -/
def State.vprogChecks (s : State) (i : Issue) : Chk VPlan := do
  let w := i.w
  let prog := pProg w
  let addrs ← s.operandList i
  let hdr := if prog = 7 then addrs.getD 5 0 else 0
  let skip (k : Nat) (param : Nat) : Bool := prog == 1 && uProg param != 0 && (k == 3 || k == 6)
  let param ← if paramBytes prog = 0 then pure 0 else ofAcc (s.readNum i.pitch i.map (s.slotAt i w 64) (paramBytes prog))
  let recs ← (List.range (if prog = 7 then 5 else addrs.length)).mapM fun k =>
    if skip k param then pure 0 else s.plainAtAddr i (addrs.getD k 0)
  let r (k : Nat) : Nat := recs.getD k 0
  let shapeIs (k rows cols : Nat) : Bool := (plainOf (r k)).rows == rows && (plainOf (r k)).cols == cols
  let rows := (plainOf (r 0)).rows
  let cols := (plainOf (r 0)).cols
  let (ins, gamma, outs) := progShape prog
  let fmtBad : Bool :=
    if prog = 1 then
      let f := if (s.job i.pitch).bf16Master then 0 else 1
      !fmtIn [1] (r 0) || [1, 2, 3, 4, 5, 6].any fun k => !skip k param && !fmtIn [f] (r k)
    else if prog = 0x0D then !fmtIn [0, 1, 2, 3] (r 0) || !fmtIn [1] (r 1)
    else ins.any (fun k => !fmtIn [0, 1, 3] (r k)) || (match gamma with | some k => !fmtIn [0, 1, 3] (r k) | none => false)
      || outs.any (fun k => !fmtIn (if prog = 0x0C then [0, 1, 3] else [0]) (r k)) || (prog == 7 && !fmtIn [1] (r 4))
  refuseDesc i fmtBad Code.DESC_RECORD_INVALID 128 4
  let shapeBad : Bool :=
    if prog = 1 then [1, 2, 3, 4, 5, 6].any fun k => !skip k param && !shapeIs k rows cols
    else if prog = 0x0D then !shapeIs 1 1 1
    else (ins ++ outs).any (fun k => !shapeIs k rows cols) || (match gamma with | some k => !shapeIs k 1 cols | none => false)
      || (prog == 7 && !shapeIs 4 1 cols)
  refuseDesc i shapeBad Code.DESC_RECORD_INVALID 128 3
  refuseIf ((prog == 6 || prog == 7) && (cols == 0 || !coarseOk param)) Code.ROW_SETTING_INVALID (gsDetail i.camp 0 i.mbatch 0)
  refuseDesc i ((prog == 8 || prog == 9) && bits param 47 33 != 0) Code.DESC_RESERVED_SET 64 0
  if pPairEn w then s.pairHeaders i.camp (pPair w) i.mbatch
  let l := (s.slot i.k).legLen
  let last := lastLeg i.inLeg i.leg l rows
  if prog = 7 ∧ last then
    refuseIf (hdr % 64 != 0) Code.GS_HEADER_INVALID (gsDetail i.camp 0 i.mbatch 0)
    let h ← ofAcc (s.readNum i.pitch i.map hdr 32)
    gsCheck i.camp i.mbatch hdr h 0 0 1 cols true
  if pPairEn w then s.tableLoads i.camp (pPair w) i.mbatch false
  if pPairEn w then s.tableLoads i.camp (pPair w) i.mbatch true
  let (t0, tn) := s.legRange i rows
  let token (k : Nat) : Bool := !(gamma == some k) && !(prog == 7 && k == 4) && !(prog == 0x0D && k == 1)
  pure { recs := recs.zipIdx.map fun x => if i.inLeg && token x.2 then legPlain x.1 true t0 tn else x.1
         param := param, hdr := hdr, row0 := t0, rows := rows, last := last }

/-! The programs' work. -/

/-- The byte runs that a program reads. -/
def vReads (prog : Nat) (recs : List Nat) (secondMoment : Bool) (leg : Nat) : List (Nat × Nat) :=
  let (ins, gamma, _) := progShape prog
  let ks := if prog = 1 then [0, 1, 2] ++ (if secondMoment then [3] else [])
    else if prog = 0x0D then 0 :: (if leg = 0 then [] else [1])
    else ins ++ gamma.toList ++ (if prog = 7 ∧ leg ≠ 0 then [4] else [])
  ks.flatMap fun k => (plainOf (recs.getD k 0)).runs

/-- The writes of a row program, and of RMS_BWD's carry. -/
def State.rowWrites (s : State) (m : PageMap) (prog : Nat) (value deriv : Nat) (p : VPlan) : List (Nat × Bytes) :=
  let (ins, gamma, outs) := progShape prog
  let r (k : Nat) : Plain := plainOf (p.recs.getD k 0)
  let g := match gamma with
    | some k => s.wideRow m (r k) 0
    | none => []
  (List.range (r 0).rows).flatMap fun y =>
    let res := progRow prog p.param value deriv (p.row0 + y) (r (outs.headD 0)).fmt (ins.map fun k => s.wideRow m (r k) y) g
    (outs.zip res).map fun o => ((r o.1).at y 0, o.2.flatMap (toBytes (fmtSize (r o.1).fmt)))

/-- The gain gradient summed over the token rows in ascending order, from the carry (R215, R217, log 58). -/
def State.gainSum (s : State) (m : PageMap) (p : VPlan) (leg : Nat) : List Nat :=
  let r (k : Nat) : Plain := plainOf (p.recs.getD k 0)
  let g := s.wideRow m (r 1) 0
  let start := if leg = 0 then g.map fun _ => 0 else s.wideRow m (r 4) 0
  (List.range (r 0).rows).foldl (fun acc y =>
    (acc.zip (rmsBackward p.param (s.wideRow m (r 0) y) g (s.wideRow m (r 2) y)).2).map fun x => fp32.add x.1 x.2) start

/-- AMAX's result (R260): the largest finite magnitude, over the legs so far. -/
def State.amaxResult (s : State) (m : PageMap) (p : VPlan) (leg : Nat) : Nat :=
  let x := plainOf (p.recs.getD 0 0)
  let o := plainOf (p.recs.getD 1 0)
  let v := fp32.encode (amaxFinite ((List.range x.rows).flatMap fun y => (List.range x.cols).map fun c => s.plainAt m x y c))
  if leg = 0 then v else max v (s.peek m o.base 4)

/-! The optimiser (R228-R230). -/

/-- The Spindrift stream of the update-rounding units (R480). -/
def updateStream : Nat := 1

/-- A stochastic rounding to BF16 by the draw `r` (R230): the code, and whether it was held at the largest finite value. -/
def stochastic (x r : Nat) : Nat × Bool :=
  match fp32.decode x with
  | .nan => (0x7FC0, false)
  | .inf neg => (bf16.inf neg, false)
  | _ =>
    let y := (x % 2 ^ 31 + r % 2 ^ 16) / 2 ^ 16
    let sign := x / 2 ^ 31 * 2 ^ 15
    if 0x7F80 ≤ y then (sign + 0x7F7F, true) else (sign + y, false)

/-- One element of the update (R229): w_new and the moments that it writes, in FP32. -/
def updateElem (w : Nat) (g0 w0 m1 m2 : Nat) : Nat × List Nat :=
  let g := fp32.mul (uGscale w) g0
  let b1 := fp32.sub 0x3F800000 (uBeta1 w)
  let b2 := fp32.sub 0x3F800000 (uBeta2 w)
  let (u, out) : Nat × List Nat :=
    if uProg w = 0 then
      let m := fp32.fma (uBeta1 w) m1 (fp32.mul b1 g)
      let v := fp32.fma (uBeta2 w) m2 (fp32.mul b2 (fp32.mul g g))
      (fp32.div (fp32.mul m (uBc1 w)) (fp32.add (fp32.sqrt (fp32.mul v (uBc2 w))) (uEps w)), [m, v])
    else if uProg w = 1 then
      let m := fp32.fma (uBeta1 w) m1 g
      (m, [m])
    else
      let c := fp32.fma (uBeta1 w) m1 (fp32.mul b1 g)
      let u := match fp32.decode c with
        | .nan => fp32.nan
        | .inf neg => if neg then 0xBF800000 else 0x3F800000
        | .fin neg m _ => if m = 0 then 0 else if neg then 0xBF800000 else 0x3F800000
      (u, [fp32.fma (uBeta2 w) m1 (fp32.mul b2 g)])
  (fp32.sub w0 (fp32.mul (uLr w) (fp32.fma (uWd w) w0 u)), out)

/-- One element as written: its bytes for W', M1', M2', whether any is not finite, whether the rounding was clamped. -/
structure Updated where
  bytes : List Bytes
  bad : Bool
  clamp : Bool

/-- The step that an update of a pitch runs for (log 61). -/
def State.updateStep (s : State) (pitch : Nat) : Nat :=
  Config.updateStep (s.job pitch).num (((s.commitRec pitch).last.map (· + 1)).getD 0) % 2 ^ 32

/-- The Spindrift counter of an element of an update (R230, R481): its tensor's tag, the step, and its index in the whole tensor, row × in
+ column. The spec does not say how a VPROG learns the tensor, the step and the row at which its part stands, so those three are open
functions of where the master lies in memory, of the job and of its last committed step: none of them depends on how the shard is dealt
(R224, log 61). -/
def State.updateCounter (s : State) (pitch : Nat) (w : Plain) (y x : Nat) : Nat :=
  let a := w.at y 0 - s.fld Reg.CMT_STATUS_BANK pitch * s.fld Reg.CMT_STRIDE_STRIDE pitch
  let job := (s.job pitch).num
  elementCounter (Config.updateTensor job a) (s.updateStep pitch) (Config.updateRow job a * w.cols + x)

/-- One element of the update as the master mode writes it. -/
def State.updateOne (s : State) (pitch : Nat) (m : PageMap) (p : VPlan) (bf : Bool) (y x : Nat) : Updated :=
  let r (k : Nat) : Plain := plainOf (p.recs.getD k 0)
  let v (k : Nat) : Nat := fp32.encode (s.plainAt m (r k) y x)
  let (wn, out) := updateElem p.param (v 0) (v 1) (v 2) (if uProg p.param = 0 then v 3 else 0)
  if bf then
    let key := ((s.pitchRec pitch).spdKey).getD 0
    let (c, cl) := stochastic wn (spindrift key updateStream (s.updateCounter pitch (r 1) y x))
    let ms := out.map toBf16
    { bytes := toBytes 2 c :: ms.map (toBytes 2), clamp := cl
      bad := (c :: ms).any fun z => !(bf16.decode z).isFinite }
  else { bytes := toBytes 4 wn :: out.map (toBytes 4), clamp := false, bad := (wn :: out).any fun z => !(fp32.decode z).isFinite }

/-- The update of a shard: its writes, the non-finite elements, the clamped roundings. -/
def State.updateShard (s : State) (pitch : Nat) (m : PageMap) (p : VPlan) (bf : Bool) : List (Nat × Bytes) × Nat × Nat :=
  let r (k : Nat) : Plain := plainOf (p.recs.getD k 0)
  let rows := (List.range (r 0).rows).map fun y => (List.range (r 0).cols).map fun x => s.updateOne pitch m p bf y x
  let outs := [4, 5] ++ (if uProg p.param = 0 then [6] else [])
  (rows.zipIdx.flatMap fun row => outs.zipIdx.map fun o => ((r o.1).at row.2 0, row.1.flatMap fun e => e.bytes.getD o.2 []),
   (rows.flatten.filter (·.bad)).length, (rows.flatten.filter (·.clamp)).length)

/-- The counts of an update (R229, R235, R240), and the notice of a step's first non-finite element. -/
def State.countUpdate (s : State) (pitch camp bad clamp : Nat) : State :=
  let l := locVector camp
  let d := atBytes [(0, s.updateStep pitch)]
  let s1 := (s.bump Ctr.UPD_NONFINITE pitch l camp bad (detail := d)).bump Ctr.UPD_SR_CLAMP pitch l camp clamp (detail := d)
  let j := s1.job pitch
  if bad = 0 then s1
  else if j.rose then s1
  else (s1.setJob pitch { j with rose := true }).event Code.UPD_NONFINITE pitch l (commitDetail (s.updateStep pitch) 0 0 0)

/-! VPROG. -/

/-- A built-in program's reads and writes, an add at its header aside. -/
def State.vprogWork (s : State) (pitch camp : Nat) (m : PageMap) (w leg : Nat) (p : VPlan) : Acc State :=
  let prog := pProg w
  let value := if pPairEn w then s.tableAt camp (pPair w) false else 0
  let deriv := if pPairEn w then s.tableAt camp (pPair w) true else 0
  match s.mayRead pitch m (vReads prog p.recs (uProg p.param == 0) leg) with
  | .wait => .wait
  | .err c a => .err c a
  | .ok () =>
    if prog = 1 then
      let (ws, bad, clamp) := s.updateShard pitch m p (s.job pitch).bf16Master
      (s.countUpdate pitch camp bad clamp).writeAll pitch m none ws
    else if prog = 0x0D then
      if p.rows ≤ p.row0 ∧ leg ≠ 0 then .ok s
      else s.writeAll pitch m none [((plainOf (p.recs.getD 1 0)).base, toBytes 4 (s.amaxResult m p leg))]
    else
      let ws := s.rowWrites m prog value deriv p
      if prog = 7 then
        let sum := s.gainSum m p leg
        let carry := [((plainOf (p.recs.getD 4 0)).base, sum.flatMap (toBytes 4))]
        match s.writeAll pitch m none (ws ++ carry) with
        | .ok s1 =>
          if p.last then
            match s1.addAt pitch m .fp32 (gsBase (s.peek m p.hdr 32)) (sum.map some) with
            | .ok s2 => .ok (s2.countAdds pitch (4 * sum.length))
            | e => e
          else .ok s1
        | e => e
      else s.writeAll pitch m none ws

/-- The offset of the table area in a camp's local store (R211). -/
def tableArea : Nat := 0x3E0000

/-- A tenant program (R261): its image is loaded into the camp's local store, and it runs. The manual leaves the image's length, its place
below the table area, its instructions and their results to another book, so those are free. It faults where it reaches the table area,
where its image cannot be read, and it may end with the fault that R480 names; otherwise every operand's bytes are free (log 39). -/
def State.tenantRun (s : State) (i : Issue) (addrs : List Nat) : Option State :=
  let (how, s1) := s.draw 3
  let (len, s2) := s1.draw (2 ^ 22)
  let (place, s3) := s2.draw (2 ^ 22)
  let (n, s4) := s3.draw (2 ^ 64)
  if how = 1 ∨ tableArea < place + len then some (s4.issueFaultAt i Code.DESC_FIELD_INVALID 192 0)
  else match s4.readAt i.pitch i.map (s.slotAt i i.w 192) len with
  | .err c a => some (s4.issueFaultMem i c a)
  | .wait => none
  | .ok image =>
  let s5 := s4.store (storeBase + i.camp * 2 ^ 22 + place) image
  if how = 2 ∧ (s.pitchRec i.pitch).spdKey.isNone then some (s5.updateFault i Code.SPINDRIFT_KEY_ABSENT (relDetail 0xFFFF 0 0 0))
  else
    let recs := addrs.filterMap fun a => match s.readNum i.pitch i.map a 32 with
      | .ok r => if plainValid r then some (plainOf r) else none
      | _ => none
    let runs := (recs.flatMap Plain.runs).zipIdx
    let ws := runs.map fun x => (x.1.1, (List.range x.1.2).map fun b => Config.tenantByte n (2 ^ 48 * x.2 + b) % 256)
    let keep := ws.filter fun x => match s5.writeAt i.pitch i.map none x.1 x.2 with | .ok _ => true | _ => false
    s5.flyWork i (s5.writeAll i.pitch i.map none keep)

/-- A tenant program's issue. -/
def State.issueTenant (s : State) (i : Issue) : Option State :=
  let r : Chk (List Nat) := do
    let _ ← ofAcc (s.readAt i.pitch i.map (s.slotAt i i.w 192) 1)
    let l ← s.operandList i
    if pPairEn i.w then s.pairHeaders i.camp (pPair i.w) i.mbatch
    if pPairEn i.w then s.tableLoads i.camp (pPair i.w) i.mbatch false
    if pPairEn i.w then s.tableLoads i.camp (pPair i.w) i.mbatch true
    pure l
  match r with
  | .error b => s.issueBad i b
  | .ok l => s.tenantRun i l

/-- An add of a VPROG that begins (R205): its work is done under the running header, which ends where the work cannot be done. -/
def State.beginAdd (s : State) (i : Issue) (p : VPlan) (h : Nat) : Option State :=
  let s1 := s.gsUpdate i.map p.hdr fun _ => h
  match s1.vprogWork i.pitch i.camp i.map i.w i.leg p with
  | .ok s2 => some (s2.fly i 1 true false (p.hdr :: p.param :: p.recs) p.rows)
  | .err c a => some ((s1.gsUpdate i.map p.hdr (gsEnd false false)).issueFaultMem i c a)
  | .wait => none

/-- VPROG's own effect at issue. -/
def State.issueVprog (s : State) (i : Issue) : Option State :=
  if pProg i.w = 0xFF then s.issueTenant i
  else match s.vprogChecks i with
  | .error b => s.issueBad i b
  | .ok p =>
    if pProg i.w = 1 ∧ !updateOk p.param (s.job i.pitch).bf16Master then
      some (s.updateFault i Code.UPD_SETTING_INVALID (commitDetail (s.updateStep i.pitch) 0 0 0))
    else if pProg i.w = 1 ∧ (s.job i.pitch).bf16Master ∧ (s.pitchRec i.pitch).spdKey.isNone then
      some (s.updateFault i Code.SPINDRIFT_KEY_ABSENT (relDetail 0xFFFF 0 0 0))
    else if pProg i.w = 7 ∧ p.last then
      let h := s.peek i.map p.hdr 32
      let gd := gsDetail i.camp 0 i.mbatch (gsMbCur h)
      match s.gsBegin i.map p.hdr i.mbatch with
      | .run h1 => s.beginAdd i p h1
      | .hold =>
        let s1 := (s.bump Ctr.GS_HELD i.pitch (s.leadSlot i.pitch) i.pitch (detail := gd)).fly i 1 false false (p.hdr :: p.param :: p.recs) p.rows
        some { s1 with eng := { s1.eng with held := s1.eng.held ++ [s.issued] } }
      | .fault code =>
        let s1 := if code = Code.GS_ORDER_STALE then s.bump Ctr.GS_STALE i.pitch (s.leadSlot i.pitch) i.pitch (detail := gd) else s
        s1.issueBad i (s.gsBad i p.hdr code)
    else match s.vprogWork i.pitch i.camp i.map i.w i.leg p with
      | .ok s1 => some (s1.fly i 1 true false [] p.rows)
      | .err c a => some (s.issueFaultMem i c a)
      | .wait => none

/-- VPROG (R259-R261). -/
def execVprog (k : SlotKey) (s : State) : Host.Outcome State Fault Refusal :=
  .next (s.issueRow k.val tVprog fun s1 i => s1.issueVprog i)

end Sys2Proof.Machine
end

