-- ==== Sys2Proof/Machine/Complete.lean ====
section
/-! DEFINITION. How descriptors end (R95, R113, R168-R175, R205, R208, R247, R270): acknowledged writes, completion, watchdogs and
wait limits, held adds, FENCE_POINT, and the forced abort of a slot. -/
namespace Sys2Proof.Machine

open Sys2Proof

/-! Whole products (R95, R189). -/

/-- An operand as its descriptor names it, before legs cut it. -/
def Operand.uncut (o : Operand) : Operand := { o with record := o.whole }

/-- The whole length of a MATMUL's token axis. -/
def Product.tokenAxis (p : Product) : Nat :=
  let t := mTok p.word
  if t = 1 then p.a.uncut.outer else if t = 2 then p.b.uncut.outer else p.a.uncut.depth

/-- Whether a MATMUL is a use of a site of the ladder. -/
def Product.isUse (p : Product) : Bool :=
  decide (mMode p.word = 0 ∧ mSite p.word ≠ 0 ∧ p.a.uncut.outer ≠ 0 ∧ p.b.uncut.outer ≠ 0 ∧ p.a.uncut.depth ≠ 0)

/-- What a product leaves for the descriptor's later legs. -/
def Product.legUse (p : Product) (idx : Nat) : LegUse :=
  let coarse (o : Operand) : Option Nat := if o.kind = 0 ∧ mSite p.word = 0 ∧ mMode p.word = 0 ∧ o.coarse ≠ 0 then some o.coarse else none
  { slot := p.slot, idx := idx, amaxA := p.a.amax, amaxB := p.b.amax, coarseA := coarse p.a, coarseB := coarse p.b, tripped := p.tripped
    floored := p.floored, lostAt := p.lostAt, poison := p.poison, loss := p.loss, wrote := p.wrote }

/-- What legs carry, without a descriptor's entry. -/
def dropLegUse (slot idx : Nat) (l : List LegUse) : List LegUse := l.filter fun u => !decide (u.slot = slot ∧ u.idx = idx)

/-- A use's completion update of its site (R95), with LADDER_FLOOR where it is due (log 54). -/
def State.completeSite (s : State) (p : Product) : State :=
  if !p.isUse then s
  else
    let site := mSite p.word
    let (w, floor) := siteComplete (s.peek p.map (s.siteAddr p.pitch site) 256) p.a.amax p.b.amax p.tripped p.floored
    let s1 := s.siteStore p.pitch p.map site w
    if floor then s1.event Code.LADDER_FLOOR p.pitch (locSlot (s.slotHome p.slot)) (siteDetail site (mStep p.word) 0 0) else s1

/-- A MATMUL's leg ends: its site's update after the last leg, what the next leg starts from after another, and its header. -/
def State.completeProduct (s : State) (f : Flight) (p : Product) : State :=
  let last := lastLeg f.sect.isSome f.leg (s.slot p.slot).legLen p.tokenAxis
  let s1 := if last then s.completeSite p else s
  let kept := dropLegUse p.slot f.idx s1.eng.legUses
  let s2 : State := { s1 with eng := { s1.eng with legUses := if f.sect.isNone ∨ last then kept else p.legUse f.idx :: kept } }
  s2.dropProduct p true

/-! Events of what ended a descriptor from outside (R262, R300, R336, R352). -/

/-- The event of a code that a descriptor met in its requests; of a SIGNAL, that of R306 (log 123). -/
def State.endEvent (s : State) (k : Nat) (f : Flight) : State :=
  let p := s.slotPitch k
  if f.code / 256 = 6 then s.event f.code p locFabric (fabDetail (slotDev f.word 64) 0 0 0 (slotAddr f.word 64))
  else if f.code / 256 = 5 then s.memEvent p f.code (slotAddr f.word 64) (k % 4) (slotCamp k)
  else if dType f.word = tSignal then
    s.event f.code p (if f.code / 256 = 4 ∧ f.code < Code.SIGNAL_AHEAD then locTally (yCamp f.word) (yTally f.word) else locFabric)
      (tallyDetail (f.keep.headD 0) (if f.code < Code.SIGNAL_AHEAD then yAmount f.word else 0) (yTally f.word) (k % 4) (slotCamp k) 0)
  else s.event f.code p (locSlot (s.slotHome k)) (streamDetail 0 0 (s.slot k).mbatch f.idx)

/-! The rows. -/

/-- WRITE_ACKNOWLEDGED (R113): every write of an engine or vector descriptor whose work is over has been acknowledged. -/
def execWriteAcknowledged (k : SlotKey) (chain : Bool) (n : Fin 32) (s : State) : Host.Outcome State Fault Refusal :=
  if s.campsGated then .next s else
  match s.flightAt k.val chain n.val with
  | none => .next s
  | some f =>
    if f.left ≠ 1 ∨ dType f.word ∉ [tMatmul, tQuantise, tConvert, tVprog] ∨ f.uid ∈ s.eng.held then .next s
    else match s.product f.uid with
      | some p =>
        if s.productDrained p ∧ !p.a.prepass ∧ !p.b.prepass then .next (s.setFlight f.uid fun g => { g with left := 0, done := true }) else .next s
      | none => if dType f.word = tMatmul then .next s else .next (s.setFlight f.uid fun g => { g with left := 0, done := true })

/-- GS_ADD_RETRY (R205): a held add tries its header again. -/
def execGsAddRetry (k : SlotKey) (chain : Bool) (n : Fin 32) (s : State) : Host.Outcome State Fault Refusal :=
  if s.campsGated then .next s else
  match s.flightAt k.val chain n.val with
  | none => .next s
  | some f =>
    if f.uid ∉ s.eng.held then .next s
    else
      let i := s.issueOf k.val f
      let free : State := { s with eng := { s.eng with held := s.eng.held.filter (· ≠ f.uid) } }
      let stale (t : State) (code d : Nat) : State :=
        if code = Code.GS_ORDER_STALE then t.bump Ctr.GS_STALE i.pitch (t.leadSlot i.pitch) i.pitch (detail := d) else t
      let failed (hdr code : Nat) : State :=
        let d := gsDetail i.camp 0 i.mbatch (gsMbCur (s.peek f.map hdr 32))
        (stale s code d).event code i.pitch (locSlot (s.slotHome k.val)) d
      match s.product f.uid with
      | some p =>
        match gsStart (s.peek p.map p.hdr 32) i.mbatch with
        | .hold => .next s
        | .fault code => .next ((failed p.hdr code).productFaulted p code)
        | .run h =>
          let q := { p with added := true }
          let s1 := (free.gsUpdate p.map p.hdr fun _ => h).mapProduct p.uid fun _ => q
          if p.a.prepass ∨ p.b.prepass then .next s1 else .next ((s1.startProduct q).getD s)
      | none =>
        match f.keep with
        | hdr :: param :: recs =>
          match gsStart (s.peek f.map hdr 32) i.mbatch with
          | .hold => .next s
          | .fault code => .next ((((failed hdr code).closeAdd f false false)).flightFaulted k.val f code)
          | .run h =>
            let s1 := free.gsUpdate f.map hdr fun _ => h
            match s1.vprogWork i.pitch i.camp f.map f.word f.leg { recs := recs, param := param, hdr := hdr, row0 := 0, rows := 0, last := true } with
            | .ok s2 => .next (s2.setFlight f.uid fun g => { g with begun := true })
            | .err c a => .next (((s1.gsUpdate f.map hdr (gsEnd false false)).memEvent i.pitch c a).flightFaulted k.val f c)
            | .wait => .next s
        | _ => .next s

/-- DESCRIPTOR_COMPLETE (R95, R168, R172, R205, R243, R270): a descriptor whose parts have all ended completes or faults; a SIGNAL whose
turn has come performs first; a FENCE_POINT that completes acknowledges the fences pending in its camp. -/
def execDescriptorComplete (k : SlotKey) (chain : Bool) (n : Fin 32) (s : State) : Host.Outcome State Fault Refusal :=
  if s.campsGated then .next s else
  match s.flightAt k.val chain n.val with
  | none => .next s
  | some f =>
    let x := s.slot k.val
    if x.aborting ∨ f.left ≠ 0 then .next s
    else if f.code ≠ 0 then
      .next (((if f.code = Code.COMMIT_ABORT ∨ toldCode ≤ f.code then s else s.endEvent k.val f).dropFlight k.val f).flightFaulted k.val f
        (f.code % toldCode))
    else if dType f.word = tSignal ∧ !f.begun then
      if n.val = 0 ∧ (chain → x.main.flights.length ≤ 1) then
        let (code, s1) := s.performSignal k.val f
        if code ≠ 0 then .next (s1.flightFaulted k.val f code) else .next s1
      else .next s
    else if !f.done then .next s
    else
      let s1 := match s.product f.uid with
        | some p => (s.completeProduct f p).settleCamp p.camp
        | none => s.closeAdd f true true
      let s2 := s1.flightDone k.val f
      .next (if dType f.word = tFencePoint ∧ (s1.completionSignal k.val f).1 = 0 then s2.acknowledgeCamp (slotCamp k.val) else s2)

/-- Whether a slot that halts still waits on its last descriptor (R172). -/
def StreamSlot.haltWaits (x : StreamSlot) : Bool :=
  match x.frame.flights.getLast? with
  | some f => decide (x.state = 3) && !x.aborting && ((decide (dType f.word ∈ [tWait, tBarrier]) && !f.done) || x.blockedGet.isSome)
  | none => false

/-- STREAM_WAIT_TIMEOUT (R169, R205): a slot blocked beyond its limit halts at the descriptor it is blocked on, also while it halts
for another (R172); an add held beyond it ends. -/
def execStreamWaitTimeout (k : SlotKey) (s : State) : Host.Outcome State Fault Refusal :=
  if s.campsGated then .next s else
  let x := s.slot k.val
  let out (t : State) (f : Flight) : State :=
    (t.event Code.STREAM_WAIT_TIMEOUT (s.slotPitch k.val) (locSlot (s.slotHome k.val)) (streamDetail 0 0 x.mbatch f.idx)).flightFaulted k.val f
      Code.STREAM_WAIT_TIMEOUT
  if x.state = 2 ∨ x.haltWaits then
    match x.frame.flights.getLast? with
    | none => .next s
    | some f => .next (out (s.leaveWaits (.slot k.val)) f)
  else match x.allFlights.find? fun f => decide (f.uid ∈ s.eng.held) with
    | none => .next s
    | some f => .next (out (s.dropFlight k.val f) f)

/-- DESC_WATCHDOG (R247): a descriptor of no engine that has not completed ends, its writes so far stand, and it raises no completion
signal (log 123). -/
def execDescWatchdog (k : SlotKey) (chain : Bool) (n : Fin 32) (s : State) : Host.Outcome State Fault Refusal :=
  if s.campsGated then .next s else
  match s.flightAt k.val chain n.val with
  | none => .next s
  | some f =>
    let t := dType f.word
    let x := s.slot k.val
    if t ∈ engineTypes ∨ t ∈ noWatchdogTypes ∨ (t = tStashGet ∧ x.chain.isSome) ∨ x.aborting then .next s
    else
      let s1 := if t = tStashGet then s.unblockSlot k.val else s
      .next (((s1.dropFlight k.val f).event Code.DESC_WATCHDOG (s.slotPitch k.val) (locSlot (s.slotHome k.val))
        (descDetail 0xFFFF 0 t x.mbatch f.idx)).flightFaulted k.val f Code.DESC_WATCHDOG)

/-- FENCE_POINT (R270): it issues after every earlier descriptor has completed; what it records it records on completion. -/
def execFencePoint (k : SlotKey) (s : State) : Host.Outcome State Fault Refusal :=
  .next (s.issueRow k.val tFencePoint fun s1 i => some (s1.fly i 0 true true))

/-! The forced abort (R175). -/

/-- The requests of a flight that have left their source. -/
def State.outstanding (s : State) (uid : Nat) : Nat :=
  (s.fab.reqs.filter fun r => match r.origin with | .flight u _ => decide (u = uid) | _ => false).length

/-- One slot stopped by a forced abort: its queue is emptied and its descriptors end; those with requests under way stay until they
are answered (log 67). -/
def State.forceAbort (s : State) (k : Nat) : State :=
  let x := s.slot k
  if x.aborting then s
  else if x.run.isNone then s.setSlot k { x with queue := [] }
  else
    let s0 := (s.fab.colls.filter fun c => x.allFlights.any fun f => decide (f.uid = c.uid)).foldl
      (fun t c => t.sendAborts c Code.STREAM_FORCED_ABORT) s
    let stopped (t : State) : State := t.setSlot k { t.slot k with state := 3, queue := [], aborting := true }
    let s1 := x.allFlights.foldl (fun t f => t.dropFlight k f (whole := true)) (stopped ((s0.countBlocked k).leaveWaits (.slot k)))
    let left := (x.allFlights.map fun f => { f with left := s1.outstanding f.uid }).filter fun f => decide (f.left ≠ 0)
    let y := s1.slot k
    (s1.setSlot k { y with
      state := 3, queue := [], faulted := [], chain := none, aborting := true
      main := { y.main with next := x.oldest, flights := left } }).settleCamp (slotCamp k)

/-- Whether a slot's forced abort can complete: every write and add already issued has been answered. -/
def StreamSlot.abortDone (x : StreamSlot) : Bool := x.aborting && x.main.flights.all fun f => f.left == 0

/-- A forced abort completes: the slot is idle, and STREAM_FORCED_ABORT names its oldest descriptor that had not completed. -/
def State.endAbort (s : State) (k : Nat) : State :=
  let x := s.slot k
  (s.setSlot k { StreamSlot.idle with home := x.home }).event Code.STREAM_FORCED_ABORT (s.slotPitch k) (locSlot (s.slotHome k))
    (streamDetail 0 0 x.mbatch x.main.next)

/-- Whether any slot of a pitch is still being aborted. -/
def State.abortingIn (s : State) (p : Nat) : Bool := s.slots.any fun e => e.2.aborting && s.slotPitch e.1 == p

end Sys2Proof.Machine
end

