-- ==== Sys2Proof/Machine/Commit.lean ====
section
/-! DEFINITION. The commit of a step (R231-R239) with its messages, and the replica comparison that a COMMIT decision brings
(R467). -/
namespace Sys2Proof.Machine

open Sys2Proof

/-! Replica comparison (R467, R468). -/

/-- The self-test of every engine of the device, one engine of each camp at a time. -/
def State.deviceTest (s : State) : State :=
  (List.range 128).foldl (fun t e =>
    if t.latch (.engine e) ≠ 0 ∨ e ∈ t.rel.due then t
    else if t.rel.testing.any fun x => decide (x.1 / 8 = e / 8) then { t with rel := { t.rel with due := t.rel.due ++ [e] } }
    else t.bringForward e 7) s

/-- DIGEST_MISMATCH (R488), naming a device. -/
def State.mismatch (s : State) (p step dev : Nat) : State :=
  s.event Code.DIGEST_MISMATCH p (locHarbour 0x0C) (relDetail 0xFFFF 0 0 step ||| dev <<< 64)

/-- The outcome of comparing the digests (R467): 0 equal, 1 odd named, 2 no majority, 3 pair named, and the entries named. -/
def compareDigests (ds : List Nat) : Nat × List Nat :=
  if ds.all (· == ds.headD 0) then (0, [])
  else if ds.length = 2 then (3, [0, 1])
  else match ds.find? fun d => decide (ds.length < 2 * (ds.filter (· == d)).length) with
    | some d => (1, (List.range ds.length).filter fun r => ds.getD r 0 ≠ d)
    | none => (2, [])

/-- The entries of the table, or the fault that reading one meets (log 66). -/
def State.beaconTable (s : State) (p a : Nat) : Nat → Acc (List Nat)
  | 0 => .ok []
  | n + 1 =>
    match s.beaconTable p a n with
    | .ok l => match s.readNum p (s.mapOf p) (a + 64 * n) 64 with
      | .ok v => .ok (l ++ [v])
      | .err c x => .err c x
      | .wait => .ok (l ++ [s.peek (s.mapOf p) (a + 64 * n) 64])
    | e => e

/-- The commit unit compares the replica digest table (R467). -/
def State.compareReplicas (s : State) (p : Nat) : State :=
  let step := s.cmtStep p
  let j := s.job p
  if s.fld Reg.BCN_CFG_ENABLE p = 0 ∨ step % max 1 (s.fld Reg.BCN_CFG_INTERVAL p) ≠ 0 then s
  else match s.beaconTable p (s.fld Reg.BCN_CFG_TABLE p) (j.parts.length / max 1 j.gsize) with
    | .ok ds =>
      let (outcome, named) := compareDigests ds
      let mine := j.parts.findIdx (· = s.devId)
      let dev (r : Nat) : Nat := j.parts.getD (r * j.gsize + mine % max 1 j.gsize) 0
      let s1 := ((s.setFld Reg.BCN_STATUS_STEP step p).setFld Reg.BCN_STATUS_OUTCOME outcome p).accum Reg.BCN_COMPARED 1 p
      if outcome = 0 then s1
      else
        let s2 := s1.bump Ctr.BCN_MISMATCH p (locHarbour 0x0C) p
        let s3 := if outcome = 2 then s2.mismatch p step 0 else named.foldl (fun t r => t.mismatch p step (dev r)) s2
        if outcome = 2 ∨ named.any (fun r => decide (dev r = s.devId)) then s3.deviceTest else s3
    | .err c a => s.memEvent p c a
    | .wait => s

/-! COMMIT decisions. -/

/-- COMMIT takes effect on this device (R226, R236, R467). -/
def State.applyCommit (s : State) (p cause : Nat) : State :=
  let old := s.cmtState p
  let s1 := (((s.setFld Reg.CMT_STATUS_STATE 4 p).setFld Reg.CMT_STATUS_BANK (1 - s.fld Reg.CMT_STATUS_BANK p) p).accum Reg.CMT_COMMITS 1 p)
  let s2 := (s1.setCommit p { s1.commitRec p with last := some (s.cmtStep p), fenced := [] }).setJob p { s1.job p with rose := false }
  (((s2.resolved p old cause s.devId).endCommits p 0).compareReplicas p)

/-- The leader decides COMMIT when it holds every vote READY; alone, it applies it at once (R236). -/
def State.tryDecide (s : State) (p : Nat) : State :=
  let c := s.commitRec p
  if c.decided ≠ 0 ∨ !((s.job p).parts.all (· ∈ c.ready)) then s
  else
    let s1 := (s.setCommit p { c with decided := 1 }).tellPeers p decideCommit 0
    if s.peers p = [] then s1.applyCommit p 0 else s1

/-- The leader holds a device's vote READY. -/
def State.holdReady (s : State) (p dev : Nat) : State :=
  let c := s.commitRec p
  (s.setCommit p { c with ready := if dev ∈ c.ready then c.ready else c.ready ++ [dev] }).tryDecide p

/-- This device votes READY (R235). -/
def State.castReady (s : State) (p : Nat) : State :=
  let s1 := (s.setCommit p { s.commitRec p with vote := 1 }).setFld Reg.CMT_STATUS_STATE 2 p
  if s1.leads p then s1.holdReady p s1.devId else s1.sendCommit p (s1.leader p) voteReady 0 0

/-- This device votes as soon as it can (R235). -/
def State.tryVote (s : State) (p : Nat) : State :=
  let s1 := s.voteCheck p
  if s1.cmtState p = 1 ∧ (s1.commitRec p).vote = 0
      ∧ (s1.campsOf p).all (fun c => (s1.commitRec p).issued.any fun x => decide (x.1 = c)) then s1.castReady p
  else s1

/-! The descriptor. -/

/-- A COMMIT joins the attempt that is open (R235). -/
def State.joinCommit (s : State) (i : Issue) (camp step : Nat) : State :=
  let uid := s.issued
  let s1 := s.fly i 1 true false
  let c := s1.commitRec i.pitch
  let s2 := s1.setCommit i.pitch { c with issued := c.issued ++ [(camp, uid)] }
  if s.cmtStep i.pitch = step then s2.tryVote i.pitch
  else if s.cmtState i.pitch = 1 ∧ c.vote = 0 then s2.castAbort i.pitch 4 else s2

/-- COMMIT (R235, R269). -/
def execCommit (k : SlotKey) (s : State) : Host.Outcome State Fault Refusal :=
  .next (s.issueRow k.val tCommit fun s1 i =>
    let p := i.pitch
    let step := bits i.w 95 64
    let camp := s1.slotHome k.val / 4
    let st := s1.cmtState p
    let c := s1.commitRec p
    if st = 4 ∧ s1.cmtStep p = step then some (s1.fly i 0 true true)
    else if st = 3 then some ((s1.commitEvent p Code.COMMIT_IN_DOUBT 0 s1.devId).issueFault i Code.COMMIT_IN_DOUBT)
    else if !s1.stepFresh p step then
      some ((s1.event Code.COMMIT_SETTING_INVALID p (locHarbour 0x0C) (commitDetail step 0 0 s1.devId)).issueFault i Code.COMMIT_SETTING_INVALID)
    else if st = 1 ∨ st = 2 then some (s1.joinCommit i camp step)
    else if st = 5 ∧ s1.cmtStep p = step ∧ !(c.issued.any fun x => decide (x.1 = camp)) then
      some ((s1.setCommit p { c with issued := c.issued ++ [(camp, s1.issued)] }).issueFault i Code.COMMIT_ABORT)
    else some ((s1.openAttempt p step).joinCommit i camp step))

/-! Messages (R234). -/

/-- A commit message of a kind taken: authenticated, of this job and from a participant; others are discarded. -/
def State.takeCommit (s : State) (pkt : Packet) (tagOk : Bool) (kind : Nat) (f : State → Nat → Nat → State) : State :=
  let b := ofBytes pkt.body
  if !s.takesMessage pkt 2 ∨ bits b 83 80 ≠ kind then s
  else
    let (ok, s1) := s.accept pkt tagOk
    let j := s1.job pkt.pitch
    if !ok ∨ j.num = 0 ∨ bits b 63 48 ≠ j.num ∨ pkt.src ∉ j.parts ∨ pkt.src = s1.devId then s1 else f s1 pkt.pitch b

/-- Whether a body is of the current attempt. -/
def State.sameAttempt (s : State) (p b : Nat) : Bool :=
  s.cmtState p != 0 && s.cmtStep p == bits b 31 0 && s.cmtAttempt p == bits b 79 72

/-- The state in which a body's attempt is the current one: it is already, or it is the next to open; none where it is neither. -/
def State.meetAttempt (s : State) (p b : Nat) : Option State :=
  if s.sameAttempt p b then some s
  else if s.cmtState p ∈ [0, 4, 5] ∧ s.stepFresh p (bits b 31 0) ∧ s.nextAttempt p (bits b 31 0) = bits b 79 72 then
    some (s.openAttempt p (bits b 31 0))
  else none

/-- VOTE_READY (R236): the leader holds the vote. -/
def execVoteReady (pkt : Packet) (tagOk : Bool) (s : State) : Host.Outcome State Fault Refusal :=
  .next (s.takeCommit pkt tagOk voteReady fun s1 p b =>
    if !s1.leads p then s1
    else match s1.meetAttempt p b with
      | none => s1
      | some t => if t.cmtState p ∈ [1, 2] then (t.holdReady p pkt.src).tryVote p else t)

/-- VOTE_ABORT (R236): the leader decides ABORT. -/
def execVoteAbort (pkt : Packet) (tagOk : Bool) (s : State) : Host.Outcome State Fault Refusal :=
  .next (s.takeCommit pkt tagOk voteAbort fun s1 p b =>
    if !s1.leads p then s1
    else match s1.meetAttempt p b with
      | none => s1
      | some t => if t.cmtState p ∈ [1, 2] ∧ (t.commitRec p).decided = 0 then t.leaderAbort p 5 pkt.src else t)

/-- DECIDE_COMMIT (R236): a participant applies the decision and acknowledges it. -/
def execDecideCommit (pkt : Packet) (tagOk : Bool) (s : State) : Host.Outcome State Fault Refusal :=
  .next (s.takeCommit pkt tagOk decideCommit fun s1 p b =>
    if !s1.sameAttempt p b then s1
    else
      let s2 := if s1.cmtState p ∈ [1, 2, 3] then s1.applyCommit p 0 else s1
      s2.sendCommit p pkt.src decideAck 0 0)

/-- DECIDE_ABORT (R236): a participant applies the decision, before its own COMMIT as well, and acknowledges it. -/
def execDecideAbort (pkt : Packet) (tagOk : Bool) (s : State) : Host.Outcome State Fault Refusal :=
  .next (s.takeCommit pkt tagOk decideAbort fun s1 p b =>
    match s1.meetAttempt p b with
    | none => s1
    | some t =>
      let s2 := if t.cmtState p ∈ [1, 2, 3] then t.applyAbort p (bits b 95 88) pkt.src else t
      s2.sendCommit p pkt.src decideAck 0 0)

/-- A participant has acknowledged the decision of an earlier attempt. -/
def State.ackOwed (s : State) (p dev b : Nat) : State :=
  let c := s.commitRec p
  let hit (o : OwedDecision) : Bool := decide (o.step = bits b 31 0 ∧ o.attempt = bits b 79 72)
  s.setCommit p { c with owed := (c.owed.map fun o => if hit o then { o with devs := o.devs.filter (· ≠ dev) } else o).filter (·.devs ≠ []) }

/-- DECIDE_ACK (R236): the leader applies COMMIT once one other participant has acknowledged it; an acknowledgement of a decision still
being sent is taken in a later attempt too (log 122). -/
def execDecideAck (pkt : Packet) (tagOk : Bool) (s : State) : Host.Outcome State Fault Refusal :=
  .next (s.takeCommit pkt tagOk decideAck fun s1 p b =>
    let c := s1.commitRec p
    if !s1.leads p then s1
    else if !s1.sameAttempt p b then (if c.owed = [] then s1 else s1.ackOwed p pkt.src b)
    else if c.decided = 0 then s1
    else
      let s2 := s1.setCommit p { c with acked := if pkt.src ∈ c.acked then c.acked else c.acked ++ [pkt.src] }
      if c.decided = 1 ∧ s1.cmtState p ∈ [1, 2] then s2.applyCommit p 0 else s2)

/-- QUERY (R237): a participant answers with its record; one that had not voted then votes ABORT. -/
def execQuery (pkt : Packet) (tagOk : Bool) (s : State) : Host.Outcome State Fault Refusal :=
  .next (s.takeCommit pkt tagOk queryKind fun s1 p b =>
    match s1.meetAttempt p b with
    | none => s1
    | some t =>
      let c := t.commitRec p
      let st := t.cmtState p
      let s2 := t.sendCommit p pkt.src stateReply (if st = 5 then c.why else if c.vote = 2 then c.cause else 0) st
      if st = 1 ∧ c.vote = 0 then s2.castAbort p 7 else s2)

/-- STATE_REPLY (R237): it settles a participant that voted READY and waits. -/
def execStateReply (pkt : Packet) (tagOk : Bool) (s : State) : Host.Outcome State Fault Refusal :=
  .next (s.takeCommit pkt tagOk stateReply fun s1 p b =>
    let st := s1.cmtState p
    let theirs := bits b 87 84
    let cause := bits b 95 88
    if !s1.sameAttempt p b ∨ s1.leads p ∨ !(decide (st = 3) || (decide (st = 2) && decide ((s1.commitRec p).vote = 1))) then s1
    else if theirs = 4 then s1.applyCommit p 0
    else if theirs = 5 then s1.applyAbort p cause pkt.src
    else if theirs = 2 ∧ cause ≠ 0 then (s1.sendCommit p (s1.leader p) voteAbort cause 0).applyAbort p cause pkt.src
    else if theirs ≤ 1 then (s1.sendCommit p (s1.leader p) voteAbort 7 0).applyAbort p 7 pkt.src
    else s1)

/-! Timeouts (R236, R237). -/

/-- VOTE_TIMEOUT (R236): the leader holds a vote, and VOTE_TO has passed without all. -/
def execVoteTimeout (p : Pitch) (s : State) : Host.Outcome State Fault Refusal :=
  let c := s.commitRec p.val
  if s.leads p.val ∧ s.cmtState p.val ∈ [1, 2] ∧ c.decided = 0 ∧ (c.ready ≠ [] ∨ c.vote ≠ 0) then .next (s.leaderAbort p.val 2 s.devId)
  else .next s

/-- A decision sent to the participants that have not acknowledged it. -/
def State.sendOwed (s : State) (p : Nat) (o : OwedDecision) : State :=
  o.devs.foldl (fun t d => t.sendCommitOf p d o.kind o.cause 0 o.attempt o.step) s

/-- DECIDE_RESEND (R236): the decision, and each of an earlier attempt, is sent again to the participants that have not acknowledged it. -/
def execDecideResend (p : Pitch) (s : State) : Host.Outcome State Fault Refusal :=
  if !s.leads p.val then .next s
  else .next (((s.commitRec p.val).owed ++ s.decisionOwed p.val).foldl (fun t o => t.sendOwed p.val o) s)

/-- DECISION_WAIT_TIMEOUT (R237): a participant that voted READY asks every participant; after QUERY_ROUNDS rounds it is IN_DOUBT. -/
def execDecisionWaitTimeout (p : Pitch) (s : State) : Host.Outcome State Fault Refusal :=
  let p := p.val
  let c := s.commitRec p
  let st := s.cmtState p
  if s.leads p ∨ !(decide (st = 3) || (decide (st = 2) && decide (c.vote = 1))) then .next s
  else
    let s1 := if st = 2 ∧ max 1 (s.fld Reg.CMT_CFG_QUERY_ROUNDS p) ≤ c.rounds then
        ((s.setFld Reg.CMT_STATUS_STATE 3 p).bump Ctr.CMT_INDOUBT p (locHarbour 0x0C) p).commitEvent p Code.COMMIT_IN_DOUBT 0 s.devId
      else s
    .next ((s1.setCommit p { c with rounds := c.rounds + 1 }).tellPeers p queryKind 0)

end Sys2Proof.Machine
end

