-- ==== Sys2Proof/Machine/Return.lean ====
section
/-! DEFINITION. The return of fenced units (R468, R471-R474): self-tests, UNFENCE, and the end of a host's guest streams. -/
namespace Sys2Proof.Machine

open Sys2Proof

/-- The answer of the UNFENCE that began a unit's return (R473): the latch as it reads then. -/
def State.unfenceReply (s : State) (u : FUnit) (status : Nat) : State :=
  s.replyWaits (.unfence u.loc) status fun t => toBytes 4 (t.latch u)

/-- An UNFENCE of a whole die is answered once none of its camps is returning. -/
def State.settleDie (s : State) (d : Nat) : State :=
  if (List.range 8).any fun i => s.fld Reg.FEN_STATE_CAMP_STATE (8 * d + i) == 3 then s
  else s.unfenceReply (.die d) (if s.latch (.die d) = 0 then 0 else Code.SELFTEST_FAIL)

/-- A unit's latch reads IN_SERVICE again, and nothing of its fence stays. -/
def State.inService (s : State) (u : FUnit) : State :=
  let s1 := s.setLatch u 0
  let s2 := match u with
    | .engine e => (((s1.setFld Reg.FEN_STATE_ENG_CAUSE 0 e).setFld Reg.FEN_STATE_ENG_HARD 0 e).emptyEngine e)
    | .camp c => ((List.range 8).map (· + 8 * c)).foldl State.emptyEngine
        ((s1.setFld Reg.FEN_STATE_CAMP_CAUSE 0 c).setFld Reg.FEN_STATE_CAMP_HARD 0 c)
    | _ => s1
  { s2 with rel := { s2.rel with causes := sset 0 s2.rel.causes u.loc 0 } }

/-- A unit that passed its self-test returns to service (R473): its latch, its strikes, its event. -/
def State.returned (s : State) (u : FUnit) : State :=
  let s1 := s.countersRun.inService u
  ({ s1 with rel := { s1.rel with strikes := sset 0 s1.rel.strikes u.loc 0 } } : State).event Code.UNIT_RETURNED 0 u.loc
    (relDetail u.laneNo 0 0 0)

/-- A unit stays or reads fenced after its self-test (R468, R473). -/
def State.testFailed (s : State) (u : FUnit) : State :=
  let s1 := s.setLatch u 2
  let s2 := match u with
    | .engine e => s1.setFld Reg.FEN_STATE_ENG_CAUSE 7 e
    | .camp c => s1.setFld Reg.FEN_STATE_CAMP_CAUSE 7 c
    | _ => s1
  s2.event Code.SELFTEST_FAIL 0 u.loc (relDetail u.laneNo 7 (s.strikesOf u) 0)

/-- Whether an engine's self-test is begun or waited for. -/
def State.underTest (s : State) (e : Nat) : Bool := s.rel.testing.any fun t => decide (t.1 = e)

/-- An engine joins those under self-test; `back` tells whether a pass returns it to service. -/
def State.beginTest (s : State) (e : Nat) (back : Bool) : State :=
  if s.underTest e then s else { s with rel := { s.rel with testing := s.rel.testing ++ [(e, back)] } }

/-- An engine leaves those under self-test, and the next engine of its camp whose test is due begins. -/
def State.leaveTest (s : State) (e : Nat) : State :=
  let s1 : State := { s with rel := { s.rel with testing := s.rel.testing.filter fun t => decide (t.1 ≠ e) } }
  match s1.rel.due.find? fun d => decide (d / 8 = e / 8) with
  | none => s1
  | some d =>
    let s2 : State := { s1 with rel := { s1.rel with due := s1.rel.due.filter (· ≠ d) } }
    if s2.latch (.engine d) ≠ 0 ∨ (s2.rel.testing.any fun t => decide (t.1 / 8 = e / 8)) then s2 else s2.bringForward d 7

/-- The lanes that a result names as failing; more than 32 are a failure as a whole (R468). -/
def failingLanes : TestResult → Option (List Nat)
  | .pass => some []
  | .lanes l => if l.eraseDups.length ≤ 32 then some (l.eraseDups.map (·.val)) else none
  | .fail => none

/-- The lanes of an engine after its self-test: failing ones stay fenced, returning ones return or fail (R468, R473). -/
def State.testLanes (s : State) (e : Nat) (bad : Option (List Nat)) : State :=
  (List.range 256).foldl (fun t l =>
    let u := FUnit.lane e l
    let fails : Bool := match bad with
      | none => true
      | some b => decide (l ∈ b)
    if t.laneLatch e l = 3 then
      if fails then (t.testFailed u).unfenceReply u Code.SELFTEST_FAIL else (t.returned u).unfenceReply u 0
    else if fails ∧ bad.isSome ∧ t.laneLatch e l ≠ 2 then t.fenceDone u false 7
    else t) s

/-- The self-test of an engine ends (R468, R473). -/
def State.engineTested (s : State) (e : Nat) (back : Bool) (r : TestResult) : State :=
  let u := FUnit.engine e
  let asked := s.latch u = 3
  let s1 := (s.leaveTest e).testLanes e (failingLanes r)
  let s2 := if (failingLanes r).isNone then (s1.testFailed u).unfenceReply u Code.SELFTEST_FAIL
    else if asked ∨ back then (s1.returned u).unfenceReply u 0
    else s1
  (s2.fenceParents (e / 8)).settleCamp (e / 8)

/-- The self-test of a camp ends (R473): it returns with the engines that pass, but for those held by R413. -/
def State.campTested (s : State) (c : Nat) (island : Bool) (rs : List TestResult) : State :=
  let u := FUnit.camp c
  let r (i : Nat) : TestResult := rs.getD i .fail
  if !island ∨ !((List.range 8).any fun i => (failingLanes (r i)).isSome) then ((s.testFailed u).unfenceReply u Code.SELFTEST_FAIL).settleDie (c / 8)
  else
    let s1 := (List.range 8).foldl (fun t i =>
      let e := 8 * c + i
      let t1 := t.testLanes e (failingLanes (r i))
      if (failingLanes (r i)).isNone then t1.testFailed (.engine e)
      else if t1.latch (.engine e) = 2 ∧ t1.fld Reg.FEN_STATE_ENG_CAUSE e ≠ 6 then t1.returned (.engine e)
      else t1) (s.returned u)
    ((s1.unfenceReply u 0).settleDie (c / 8)).settleCamp c

/-- An UNFENCE begins (R473): the latch reads RETURNING, and the test that decides runs. A unit in service is answered at once by the
caller. -/
def State.startReturn (s : State) (u : FUnit) : State :=
  let s1 := s.countersRun.setLatch u 3
  match u with
  | .lane e _ =>
    let l := s1.latch (.engine e)
    if l = 0 then (s1.beginTest e true).startFence (.engine e) 7 else s1.beginTest e false
  | .engine e => s1.beginTest e true
  | _ => s1

/-- A FENCE that meets a returning unit ends its self-test (R471): the latch reads FENCED, and the UNFENCE is answered so (log 78). -/
def State.endReturn (s : State) (u : FUnit) : State :=
  let s1 := s.setLatch u 2
  let s2 := match u with
    | .engine e =>
      if (List.range 256).any fun l => s1.laneLatch e l == 3 then
        { s1 with rel := { s1.rel with testing := s1.rel.testing.map fun (x : Nat × Bool) => if x.1 = e then (e, false) else x } }
      else s1.leaveTest e
    | _ => s1
  s2.unfenceReply u Code.MBX_STATE_CONFLICT

/-- Whether a host's guest streams of a camp have drained (R474). -/
def State.guestsIdle (s : State) (h : Nat) : Bool :=
  (List.range 4).all fun i => (s.slot (64 + 4 * h + i)).state == 0 && (s.slot (64 + 4 * h + i)).run.isNone && (s.slot (64 + 4 * h + i)).queue.isEmpty

/-- The move of a camp ends (R474): the tallies are copied back, the redirect is cleared, its pages are mapped again. -/
def State.moveBack (s : State) (c : Nat) : State :=
  let s1 : State := { s with
    rel := { s.rel with moved := s.rel.moved.filter fun m => decide (m.1 ≠ c) }
    sync := { s.sync with tallies := moveTallies (16 + c) c s.sync.tallies } }
  (s1.setFld Reg.FEN_STATE_CAMP_HOST 0 c).setDark c false

end Sys2Proof.Machine
end

