-- ==== Sys2Proof/Machine/Power.lean ====
section
/-! DEFINITION. Power, heat and the Lantern (chapter 14): sensors and their filter, ALERT_N, the coolant stop, trips, clock steps,
supplies, the module limit, energy, the Tide governor and its budgets, IDLE and DOZE, the watchdogs. -/
namespace Sys2Proof.Machine

open Sys2Proof

/-- The state with its power record set. -/
def State.withPower (s : State) (p : Power) : State := { s with power := p }

/-- Whether a sticky bit of LNT_STATUS is set. -/
def State.stickySet (s : State) : Bool :=
  [Reg.LNT_STATUS_RESTART_STICKY, Reg.LNT_STATUS_SENSOR_STICKY, Reg.LNT_STATUS_LIMIT_STICKY, Reg.LNT_STATUS_TRIP_STICKY,
    Reg.LNT_STATUS_COOLANT_STICKY].any fun f => s.fld f == 1

/-- ALERT_N as R422 drives it. -/
def State.setAlert (s : State) : State :=
  s.setFld Reg.LNT_STATUS_ALERT (ofBool (s.power.stop != 0 || !s.power.tripped.isEmpty || decide (s.fld Reg.LNT_STATUS_SCALE < 256) || s.stickySet))

/-- A sticky bit set. -/
def State.stick (s : State) (f : Fld) : State := (s.setFld f 1).setAlert

/-- Whether the module is in service with its compute dies powered. -/
def State.running (s : State) : Bool := s.fld Reg.STU_STATUS_PHASE == 0 && (s.powerState ≤ 2 || s.powerState == 4)

/-! Sensors (R420, R421, R518). -/

/-- The class of a sensor point. -/
def sensorClass (p : Nat) : Nat :=
  if p < 512 then 0 else if p < 1024 then 1 else if p < 1088 then 2 else if p < 1344 then 3 else if p < 1504 then 4
  else if p < 1536 then 5 else if p < 2016 then 6 else if p < 2040 then 7 else 6

/-- Whether a point is a diode, in the order in which R420 lists each group's sensors. -/
def isDiode (p : Nat) : Bool :=
  if p < 512 then true
  else if p < 1024 then false
  else if p < 1088 then decide ((p - 1024) % 4 < 2)
  else if p < 1344 then decide ((p - 1088) % 2 = 0)
  else if p < 1504 then decide ((p - 1344) % 20 < 16)
  else if p < 1530 then decide ((p - 1504) % 2 = 0)
  else decide (p < 1536)

/-- Where the events of a sensor point lie (R428). -/
def sensorLoc (p : Nat) : Nat :=
  if p < 512 then locEngine (p / 4) else if p < 1024 then locEngine ((p - 512) / 4)
  else if 1536 ≤ p ∧ p < 2000 then locCarrier ((p - 1536) / 4) else locLantern

/-- A point that nothing has sampled. -/
def SensorRec.empty : SensorRec := { last := [], y := 0, bad := 0, faulty := false }

/-- A sensor point. -/
def State.sensor (s : State) (p : Nat) : SensorRec := sget .empty s.power.sensors p

/-- The state with a sensor point set. -/
def State.setSensor (s : State) (p : Nat) (x : SensorRec) : State :=
  s.withPower { s.power with sensors := sset .empty s.power.sensors p x }

/-- A number put in its place in a rising list. -/
def insertInt (x : Int) : List Int → List Int
  | [] => [x]
  | y :: rest => if x ≤ y then x :: y :: rest else y :: insertInt x rest

/-- The median of a list (R421); of an even number, the lower of the middle two. -/
def medianOf (l : List Int) : Int := (l.foldl (fun m x => insertInt x m) []).getD ((l.length - 1) / 2) 0

/-- One good sample through the filter (R421): the first sets the value; a step that is no whole number is rounded freely (log 85). -/
def State.filterSample (s : State) (p : Nat) (v : Int) : State :=
  let x := s.sensor p
  let k := sensorClass p
  let last := (v :: x.last).take 7
  let m := medianOf (last.take (2 * s.fld Reg.LNT_FILT_MEDIAN 0 k + 1))
  let d : Int := (2 ^ min 8 (s.fld Reg.LNT_FILT_IIR_K 0 k) : Nat)
  if x.last.isEmpty then s.setSensor p { last := last, y := m, bad := 0, faulty := false }
  else if (m - x.y) % d = 0 then s.setSensor p { last := last, y := x.y + (m - x.y) / d, bad := 0, faulty := false }
  else
    let (up, s1) := s.draw 2
    s1.setSensor p { last := last, y := x.y + (m - x.y).fdiv d + (up : Int), bad := 0, faulty := false }

/-- The diodes of an engine that are not faulty. -/
def State.goodDiodes (s : State) (e : Nat) : List Nat := ((List.range 4).map (· + 4 * e)).filter fun p => !(s.sensor p).faulty

/-- The hottest diode of an engine with its filtered value (R408, R421), none before a sample. -/
def State.engineTemp (s : State) (e : Nat) : Option (Nat × Int) :=
  ((s.goodDiodes e).filter fun p => !(s.sensor p).last.isEmpty).foldl (fun b p => match b with
    | none => some (p, (s.sensor p).y)
    | some (q, t) => if t < (s.sensor p).y then some (p, (s.sensor p).y) else some (q, t)) none

/-- The twin of a coolant point in the other monitor (R420, R518). -/
def coolantTwin (p : Nat) : Nat := if p < 2044 then p + 4 else p - 4

/-- The value that decisions and the summary take for a point (R421): of a faulty engine diode the engine's hottest remaining one, of a
faulty coolant point its twin's. -/
def State.pointValue (s : State) (p : Nat) : Int :=
  if !(s.sensor p).faulty then (s.sensor p).y
  else if p < 512 then ((s.engineTemp (p / 4)).map (·.2)).getD (s.sensor p).y
  else if 2040 ≤ p then (s.sensor (coolantTwin p)).y
  else (s.sensor p).y

/-- Whether an engine's filtered maximum is at or above a number of degrees. -/
def State.engineAt (s : State) (e degrees : Nat) : Bool :=
  match s.engineTemp e with
  | some (_, t) => decide ((256 * degrees : Nat) ≤ t)
  | none => false

/-- Whether every filtered diode of a list that is sampled and not faulty lies below RESUME. -/
def State.coolDiodes (s : State) (l : List Nat) : Bool :=
  l.all fun p => (s.sensor p).faulty || (s.sensor p).last.isEmpty || decide ((s.sensor p).y < (256 * s.fld Reg.LNT_THERM_RESUME : Nat))

/-- One sample of a point (R421). -/
def State.sample (s : State) (p : Nat) (reading : Option Int) : State :=
  match reading with
  | some v => s.filterSample p v
  | none =>
    let x := s.sensor p
    let s1 := s.setSensor p { x with bad := min 3 (x.bad + 1), faulty := x.faulty || decide (2 ≤ x.bad) }
    if x.faulty ∨ x.bad < 2 then s1
    else
      let s2 := ((s1.bump Ctr.LNT_SENSOR 0 locLantern).event Code.SENSOR_FAULT 0 (sensorLoc p) (pwrDetail 0 p 0 0)).stick
        Reg.LNT_STATUS_SENSOR_STICKY
      if p < 512 ∧ (s2.goodDiodes (p / 4)).isEmpty ∧ s2.running then s2.firmware (.fence (locEngine (p / 4)) 8) else s2

/-- SENSOR_SAMPLE (R420, R421): a sample in the point's unit, or none when it did not answer or read out of range. -/
def execSensorSample (point : Fin 2048) (reading : Option (BitVec 32)) (s : State) : Host.Outcome State Fault Refusal :=
  .next (s.sample point (reading.map BitVec.toInt))

/-- COOLANT_MONITOR_READ (R518): four values of each of the two monitors, points 2,040 to 2,043 and their twins. -/
def execCoolantMonitorRead (readings : List (Option (BitVec 32))) (s : State) : Host.Outcome State Fault Refusal :=
  .next ((List.range 8).foldl (fun (t : State) i => t.sample (2040 + i) ((readings.getD i none).map BitVec.toInt)) s)

/-! The coolant stop (R411, R412, R414). -/

/-- FLOW_OK_RISE (R411, R412): a low that ends within the deglitch is a glitch. -/
def execFlowOkRise (s : State) : Host.Outcome State Fault Refusal :=
  if s.fld Reg.LNT_STATUS_FLOW_OK = 1 then .next s
  else
    let s1 := s.setFld Reg.LNT_STATUS_FLOW_OK 1
    if s.power.flowLow then
      .next (((s1.withPower { s1.power with flowLow := false }).bump Ctr.LNT_FLOW_GLITCH 0 locLantern).event Code.FLOW_GLITCH 0 locLantern)
    else .next s1

/-- The hard path of R411: the lanes stop, HBM enters self-refresh (log 83). -/
def State.hardPath (s : State) (package : Bool) : State :=
  (s.setFld Reg.LNT_STATUS_STATE 4).withPower { s.power with flowLow := false, stop := 1, package := package, before := s.powerState }

/-- COOLANT_ISLAND_GATE (R411): the engine and Peg-and-vector islands stop. -/
def execCoolantIslandGate (s : State) : Host.Outcome State Fault Refusal :=
  if s.power.stop = 1 then .next (s.withPower { s.power with stop := 2 }) else .next s

/-- COOLANT_RESUMED (R412, R414): the islands are restored, HBM leaves self-refresh, the arrays ramp up. -/
def execCoolantResumed (s : State) : Host.Outcome State Fault Refusal :=
  if s.power.stop = 2 ∧ (s.fld Reg.LNT_STATUS_FLOW_OK = 1 ∨ s.power.package) ∧ s.coolDiodes ((List.range 1536).filter isDiode) then
    let s1 := (s.countersRun.setFld Reg.LNT_STATUS_STATE s.power.before).withPower { s.power with stop := 0, package := false, before := 0 }
    let s2 := (List.range 128).foldl (fun (t : State) e =>
      if t.fld Reg.BRK_STATUS_STATE e ∈ [1, 2, 3, 4] then t.setEngState e 1 1 else t) s1
    .next ((s2.releaseHeld.event Code.COOLANT_RESUMED 0 locLantern).setAlert.logLantern [2])
  else .next s

/-! Trips (R413, R414). -/

/-- An event with a severity of its own. -/
def State.eventAs (s : State) (severity code pitch location detail : Nat) : State :=
  { s with evs := s.evs.add code severity pitch location detail }

/-- A trip counted and shown. -/
def State.tripShown (s : State) (severity loc value point : Nat) : State :=
  ((s.bump Ctr.LNT_TRIPS 0 locLantern).eventAs severity Code.THERMAL_TRIP 0 loc (pwrDetail value point 0 0)).stick Reg.LNT_STATUS_TRIP_STICKY

/-- An engine's trip (R413), `recent` of its trips before lying within 2^44 Lantern cycles. -/
def State.engineTrip (s : State) (e point value recent : Nat) : State :=
  let u := FUnit.engine e
  let n := sget 0 s.power.trips e
  let stuck := decide (3 ≤ min recent n)
  let s1 := s.withPower { s.power with tripped := s.power.tripped ++ [(e, stuck)], trips := sset 0 s.power.trips e (n + 1) }
  let s2 := (s1.tripShown 2 (locEngine e) value point).repeatBroken (s.campPitch (e / 8)) 2
  if s.latch u = 3 then
    (((s2.leaveTest e).setLatch u 1).firmware (.hard u.loc 6)).unfenceReply u Code.MBX_STATE_CONFLICT
  else if s.latch u = 2 then s2
  else s2.firmware (.hard u.loc 6)

/-- THERMAL_RETURN (R413): an engine cool for 10 s returns, unless its fourth trip holds it. -/
def execThermalReturn (e : Engine) (s : State) : Host.Outcome State Fault Refusal :=
  let e := e.val
  match s.power.tripped.find? fun t => decide (t.1 = e) with
  | none => .next s
  | some (_, stuck) =>
    if !s.running ∨ s.powerState = 4 ∨ s.boot.hand ≠ 0 ∨ !s.coolDiodes ((List.range 4).map (· + 4 * e)) then .next s
    else
      let s1 := (s.withPower { s.power with tripped := s.power.tripped.filter fun t => decide (t.1 ≠ e) }).setAlert
      if stuck ∨ s.latch (.engine e) ≠ 2 ∨ s.fld Reg.FEN_STATE_ENG_CAUSE e ≠ 6 then .next s1
      else .next ((((s1.returned (.engine e)).event Code.THERMAL_RETURN 0 (locEngine e)).settleCamp (e / 8)).logLantern [4, e])

/-- PACKAGE_THERMAL_TRIP (R414): a diode outside the engines above 115 °C. -/
def execPackageThermalTrip (point : Fin 2048) (value : BitVec 32) (s : State) : Host.Outcome State Fault Refusal :=
  if !s.running ∨ !isDiode point ∨ point.val < 512 ∨ value.toInt ≤ (256 * s.fld Reg.LNT_THERM_PKG_TRIP : Nat) then .next s
  else
    let s1 := if s.power.stop = 0 then s.hardPath true else s
    let s2 := s1.tripShown 4 locPackage value.toNat point
    .next ((if sensorClass point = 2 then s2.repeatBroken (s.campPitch ((point.val - 1024) / 4)) 2 else s2).logLantern [1, 1])

/-! Clock steps and supplies (R406-R409). -/

/-- POLICY_HELD (R406): a held count rises after standing still. -/
def State.policyHeld (s : State) (p cause : Nat) (new : Bool) : State :=
  if new then s.event Code.POLICY_HELD p (locSlot (4 * s.leadCamp p)) (pwrDetail 0 0 cause 0) else s

/-- The clock step of an engine (R408): the thermal one between its pitch's ceiling and, below HARD, its floor. -/
def State.clockStep (s : State) (e : Nat) : Nat :=
  let p := s.campPitch (e / 8)
  let ceil := min 5 (s.fld Reg.GOV_PITCH_CFG_CLK_CEIL p)
  let floor := if s.engineAt e (s.fld Reg.LNT_THERM_HARD) then 5 else min 5 (s.fld Reg.GOV_PITCH_CFG_CLK_FLOOR p)
  min (max (sget 0 s.power.steps e) ceil) (max ceil floor)

/-- A clock step taken, with its count and event (log 86). -/
def State.takeStep (s : State) (e step : Nat) : State :=
  let (point, t) := (s.engineTemp e).getD (4 * e, 0)
  (((s.withPower { s.power with steps := sset 0 s.power.steps e step, stepsTaken := s.power.stepsTaken + 1 }).bump Ctr.LNT_STEPS 0 locLantern)).event
    Code.THERMAL_STEP 0 (locEngine e) (pwrDetail (unsigned 32 t) point 0 step)

/-- THERMAL_STEP_DOWN (R406, R408): one step slower, or held back by the floor for a number of Lantern cycles. -/
def execThermalStepDown (e : Engine) (held : BitVec 64) (policyNew : Bool) (s : State) : Host.Outcome State Fault Refusal :=
  let p := s.campPitch (e.val / 8)
  let step := s.clockStep e
  if !s.running ∨ 1 < s.powerState ∨ !s.engineAt e (s.fld Reg.LNT_THERM_STEP_HI) ∨ 5 ≤ step then .next s
  else if !s.engineAt e (s.fld Reg.LNT_THERM_HARD) ∧ s.fld Reg.GOV_PITCH_CFG_CLK_FLOOR p ≤ step then
    .next ((s.accum Reg.GOV_HELD_CLK held.toNat p).policyHeld p 3 policyNew)
  else
    let s1 := s.takeStep e (step + 1)
    .next (if step ≤ s.fld Reg.GOV_PITCH_CFG_CLK_CEIL p then s1.repeatBroken p 0 else s1)

/-- THERMAL_STEP_UP (R408): one step faster, down to the ceiling. -/
def execThermalStepUp (e : Engine) (s : State) : Host.Outcome State Fault Refusal :=
  let step := s.clockStep e
  if !s.running ∨ 1 < s.powerState ∨ s.engineAt e (s.fld Reg.LNT_THERM_STEP_LO) ∨
      step ≤ s.fld Reg.GOV_PITCH_CFG_CLK_CEIL (s.campPitch (e.val / 8)) then .next s
  else .next (s.takeStep e (step - 1))

/-- VOLTAGE_ADJUST (R406, R409): what the timing monitor takes off the supply, in 5 mV steps; V_PIN and REPEAT keep it nominal. -/
def execVoltageAdjust (e : Engine) (drop : Fin 11) (held : BitVec 64) (policyNew : Bool) (s : State) : Host.Outcome State Fault Refusal :=
  let p := s.campPitch (e.val / 8)
  let pinned := s.fld Reg.GOV_PITCH_CFG_V_PIN p = 1 ∨ s.fld Reg.GOV_PITCH_CFG_REPEAT p = 1
  let v := if pinned then 0 else drop.val
  if !s.running ∨ 1 < s.powerState then .next s
  else
    let s1 := if sget 0 s.power.volts e = v then s
      else s.withPower { s.power with volts := sset 0 s.power.volts e v, supplies := s.power.supplies + 1 }
    if pinned ∧ drop.val ≠ 0 then .next ((s1.accum Reg.GOV_HELD_VOLT held.toNat p).policyHeld p 2 policyNew) else .next s1

/-! The module limit (R410, R512). -/

/-- A power threshold in mW at an input voltage in mV (R512). -/
def scaledLimit (mw mv : Nat) : Nat := if mv < 50000 then mw * mv / 50000 else mw

/-- FAST_PATH_LIMIT (R410, R512): above 2,800 W for 10 µs, in mW, scaled by the voltage last sampled; every engine takes at least 128
bubbles per run. -/
def execFastPathLimit (mw : BitVec 32) (s : State) : Host.Outcome State Fault Refusal :=
  if !s.running ∨ s.power.fast ∨ mw.toNat ≤ scaledLimit 2800000 s.power.inputMv then .next s
  else .next ((s.withPower { s.power with fast := true }).event Code.MODULE_LIMIT 0 locLantern (pwrDetail mw.toNat 2034 1 0))

/-- FAST_PATH_RELEASE (R410): below 2,700 W for 1 ms. -/
def execFastPathRelease (s : State) : Host.Outcome State Fault Refusal :=
  if s.power.fast then .next (s.withPower { s.power with fast := false }) else .next s

/-- Every camp's budget shown anew. -/
def State.showBudgets (s : State) : State := (List.range 16).foldl State.showBudget s

/-- MODULE_LIMIT_SAMPLE (R410, R407): the slow loop on one sample of input power (mW) and voltage (mV). -/
def execModuleLimitSample (mw mv : BitVec 32) (s : State) : Host.Outcome State Fault Refusal :=
  if !s.running then .next s
  else
    let above := decide (scaledLimit 2400000 mv.toNat < mw.toNat)
    let n := if above then s.power.excess + 1 else s.power.excess - 1
    let scale := s.fld Reg.LNT_STATUS_SCALE
    let next := if above ∧ 64 ≤ n then scale - 16 else if mw.toNat < scaledLimit 2300000 mv.toNat then min 256 (scale + 1) else scale
    let s1 := (s.withPower { s.power with excess := n, inputMv := mv.toNat }).setFld Reg.LNT_STATUS_SCALE next
    let s2 := if scale < 256 then s1.accum Reg.LNT_LIMIT_CYC 20000 else s1
    let s3 := if scale = 256 ∧ next < 256 then
        let t := (s2.event Code.MODULE_LIMIT 0 locLantern (pwrDetail mw.toNat 2034 0 0)).stick Reg.LNT_STATUS_LIMIT_STICKY
        ((List.range 9).foldl (fun (t : State) p => t.repeatBroken p 1) t).logLantern [6, next]
      else s2
    .next s3.showBudgets.setAlert

/-! Energy (R415, R416). -/

/-- The energies of the camps in a sample, scaled down to its whole when they exceed it. -/
def shareEnergy (m : Nat) (camps : List Nat) : List Nat :=
  let total := camps.sum
  if total ≤ m then camps else camps.map fun e => e * m / total

/-- ENERGY_SAMPLE (R415, R416): the input power in W, each camp's estimated energy in µJ, and the traffic of pitches 1-8. -/
def execEnergySample (watts : BitVec 16) (camps use : List Nat) (s : State) : Host.Outcome State Fault Refusal :=
  let m := 100 * watts.toNat
  let es := shareEnergy m ((List.range 16).map fun c => camps.getD c 0)
  let rest := m - es.sum
  let uses := (List.range 8).map fun i => use.getD i 0
  let part (p : Nat) : Nat :=
    (((List.range 16).filter (fun c => s.campPitch c = p)).map fun c => es.getD c 0).sum + rest * uses.getD (p - 1) 0 / max 1 uses.sum
  let parts := ((List.range 8).map (· + 1)).map fun p => (p, part p)
  let s1 := s.accum Reg.LNT_ENERGY m
  let s2 := parts.foldl (fun (t : State) x => if (s.job x.1).num = 0 then t else t.accum Reg.LNT_PITCH_ENERGY x.2 x.1) s1
  .next (s2.accum Reg.LNT_PITCH_ENERGY (m - (parts.map (·.2)).sum) 0)

/-! The Tide governor (R395-R403). -/

/-- The shares of a camp's eight agents (R396). -/
def State.agentShares (s : State) (c : Nat) : List Nat :=
  [s.fld Reg.GOV_SHARE_FWD c, s.fld Reg.GOV_SHARE_BWD c, s.fld Reg.GOV_SHARE_UPD c, s.fld Reg.GOV_SHARE_GEN c]
    ++ List.replicate 4 (s.fld Reg.GOV_SHARE_PEG c)

/-- The allowances of R396 in mW: the distributable budget, and each agent's share, estimate and whether it lends. Portions are
counted in 1/256 mW, so that nothing is cut before the end. -/
def allowances (dist : Nat) (l : List (Nat × Nat × Bool)) : List Nat :=
  let portion (x : Nat × Nat × Bool) : Nat := dist * x.1
  let keeps (x : Nat × Nat × Bool) : Nat := min (portion x) (256 * x.2.1)
  let lent := (l.map fun x => if x.2.2 then portion x - keeps x else 0).sum
  let takers := (l.map fun x => if x.2.2 then 0 else x.1).sum
  l.map fun x => if x.2.2 then keeps x / 256 else if takers = 0 then portion x / 256 else (portion x * takers + lent * x.1) / (256 * takers)

/-- The bubbles of an agent for the next window (R397). -/
def bubblesOf (estimate allowance : Nat) : Nat :=
  if allowance < estimate then (256 * (estimate - allowance) + estimate - 1) / estimate else 0

/-- The agents of a camp in the governor's order. -/
def campAgents (c : Nat) : List Agent := (List.range 4).map (fun i => Agent.slot (4 * c + i)) ++ (List.range 4).map fun i => Agent.peg (4 * c + i)

/-- An agent's estimate in mW (R395): its activity weighted, Runnel activity at its Margin class (R399), and a ramp charged by the lane
groups enabled at the suppressed-activity coefficient (R398, log 120). -/
def estimate (a : Activity) : Nat :=
  ((a.counts.zipIdx.map fun x => x.1 * Config.activityWeight x.2).sum + a.runnel * Config.runnelWeight + a.ramp * Config.suppressedWeight) / 65536

/-- Whether cycle `j` of a run of 256 is a bubble at a count of `b` (R397). -/
def isBubble (b j : Nat) : Bool := decide (j * b / 256 < (j + 1) * b / 256)

/-- The bubble count of an engine for its next run (R397, R410): the largest among the agents that hold a plot or a Runnel descriptor on
it, and at least 128 while the fast path limits. -/
def State.engineBubbles (s : State) (e : Nat) : Nat :=
  let x := s.engine e
  let uids := x.plots.map (·.uid) ++ x.banks.map (·.uid)
  let agents := (s.eng.products.filter fun p => decide (p.uid ∈ uids)).map fun p => p.slot % 4
  let b := agents.foldl (fun m a => max m ((sget [] s.power.bubbles (e / 8)).getD a 0)) 0
  if s.power.fast then max 128 b else b

/-- The bubble count of a camp's vector engine and DMA mover for their next run (R397): the largest among the agents whose descriptors
of those types are running. -/
def State.vectorBubbles (s : State) (c : Nat) : Nat :=
  let bs := sget [] s.power.bubbles c
  let runs (i : Nat) : Bool := [4 * c + i, 64 + 4 * c + i].any fun k => (s.slot k).allFlights.any fun f => f.left != 0 && !(engineTypes.contains (dType f.word))
  ((List.range 4).filter runs).foldl (fun m i => max m (bs.getD i 0)) 0

/-- The bubble count of a Peg core for its next run (R397): its own. -/
def State.pegBubbles (s : State) (p : Nat) : Nat := (sget [] s.power.bubbles (p / 4)).getD (4 + p % 4) 0

/-- The bubbles that an engine took in its cycles of a window, and the count that its run in progress takes as the window ends. One that
falls on a ramp-class or a lead cycle is dropped (R398), and a new count applies from the next run (R397). -/
def engineRun (old new : Nat) (r : EngineRun) : Nat × Nat :=
  let count (i : Nat) : Nat := if r.first.val + i < 256 then old else new
  let taken := (List.range r.cycles).filter fun i => isBubble (count i) ((r.first.val + i) % 256) && decide (i ∉ r.special)
  (taken.length, if r.first.val + r.cycles < 256 then old else new)

/-- The bubbles of a camp's engines in a window counted, and the count of each run in progress kept. -/
def State.takeBubbles (s : State) (c : Nat) (runs : List EngineRun) : State :=
  runs.zipIdx.foldl (fun (t : State) r =>
    let e := 8 * c + r.2
    let (n, b) := engineRun (sget 0 t.power.runBubbles e) (t.engineBubbles e) r.1
    (t.accum Reg.GOV_BUBBLE_CYC n c).withPower { t.power with runBubbles := sset 0 t.power.runBubbles e b }) s

/-- Bits of a list of truth values, first lowest. -/
def bitsOf : List Bool → Nat
  | [] => 0
  | b :: rest => ofBool b + 2 * bitsOf rest

/-- Whether an agent of a camp may have been idle (R396): a slot has no stream; a core waits for interrupt as its program has it. -/
def State.mayIdle (s : State) (c i : Nat) : Bool := decide (4 ≤ i) || (s.slot (4 * c + i)).run.isNone

/-- GOVERNOR_WINDOW (R395-R399, R406): the window's activity of each agent, the agents idle for 2,048 cycles, and the cycles that each
engine of the camp ran in it. -/
def execGovernorWindow (c : Camp) (acts : List Activity) (idle : BitVec 8) (runs : List EngineRun) (policyNew : Bool) (s : State) :
    Host.Outcome State Fault Refusal :=
  let c := c.val
  let p := s.campPitch c
  if !s.campRuns c then .next s
  else
    let s0 := s.takeBubbles c (runs.take 8)
    let es := (List.range 8).map fun i => estimate (acts.getD i { counts := [], runnel := 0, ramp := 0 })
    let floor := Config.idleFloor c
    let long := (campAgents c).map fun a => decide (a ∈ s.sync.longWaits)
    let lends := s.lends Reg.GOV_PITCH_CFG_LEND_CAMP p
    let lenders := (List.range 8).map fun i => lends && (long.getD i false || (idle.getLsbD i && s.mayIdle c i))
    let rows := (List.range 8).map fun i => ((s.agentShares c).getD i 0, es.getD i 0, lenders.getD i false)
    let alls := allowances (s.fld Reg.GOV_CAMP_STATUS_BUDGET c - floor) rows
    let bs := (List.range 8).map fun i => bubblesOf (es.getD i 0) (alls.getD i 0)
    let top := bs.foldl max 0
    let s1 := s0.withPower { s0.power with
      bubbles := sset [] s.power.bubbles c bs, demand := sset 0 s.power.demand c (max (sget 0 s.power.demand c) (floor + es.sum)) }
    let s2 := (s1.setFld Reg.GOV_CAMP_STATUS_BUB_MAX (min 255 top) c).setFld Reg.GOV_CAMP_STATUS_WAITERS (bitsOf lenders) c
    let s3 := if long.any id ∧ !lends then (s2.accum Reg.GOV_HELD_LEND 1 p).policyHeld p 1 policyNew else s2
    let guys := (List.range 32).filter fun g => s.fld Reg.GUY_CFG_PITCH g == p && !s.sync.bubbled.contains g
    .next (if top = 0 then s3 else { s3 with sync := { s3.sync with bubbled := s3.sync.bubbled ++ guys } })

/-- A camp's demand (R402): the larger of that of the 16 windows before its pitch's last rebalance and that of the windows since
(log 123). -/
def State.campDemand (s : State) (c : Nat) : Nat := max (sget 0 s.power.lastDemand c) (sget 0 s.power.demand c)

/-- The demand of a pitch: the sum of its camps' (R403). -/
def State.pitchDemand (s : State) (p : Nat) : Nat := ((s.pitchCamps p).map s.campDemand).sum

/-- A pitch's 16 windows end: its camps' demands stand, and new ones begin. -/
def State.rollDemand (s : State) (p : Nat) : State :=
  s.withPower { s.power with
    lastDemand := (s.pitchCamps p).foldl (fun m c => sset 0 m c (sget 0 s.power.demand c)) s.power.lastDemand
    demand := (s.pitchCamps p).foldl (fun m c => sset 0 m c 0) s.power.demand }

/-- Whether a pitch takes part in the lending between pitches (R401, R403). -/
def State.pitchLends (s : State) (p : Nat) : Bool := p != 0 && !(s.pitchCamps p).isEmpty && !s.sealed p && s.lends Reg.GOV_PITCH_CFG_LEND_PITCH p

/-- A pitch's budget at a rebalance (R403). -/
def State.rebalancedBudget (s : State) (p : Nat) : Nat :=
  if s.fld Reg.GOV_DEV_CFG_XPITCH_EN = 1 ∧ s.pitchLends p then
    let ps := (List.range 9).filter s.pitchLends
    (rebalance (ps.map fun q => (s.pitchBudget q, s.pitchDemand q))).getD (ps.findIdx (· = p)) (s.pitchBudget p)
  else s.pitchBudget p

/-- A pitch's budget divided among its camps at a rebalance (R402). -/
def State.divideBudget (s : State) (p : Nat) : State :=
  let cs := s.pitchCamps p
  let base := s.rebalancedBudget p / max 1 cs.length
  let new := if s.lends Reg.GOV_PITCH_CFG_LEND_PITCH p then rebalance (cs.map fun c => (base, s.campDemand c)) else cs.map fun _ => base
  (cs.zip new).foldl (fun t x => t.setBudget x.1 x.2) s

/-- PITCH_REBALANCE (R402, R403): the camps of a pitch after 16 windows, and with lending between pitches every pitch that lends, so that
what one takes another has released (log 123). -/
def execPitchRebalance (p : Pitch) (s : State) : Host.Outcome State Fault Refusal :=
  let p := p.val
  if p = 0 ∨ (s.pitchCamps p).isEmpty ∨ !s.running ∨ s.powerState ≠ 0 then .next s
  else
    let s1 := s.rollDemand p
    .next (if s1.fld Reg.GOV_DEV_CFG_XPITCH_EN = 1 ∧ s1.pitchLends p then ((List.range 9).filter s1.pitchLends).foldl State.divideBudget s1
      else s1.divideBudget p)

/-- LONG_WAITER (R302): a slot or a core blocked on a wait or a barrier for 2,048 cycles. -/
def execLongWaiter (peg : Bool) (n : SlotKey) (s : State) : Host.Outcome State Fault Refusal :=
  let a := if peg then Agent.peg (n.val % 64) else Agent.slot n.val
  let inBar : Bool := match a with
    | .slot _ => false
    | .peg p => match (s.peg p).block with
      | some (.bar ..) => true
      | _ => false
  let blocked := (s.sync.waits.any fun w => decide (w.agent = a)) || (s.sync.guyWaits.any fun w => decide (w.agent = a)) || inBar
  if s.campsGated ∨ !blocked ∨ a ∈ s.sync.longWaits then .next s
  else .next { s with sync := { s.sync with longWaits := s.sync.longWaits ++ [a] } }

/-! IDLE and DOZE (R418). -/

/-- Whether no slot runs or has a record queued, and no core is blocked on an Xpeg instruction. -/
def State.allIdle (s : State) : Bool :=
  s.slots.all (fun x => x.2.run.isNone && x.2.queue.isEmpty) && s.pegs.all fun x => x.2.block.isNone

/-- IDLE_ENTRY (R418): every slot, core and mover idle for LNT_IDLE cycles. -/
def execIdleEntry (s : State) : Host.Outcome State Fault Refusal :=
  if s.running ∧ s.powerState = 0 ∧ s.allIdle then .next (s.enterState 1) else .next s

/-- IDLE_WAKE (R418). -/
def execIdleWake (s : State) : Host.Outcome State Fault Refusal :=
  if s.powerState = 1 then .next (s.enterState 0) else .next s

/-- The camps powered up afresh: tallies as after reset, Cove buffers and local stores zero (R277, R418, log 92). -/
def State.freshCamps (s : State) : State :=
  let s1 : State := { s with sync := { s.sync with tallies := [], longWaits := [] }, pegs := [] }
  (s1.zero coveBase (coveBase + 2 ^ 28)).zero storeBase (storeBase + 2 ^ 26)

/-! The watchdogs (R423, R424). -/

/-- LNT_WDOG_KICK (R423): the pair's watchdog begins its 10 ms anew; a missed kick is DZISIA_RESTART (log 88). -/
def execLntWdogKick (_a : Actor) (_pair : Fin 2) (s : State) : Host.Outcome State Fault Refusal := .next s

/-- DZISIA_RESTART_RETRY (R423): 2^30 cycles later the pair is restarted again. -/
def execDzisiaRestartRetry (pair : Fin 2) (s : State) : Host.Outcome State Fault Refusal :=
  .next (s.withPower { s.power with restarting := s.power.restarting.map fun (x : Nat × Bool) => if x.1 = pair.val then (x.1, false) else x })

/-- LANTERN_RESTART (R424): the core restarts from ROM; a state region that fails its digest ends every session. -/
def execLanternRestart (digestOk : Bool) (s : State) : Host.Outcome State Fault Refusal :=
  let s1 := (((s.bump Ctr.LNT_LNT_RESTART 0 locLantern).event Code.LANTERN_RESTART 0 locLantern).stick Reg.LNT_STATUS_RESTART_STICKY).logLantern [7]
  .next (if digestOk then s1 else s1.endSessions fun _ => true)

/-- Each engine's clock step, engine e at bits [3e + 2 : 3e] (R450). -/
def stepField (s : State) : Nat := (List.range 128).foldl (fun n e => n ||| s.clockStep e <<< (3 * e)) 0

/-- LANTERN_SUMMARY (R450): the clock steps and supply changes since the last. -/
def execLanternSummary (s : State) : Host.Outcome State Fault Refusal :=
  .next ((s.log 0x0071 actorLantern 0 0 0 [stepField s, s.power.stepsTaken, s.power.supplies]).withPower { s.power with stepsTaken := 0, supplies := 0 })

end Sys2Proof.Machine
end

