-- ==== Sys2Proof/Machine/Boot.lean ====
section
/-! DEFINITION. Start-up, failed starts, Bivouac mode and power entry (chapters 17, 18): firmware images, measurements, what a loss of
rails leaves, the phases of a start, and the tray's lines. -/
namespace Sys2Proof.Machine

open Sys2Proof

/-! Firmware images (R489-R491). -/

/-- A firmware slot. -/
def State.fwSlot (s : State) (k : Nat) : FwSlot := if k = 0 then s.boot.slotA else s.boot.slotB

/-- The state with a firmware slot set. -/
def State.setFwSlot (s : State) (k : Nat) (x : FwSlot) : State :=
  if k = 0 then { s with boot := { s.boot with slotA := x } } else { s with boot := { s.boot with slotB := x } }

/-- A firmware slot's STATE set. -/
def State.slotState (s : State) (k st : Nat) : State := s.setFwSlot k { s.fwSlot k with state := st }

/-- One byte of a firmware slot. -/
def State.slotByte (s : State) (k off : Nat) : Nat :=
  let v := sget 256 (s.fwSlot k).bytes off
  if v = 256 then Config.flashByte k off % 256 else v

/-- A run of bytes of a firmware slot. -/
def State.slotBytes (s : State) (k off n : Nat) : Bytes := (List.range n).map fun i => s.slotByte k (off + i)

/-- The manifest of a slot (R490). -/
def State.manifest (s : State) (k : Nat) : Nat := ofBytes (s.slotBytes k 0 384)

/-- IMG_VERSION. -/
def imgVersion (m : Nat) : Nat := bits m 127 96
/-- SVN. -/
def imgSvn (m : Nat) : Nat := bits m 95 88
/-- The offset of component `c`. -/
def compOff (m c : Nat) : Nat := bits m (799 + 320 * c) (768 + 320 * c)
/-- The length of component `c`. -/
def compLen (m c : Nat) : Nat := bits m (831 + 320 * c) (800 + 320 * c)
/-- The digest of component `c`. -/
def compDigest (m c : Nat) : Nat := bits m (1087 + 320 * c) (832 + 320 * c)

/-- The image digest (R490): SHAKE256 of manifest bytes 0-269, 64 bytes. -/
def State.imageDigest (s : State) (k : Nat) : Bytes := shake256 (s.slotBytes k 0 270) 64

/-- Whether two components overlap. -/
def compsOverlap (m a b : Nat) : Bool := decide (compOff m a < compOff m b + compLen m b) && decide (compOff m b < compOff m a + compLen m a)

/-- The first check of R491 that a slot fails, by its sub-cause; `readable` tells whether the slot can be read. -/
def State.imageFault (s : State) (k : Nat) (readable : Bool) : Option Nat :=
  let m := s.manifest k
  let cs := List.range 4
  if bits m 31 16 ≠ 0x494D ∨ bits m 15 8 ≠ 1 ∨ bits m 7 0 ≠ 0 ∨ bits m 87 32 ≠ 0 ∨ bits m 511 128 ≠ 0 ∨ bits m 2159 2048 ≠ 0 then some 0
  else if bits m 767 512 ≠ ofBytes (shake256 (toBytes 57 Config.rootKey) 32) then some 1
  else if !Config.ed448Verify Config.rootKey (ascii "PL480IMG") (s.imageDigest k) (bits m 3071 2160) then some 2
  else if !cs.all (fun c => compOff m c % 4096 == 0 && compLen m c != 0 && decide (compOff m c + compLen m c ≤ 2 ^ 26))
      ∨ cs.any (fun a => cs.any fun b => decide (a < b) && compsOverlap m a b) then some 3
  else if !cs.all (fun c => ofBytes (shake256 (s.slotBytes k (compOff m c) (compLen m c)) 32) == compDigest m c)
      ∨ 64 < ofBytes (s.slotBytes k (compOff m 3) 4)
      ∨ compLen m 3 ≠ 4 + 57 * ofBytes (s.slotBytes k (compOff m 3) 4) then some 4
  else if imgSvn m < s.fld Reg.SEC_FUSE_FLOOR then some 5
  else if !readable then some 6
  else none

/-- The Steward keys of the running image (R490, R504). -/
def State.stewards (s : State) : List Nat :=
  let k := s.fld Reg.STU_STATUS_SLOT
  let m := s.manifest k
  (List.range (min 64 (ofBytes (s.slotBytes k (compOff m 3) 4)))).map fun i => ofBytes (s.slotBytes k (compOff m 3 + 4 + 57 * i) 57)

/-- The DETAIL of an event of this chapter (R508). -/
def stuDetail (reason slot fails version svn floor : Nat) : Nat :=
  atBytes [(0, reason), (1, slot), (2, fails), (4, version), (8, svn), (9, floor)]

/-- The DETAIL of an event about the image in a slot. -/
def State.imageDetail (s : State) (sub k : Nat) : Nat :=
  stuDetail sub k 0 (imgVersion (s.manifest k)) (imgSvn (s.manifest k)) (s.fld Reg.SEC_FUSE_FLOOR)

/-- The code of a failed check of R491. -/
def imageCode (sub : Nat) : Nat := if sub = 5 then Code.IMAGE_BELOW_FLOOR else Code.IMAGE_INVALID

/-- A slot's image checked (R491, R502): its STATE and LAST_ERR, and the event of a failure (log 95). -/
def State.checkSlot (s : State) (k : Nat) (readable : Bool) : Option Nat × State :=
  match s.imageFault k readable with
  | none => (none, s.setFwSlot k { s.fwSlot k with state := 2 })
  | some sub =>
    (some sub, (s.setFwSlot k { s.fwSlot k with state := if sub = 5 then 5 else 3, err := sub }).event (imageCode sub) 0 (locHarbour 0x08)
      (s.imageDetail sub k))

/-! Measurements (R452). -/

/-- A measurement register extended, with its logbook entry. -/
def State.extend (s : State) (i : Nat) (d : Bytes) : State :=
  let m := ofBytes (shake256 (ascii "PL480MEAS" ++ toBytes 32 (s.fld Reg.SEC_MEAS_VALUE 0 i) ++ d) 32)
  (s.setFld Reg.SEC_MEAS_VALUE m 0 i).log 0x0001 actorSecurity 0 0 0 [i, ofBytes d]

/-- A component's digest as bytes. -/
def State.compBytes (s : State) (k c : Nat) : Bytes := toBytes 32 (compDigest (s.manifest k) c)

/-! Loss of rails (R3, R25, R332, R495, R500). -/

/-- Fields that flash and fuses keep: the boot record, the fuse counts, the logbook's numbers, TENANCY; and the tray's lines, which the
tray drives. -/
def keptFields : List (Fld × List Nat) :=
  ([Reg.STU_STATUS_PHASE, Reg.STU_STATUS_FAILS, Reg.STU_STATUS_SLOT, Reg.STU_STATUS_ACTIVE, Reg.STU_STATUS_REASON, Reg.STU_HISTORY_REASONS,
    Reg.STU_STARTS, Reg.STU_FAILED, Reg.STU_STAT_SAT_FAILED_SAT, Reg.SEC_FUSE_UNSEALS, Reg.SEC_FUSE_FLOOR, Reg.SEC_FUSE_UNLOCKS,
    Reg.SEC_FUSE_TRANSFERS, Reg.SEC_LOG_SEQ_SEQ, Reg.SEC_LOG_OLDEST_SEQ, Reg.LNT_STATUS_FLOW_OK, Reg.LNT_STATUS_PWR_EN].map fun f => (f, [0]))
    ++ [(Reg.SEC_PITCH_CTL_TENANCY, List.range 9)]

/-- Fields that the Lantern, HE0, the mailbox and the security block keep while the standby rails run. -/
def standbyFields : List (Fld × List Nat) :=
  ([Reg.LNT_STATUS_RESTART_STICKY, Reg.LNT_STATUS_SENSOR_STICKY, Reg.LNT_STATUS_LIMIT_STICKY, Reg.LNT_STATUS_TRIP_STICKY,
    Reg.LNT_STATUS_COOLANT_STICKY, Reg.LNT_THERM_RESUME, Reg.LNT_THERM_HARD, Reg.LNT_THERM_STEP_HI, Reg.LNT_THERM_STEP_LO,
    Reg.LNT_FLOW_RESUME_HOLD, Reg.LNT_IDLE_IDLE_ENTRY, Reg.LNT_ENERGY, Reg.LNT_LIMIT_CYC, Reg.LNT_STEPS, Reg.LNT_TRIPS,
    Reg.LNT_FLOW_GLITCH, Reg.LNT_SENSOR, Reg.LNT_DZ_RESTART, Reg.LNT_LNT_RESTART, Reg.LNT_STAT_SAT_SAT, Reg.MBX_CFG_IDLE_S, Reg.MBX_REQ,
    Reg.MBX_DROP, Reg.MBX_AUTH_FAIL, Reg.MBX_STALE, Reg.MBX_PROXY_BUSY, Reg.MBX_STAT_SAT_PROXY_SAT, Reg.MBX_STAT_SAT_STALE_SAT,
    Reg.MBX_STAT_SAT_AUTH_SAT, Reg.MBX_STAT_SAT_DROP_SAT, Reg.SEC_REFUSED, Reg.SEC_STAT_SAT_REFUSED_SAT].map fun f => (f, [0]))
    ++ [Reg.HE_STATUS_LANES_OK, Reg.HE_STATUS_STATE, Reg.HE_TX_BYTES, Reg.HE_RX_BYTES, Reg.HE_FCS, Reg.ROCE_REFUSED,
      Reg.HE_STAT_SAT_ROCE_SAT, Reg.HE_STAT_SAT_FCS_SAT].map fun f => (f, [36])

/-- Fields copied from one state into another: the first members of the instances named. -/
def copyFields (old : State) (l : List (Fld × List Nat)) (t : State) : State :=
  l.foldl (fun (t : State) x => x.2.foldl (fun (t : State) i => t.setFld x.1 (old.fld x.1 i) i) t) t

/-- All members of a register family copied. -/
def copyMembers (old : State) (f : Fld) (t : State) : State :=
  (List.range f.members).foldl (fun (t : State) m => t.setFld f (old.fld f 0 m) 0 m) t

/-- Requests whose reply is still to come get none (R423), and their sessions go on. -/
def State.loseReplies (s : State) : State :=
  s.host.waits.foldl (fun (t : State) w =>
    match t.session w.session with
    | some x => t.setSession w.session { x with waiting := none, run := (x.run + 1) % 2 ^ 32 }
    | none => t) { s with host := { s.host with waits := [] } }

/-- Whether a change has had its fuse burned and not yet taken effect (R445). -/
def Change.burned : Change → Bool
  | .transferred => true
  | .forced _ => true
  | .unlocked _ => true
  | _ => false

/-- Changes that wait for the flash when the rails go: their entries stand, and nothing follows them. -/
def State.dropChanges (s : State) : State :=
  { s with
    boot := { s.boot with mismatch := s.boot.mismatch || s.sec.log.ahead.any fun a => a.change.burned }
    sec := { s.sec with log := { s.sec.log with
      ahead := s.sec.log.ahead.map fun a => { a with change := if a.change = .checkpoint then .checkpoint else .note, reply := none } } } }

/-- Power lost to the security block: the entries that had not reached flash are gone, and so are those chained behind them (R447). -/
def State.loseBuffer (s : State) : State :=
  let l := s.sec.log
  let lost := l.buffered ++ l.ahead.map (·.seq)
  let s1 : State := { s with
    boot := { s.boot with flushed := lost.isEmpty && l.later.isEmpty }
    sec := { s.sec with log := { l with buffered := [], later := [], ahead := [] } } }
  match lowest lost with
  | none => s1
  | some n =>
    ({ s1 with sec := { s1.sec with log := { s1.sec.log with entries := l.entries.filter fun e => decide (e.seq < n) } } } : State).setFld
      Reg.SEC_LOG_SEQ_SEQ n

/-- HE1, which only the rails power, goes down with them (R25, R368). -/
def State.hostOneLost (s : State) (whole : Bool) : State :=
  if !whole ∧ s.fld Reg.HE_STATUS_STATE 37 = 2 then s.event Code.HOST_LINK_DOWN 0 (locHost 1) else s

/-- The rails of the compute, memory and Harbour dies go, `whole` with the standby rails; `lost` tells that the security block loses
its buffer. Flash and fuses keep what they hold; the module is in STANDBY (log 91). -/
def State.cutRails (s : State) (whole lost : Bool) : State :=
  let s1 := s.dropChanges.loseReplies
  let s2 := (if lost then s1.loseBuffer else s1).hostOneLost whole
  let base : State := { s2 with
    ctl := resetCtl, mem := [], ras := .initial s2.ras.flash, sync := .initial, fab := .initial, slots := [], pegs := [], jobs := []
    rems := if whole then [] else s2.rems.filter fun e => decide (e.1 = 1311 ∨ e.1 = 1316)
    commits := [], eng := .initial, rel := .initial
    host := if whole then .initial else { s2.host with windows := [], he1 := .initial, waits := [] }
    sec := { Security.initial s2.sec.ownerKey with log := s2.sec.log, fabDigests := s2.sec.fabDigests, powered := false, flashOn := false, evSeen := s2.evs.nextSeq }
    power := if whole then .initial else
      { Power.initial with sensors := s2.power.sensors, stepsTaken := s2.power.stepsTaken, supplies := s2.power.supplies, restarts := s2.power.restarts }
    boot := { s2.boot with hand := 0, putOff := [] } }
  let t1 := copyFields s2 keptFields base
  let t2 := if whole then t1 else copyMembers s2 Reg.SEC_MEAS_VALUE (copyMembers s2 Reg.LNT_FILT_IIR_K (copyMembers s2 Reg.LNT_FILT_MEDIAN
    (copyFields s2 standbyFields t1)))
  ((t2.setFld Reg.LNT_STATUS_STATE 3).setFld Reg.MBX_STATUS_SERVER 2).setAlert

/-! Phases (R492, R497-R500). -/

/-- The running phase (R501). -/
def State.phase (s : State) : Nat := s.fld Reg.STU_STATUS_PHASE

/-- The phase set (log 90). -/
def State.setPhase (s : State) (p : Nat) : State := s.setFld Reg.STU_STATUS_PHASE p

/-- Whether a start attempt has its rails up (phases 2 to 7). -/
def State.starting (s : State) : Bool := decide (2 ≤ s.phase) && decide (s.phase ≤ 7)

/-- The tray's lines both high. -/
def State.linesHigh (s : State) : Bool := s.fld Reg.LNT_STATUS_PWR_EN == 1 && s.fld Reg.LNT_STATUS_FLOW_OK == 1

/-- A start failure recorded: the history, its last reason, its count (R498). -/
def State.pushReason (s : State) (r : Nat) : State :=
  ((s.setFld Reg.STU_HISTORY_REASONS (s.fld Reg.STU_HISTORY_REASONS * 256 + r)).setFld Reg.STU_STATUS_REASON r).bump Ctr.STU_FAILED 0 locLantern

/-- START_FAILED (R498). -/
def State.failedEvent (s : State) (r : Nat) : State :=
  s.event Code.START_FAILED 0 locLantern (stuDetail r (s.fld Reg.STU_STATUS_SLOT) (s.fld Reg.STU_STATUS_FAILS) 0 0 (s.fld Reg.SEC_FUSE_FLOOR))

/-- The report of an attempt that a removal of power interrupted (R497), once the ring is there. -/
def State.reportInterrupted (s : State) : State :=
  if s.boot.interrupted then ({ s with boot := { s.boot with interrupted := false } } : State).failedEvent 0x0B else s

/-- Bivouac mode (R498, R500). -/
def State.enterBivouac (s : State) : State :=
  let s1 := ((s.setPhase 8).setFld Reg.MBX_STATUS_SERVER 3).setFld Reg.LNT_STATUS_STATE 3
  ({ s1 with sec := { s1.sec with powered := true, flashOn := true }, boot := { s1.boot with waiting := false } } : State).reportInterrupted.event
    Code.BIVOUAC_ENTERED 0 locLantern (stuDetail 0 0 (s.fld Reg.STU_STATUS_FAILS) 0 0 (s.fld Reg.SEC_FUSE_FLOOR))

/-- START_HELD, once per hold (R492, R497). -/
def State.startHeld (s : State) : State :=
  if s.boot.held then s
  else ({ s with boot := { s.boot with held := true } } : State).event Code.START_HELD 0 locLantern
    (stuDetail 0 0 (s.fld Reg.STU_STATUS_FAILS) 0 0 (s.fld Reg.SEC_FUSE_FLOOR))

/-- Phase 1 begins (R492); an attempt found interrupted is counted first (R497, R513). -/
def State.enterHold (s : State) : State :=
  let s1 := if s.boot.marker then
      (({ s with boot := { s.boot with marker := false, interrupted := true } } : State).pushReason 0x0B)
    else s
  if 3 ≤ s1.fld Reg.STU_STATUS_FAILS then s1.enterBivouac
  else
    let s2 := (((s1.setPhase 1).setFld Reg.MBX_STATUS_SERVER 2).setFld Reg.LNT_STATUS_STATE 3)
    let s3 : State := { s2 with boot := { s2.boot with held := false, waiting := false } }
    if s3.linesHigh then s3 else s3.startHeld

/-- A start attempt fails (R498): recorded, reported, the rails lowered; another attempt, or Bivouac mode. -/
def State.startFails (s : State) (r : Nat) : State :=
  let s1 := ((s.pushReason r).failedEvent r).cutRails false false
  let s2 : State := { s1 with boot := { s1.boot with marker := false, waiting := true, held := false } }
  if 3 ≤ s2.fld Reg.STU_STATUS_FAILS then s2.enterBivouac else s2.setPhase 1

/-- A start cut short by the tray's lines (R497): no failed start. -/
def State.startCut (s : State) (phase : Nat) : State :=
  let s1 := (s.cutRails false false).setFld Reg.STU_STATUS_FAILS s.boot.prevFails
  (({ s1 with boot := { s1.boot with marker := false, held := false } } : State).startHeld).setPhase phase

/-- START_HOLD_PASSED (R492, R495, R517, R526): the lines have been high for 100 µs; the attempt is counted, the event sequence begins anew
(log 90), and the rails come up. -/
def execStartHoldPassed (slotId : BitVec 6) (s : State) : Host.Outcome State Fault Refusal :=
  if s.phase ≠ 1 ∨ s.boot.waiting ∨ s.boot.opened ∨ s.boot.unpowered ∨ !s.linesHigh then .next s
  else
    let s1 := (s.setFld Reg.LNT_STATUS_STATE 5).replyWaits .power 0 fun _ => toBytes 4 5
    let s2 : State := { s1 with
      evs := { nextSeq := 1, rings := [] }
      boot := { s1.boot with marker := true, prevFails := s1.fld Reg.STU_STATUS_FAILS, held := false, slotId := slotId.toNat } }
    let s3 := (s2.setFld Reg.STU_STATUS_FAILS (min 3 (s2.fld Reg.STU_STATUS_FAILS + 1))).accum Reg.STU_STARTS 1
    let s4 := (List.range 8).foldl (fun (t : State) i => t.setFld Reg.SEC_MEAS_VALUE 0 0 i) (s3.setPhase 2)
    .next (s4.endSessions fun _ => true)

/-- RAILS_DONE (R492). -/
def execRailsDone (s : State) : Host.Outcome State Fault Refusal := if s.phase = 2 then .next (s.setPhase 3) else .next s

/-- RAIL_TIMEOUT (R492, R499). -/
def execRailTimeout (s : State) : Host.Outcome State Fault Refusal := if s.phase = 2 then .next (s.startFails 0x01) else .next s

/-- SECURITY_PHASE_DONE (R492, R445, R443): the tests, the START entry, the first measurements, the keys drawn; or reason SECURITY,
FLASH or LOGBOOK. -/
def execSecurityPhaseDone (outcome : Fin 4) (s : State) : Host.Outcome State Fault Refusal :=
  if s.phase ≠ 3 then .next s
  else if outcome.val ≠ 0 then .next (s.startFails ([0, 0x02, 0x03, 0x09].getD outcome 0))
  else
    let s0 : State := { s with sec := { s.sec with powered := true, flashOn := true } }
    let s1 := s0.log 0x0002 actorSecurity 0 0 0
      [s.fld Reg.STU_STARTS, ofBool s.boot.flushed, ofBool s.boot.mismatch, ofBool s.boot.recordBad]
    let s2 : State := { s1 with boot := { s1.boot with flushed := true, mismatch := false, recordBad := false } }
    let s3 := (s2.extend 0 (toBytes 32 Config.romDigest)).extend 4 (toBytes 32 (Config.fuseDigest s2.fuseWord))
    let (k0, t0) := s3.draw (2 ^ 22)
    let (k1, t1) := t0.draw (2 ^ 32)
    let (k2, t2) := t1.draw (2 ^ 32)
    let (key, t3) := t2.draw (2 ^ 512)
    let t4 := ((t3.setFld Reg.HBM_HASH_KEY_K0 k0).setFld Reg.HBM_HASH_KEY_K1 (k1 ||| 1)).setFld Reg.HBM_HASH_KEY_K2 (k2 ||| 1)
    let t5 := t4.logAhead 0x0031 actorSecurity 0 0 0 0 [4, 1] .note none
    .next (((t5.setPitchRec 0 { t5.pitchRec 0 with hbmKey := some key }).reportInterrupted).setPhase 4)

/-- BOOT_ROM_DONE (R492, R493): the slots in their order, each with whether it can be read; or a lockstep disagreement. -/
def execBootRomDone (lockstep readableA readableB : Bool) (s : State) : Host.Outcome State Fault Refusal :=
  if s.phase ≠ 4 then .next s
  else if lockstep then .next (s.startFails 0x05)
  else
    let readable (k : Nat) : Bool := if k = 0 then readableA else readableB
    let act := s.fld Reg.STU_STATUS_ACTIVE
    let first := if 0 < s.boot.prevFails then 1 - act else act
    let run (k : Nat) (t : State) : Host.Outcome State Fault Refusal :=
      .next ((((t.setFld Reg.STU_STATUS_SLOT k).slotState k 4).extend 1 (t.compBytes k 0)).setPhase 5)
    let old (t : State) : State := if (t.fwSlot (1 - first)).state = 4 then t.slotState (1 - first) 2 else t
    match s.checkSlot first (readable first) with
    | (none, s1) => run first (old s1)
    | (some _, s1) =>
      match s1.checkSlot (1 - first) (readable (1 - first)) with
      | (none, s2) => run (1 - first) s2
      | (some _, s2) => .next (s2.startFails 0x04)

/-- STAGE1_DONE (R492): the digests of the runtime, the Lantern firmware and the Steward list; or reason IMAGE or DZISIA. -/
def execStage1Done (outcome : Fin 3) (s : State) : Host.Outcome State Fault Refusal :=
  if s.phase ≠ 5 then .next s
  else if outcome.val ≠ 0 then .next (s.startFails (if outcome.val = 1 then 0x04 else 0x05))
  else
    let k := s.fld Reg.STU_STATUS_SLOT
    .next (((((s.extend 2 (s.compBytes k 1)).extend 3 (s.compBytes k 2)).extend 5 (s.compBytes k 3))).setPhase 6).enterTest

/-! Training (R494). -/

/-- A host port's record. -/
def State.hostPort (s : State) (n : Nat) : HostPort := if n = 0 then s.host.he0 else s.host.he1

/-- A host port's record set. -/
def State.setHostPort (s : State) (n : Nat) (x : HostPort) : State :=
  { s with host := if n = 0 then { s.host with he0 := x } else { s.host with he1 := x } }

/-- The interface identifier that a host port forms from its MAC address (R365, R366, RFC 4291, log 40). -/
def interfaceId (n : Nat) : Nat :=
  let mac := (Config.macAddress + n) % 2 ^ 48
  ((mac >>> 24 <<< 40) ^^^ (1 <<< 57)) ||| 0xFFFE <<< 24 ||| mac % 2 ^ 24

/-- A host port comes up, with its link-local address (R366). -/
def State.hostUp (s : State) (n lanes : Nat) : State :=
  (((s.setFld Reg.HE_STATUS_STATE 2 (36 + n)).setFld Reg.HE_STATUS_LANES_OK lanes (36 + n)).setHostPort n
    { s.hostPort n with linkLocal := 0xFE80 <<< 112 ||| interfaceId n }).event Code.HOST_LINK_UP 0 (locHost n)

/-- A pin found bad at training (R312, R494): marked afresh, or the third of its channel. -/
def State.trainPin (s : State) (n pin : Nat) : State :=
  if s.fld Reg.HBM_PC_STATUS_MARK0_V n = 0 then
    ((s.setFld Reg.HBM_PC_STATUS_MARK0_V 1 n).setFld Reg.HBM_PC_STATUS_MARK0 pin n).event Code.HBM_PIN_MARKED 0 (locPc n)
      (s.memDetail 0 3 pin)
  else if s.fld Reg.HBM_PC_STATUS_MARK1_V n = 0 then
    ((s.setFld Reg.HBM_PC_STATUS_MARK1_V 1 n).setFld Reg.HBM_PC_STATUS_MARK1 pin n).event Code.HBM_PIN_MARKED 0 (locPc n)
      (s.memDetail 0 3 pin)
  else s.channelDead n

/-- The engines after their self-test at start: failing lanes, or the engine, stay fenced. -/
def State.trainEngine (s : State) (e : Nat) (r : TestResult) : State :=
  match failingLanes r with
  | some b => b.foldl (fun (t : State) l => if t.laneLatch e l = 2 then t else t.fenceDone (.lane e l) false 7) s
  | none => (((s.fenceDone (.engine e) false 7).emptyEngine e).event Code.SELFTEST_FAIL 0 (locEngine e) (relDetail 0xFFFF 7 0 0))

/-- A camp whose island fails its self-test at start, or whose engines all fail. -/
def State.trainCamp (s : State) (c : Nat) (island : Bool) : State :=
  if island then
    (s.campFencedNow c false 7).event Code.SELFTEST_FAIL 0 (locCamp c) (relDetail 0xFFFF 7 0 0)
  else if (List.range 8).all fun i => s.fld Reg.FEN_STATE_ENG_STATE (8 * c + i) == 2 then s.campFencedNow c false 11
  else s

/-- TRAINING_DONE (R492, R494): the memories, engines, islands and ports are trained and tested; the module opens, or the start fails. -/
def execTrainingDone (t : Training) (s : State) : Host.Outcome State Fault Refusal :=
  if s.phase ≠ 6 then .next s
  else
    let s0 := s.markTest 3 0
    let s1 := t.dead.foldl (fun (x : State) n => x.channelDead n.val) (t.pins.foldl (fun (x : State) p => x.trainPin p.1.val p.2.val) s0)
    let s2 := if s1.fld Reg.HBM_MAP_STATE = 1 then s1 else s1.reformAll
    if s2.liveN < 64 then .next (s2.startFails 0x06)
    else
      let s3 := t.banks.foldl (fun (x : State) b => x.bankFence b.1.val b.2.val) s2.reformEnds
      if s3.fld Reg.SHF_MAP_LIVE_N 0 < 32 ∨ s3.fld Reg.SHF_MAP_LIVE_N 1 < 32 then .next (s3.startFails 0x07)
      else
        let s4 := [0, 1].foldl (fun (x : State) d => if x.fld Reg.SHF_MAP_STATE d = 1 then x.shelfReformEnds d else x) s3
        let s5 := t.engines.foldl (fun (x : State) e => x.trainEngine e.1.val e.2) s4
        let s6 := (List.range 16).foldl (fun (x : State) c => x.trainCamp c (t.islands.any fun i => decide (i.val = c))) s5
        if (List.range 16).all s6.campFenced then .next (s6.startFails 0x08)
        else
          let s7 := t.ports.foldl (fun (x : State) p =>
            if x.fld Reg.TWY_PORT_CFG_ENABLE p.1.val = 1 then (x.setFld Reg.TWY_PORT_STATUS_STATE 1 p.1.val).trained p.1.val p.2.toNat else x) s6
          let up (n : Nat) (lanes : BitVec 4) (x : State) : State :=
            if lanes = 0 ∨ x.fld Reg.HE_STATUS_STATE (36 + n) = 2 then x else x.hostUp n lanes.toNat
          let s8 := up 1 t.he1 (up 0 t.he0 s7)
          let s9 : State := { s8 with boot := { s8.boot with marker := false } }
          .next ((((s9.setFld Reg.STU_STATUS_FAILS 0).setPhase 0).setFld Reg.MBX_STATUS_SERVER 0).event Code.START_DONE 0 locLantern
            (s9.imageDetail 0 (s9.fld Reg.STU_STATUS_SLOT)) |>.enterState 0)

/-- START_TIMEOUT (R492). -/
def execStartTimeout (s : State) : Host.Outcome State Fault Refusal := if s.starting then .next (s.startFails 0x0A) else .next s

/-- START_RETRY (R498): another attempt, from phase 1. -/
def execStartRetry (s : State) : Host.Outcome State Fault Refusal :=
  if s.boot.waiting ∧ s.phase = 1 ∧ !s.boot.unpowered then .next s.enterHold else .next s

/-! Power entry and the tray's lines (R497, R511-R515). -/

/-- The hot-swap controller opens (R512-R514): a removal of power, with the Lantern on its standby rails. -/
def State.hotSwapOpens (s : State) : State :=
  if s.boot.unpowered ∨ s.boot.opened then s
  else
    let s0 : State := { s with boot := { s.boot with opened := true } }
    if s.starting ∨ s.running then
      ((s0.cutRails false true).setPhase 0).event Code.POWER_STATE_CHANGED 0 locLantern (pwrDetail 0 0 3 0)
    else s0

/-- PRESENT_N_RISE (R514). -/
def execPresentNRise (s : State) : Host.Outcome State Fault Refusal := .next s.hotSwapOpens

/-- INPUT_UNDERVOLTAGE (R512): below 47 V for 100 µs, with the rails up. -/
def execInputUndervoltage (mv : BitVec 32) (s : State) : Host.Outcome State Fault Refusal :=
  if mv.toNat < 47000 ∧ (s.starting ∨ s.running) then .next s.hotSwapOpens else .next s

/-- INPUT_OVERVOLTAGE (R512): above 60 V for 100 µs; above 63 V no behaviour is promised (log 94). -/
def execInputOvervoltage (mv : BitVec 32) (s : State) : Host.Outcome State Fault Refusal :=
  if 63000 < mv.toNat then .fault .overvoltageBeyond63V
  else if 60000 < mv.toNat then .next s.hotSwapOpens else .next s

/-- INPUT_OVERCURRENT (R513): above 62 A for 1 ms, or above 90 A for 5 µs. -/
def execInputOvercurrent (s : State) : Host.Outcome State Fault Refusal := .next s.hotSwapOpens

/-- INPUT_RESTORED (R513): the input back in range for 1 ms. -/
def execInputRestored (s : State) : Host.Outcome State Fault Refusal :=
  if !s.boot.opened ∨ s.boot.unpowered then .next s
  else
    let s1 : State := { s with boot := { s.boot with opened := false } }
    .next (if s.phase = 0 then s1.enterHold else s1)

/-- POWER_REMOVED (R332, R497, R512): the whole module loses power; flash and fuses keep what they hold. -/
def execPowerRemoved (s : State) : Host.Outcome State Fault Refusal :=
  let s1 : State := { s with boot := { s.boot with unpowered := true, opened := false, waiting := false, held := false } }
  .next ({ (((s1.cutRails true true).setPhase (if s.phase = 8 then 8 else 0))) with evs := { nextSeq := 1, rings := [] } } : State)

/-- LANTERN_POWER_UP (R489, R492, R497, R526): the lines as they stand, and whether a copy of the boot record is valid. -/
def execLanternPowerUp (pwrEn flowOk recordOk : Bool) (s : State) : Host.Outcome State Fault Refusal :=
  if !s.boot.unpowered then .next s
  else
    let s1 : State := { s with
      evs := { nextSeq := 1, rings := [] }
      boot := { s.boot with unpowered := false, recordBad := s.boot.recordBad || !recordOk, marker := s.boot.marker && recordOk } }
    let s2 := (s1.setFld Reg.LNT_STATUS_PWR_EN (ofBool pwrEn)).setFld Reg.LNT_STATUS_FLOW_OK (ofBool flowOk)
    let s3 := if recordOk then s2
      else
        let (h, a) := s2.draw (2 ^ 24)
        let (n, b) := a.draw (2 ^ 64)
        ((((b.setFld Reg.STU_HISTORY_REASONS h).setFld Reg.STU_STATUS_REASON h).setFld Reg.STU_STARTS n).setFld Reg.STU_STATUS_ACTIVE 0).setFld
          Reg.STU_STATUS_FAILS 0
    .next s3.enterHold

/-- PWR_EN_RISE (R418, R492). -/
def execPwrEnRise (s : State) : Host.Outcome State Fault Refusal :=
  let s1 := s.setFld Reg.LNT_STATUS_PWR_EN 1
  if s.fld Reg.LNT_STATUS_PWR_EN = 0 ∧ s.phase = 0 ∧ s.powerState = 3 ∧ !s.boot.opened ∧ !s.boot.unpowered then .next s1.enterHold else .next s1

/-- PWR_EN_FALL (R418, R497): STANDBY as a removal of power, or a start cut short. -/
def execPwrEnFall (s : State) : Host.Outcome State Fault Refusal :=
  if s.fld Reg.LNT_STATUS_PWR_EN = 0 then .next s
  else
    let s1 := s.setFld Reg.LNT_STATUS_PWR_EN 0
    if s.boot.unpowered then .next s1
    else if s.starting then .next (s1.startCut 0)
    else if s.phase = 1 then .next s1.startHeld
    else if s.running then .next ((s1.cutRails false false).enterState 3)
    else .next s1

/-- FLOW_OK_FALL (R411, R492, R497): the deglitch starts, unless a stop stands; a hold is not passed; a stop of the package no longer
takes FLOW_OK as high. -/
def execFlowOkFall (s : State) : Host.Outcome State Fault Refusal :=
  if s.fld Reg.LNT_STATUS_FLOW_OK = 0 then .next s
  else
    let s1 := s.setFld Reg.LNT_STATUS_FLOW_OK 0
    if s.boot.unpowered then .next s1
    else if s.phase = 1 then .next s1.startHeld
    else if s.starting ∨ s.running then .next (s1.withPower { s1.power with flowLow := s1.power.stop == 0, package := false })
    else .next s1

/-- COOLANT_STOP (R411, R497): FLOW_OK low for 100 µs stops the lanes and takes the module to its stop, or cuts a start short. -/
def execCoolantStop (s : State) : Host.Outcome State Fault Refusal :=
  if !s.power.flowLow then .next s
  else if s.starting then .next (s.startCut 1)
  else if s.running ∧ s.powerState ≤ 2 then
    .next ((((s.hardPath false).event Code.COOLANT_STOP 0 locLantern).stick Reg.LNT_STATUS_COOLANT_STICKY).logLantern [1, 0])
  else .next s

end Sys2Proof.Machine
end

