-- ==== Sys2Proof/Machine/Jobs.lean ====
section
/-! DEFINITION. Jobs (R81, R203, R387, R443): the job parameter block, the keys of a job, and its end. -/
namespace Sys2Proof.Machine

open Sys2Proof

/-! Entries about keys. -/

/-- The kind of a KEY_EVENT entry. -/
def logKeyEvent : Nat := 0x0031
/-- Key kinds, as the rows of R443 stand. -/
def keyHbm : Nat := 4
/-- ROT_SEED. -/
def keySeed : Nat := 5
/-- The fabric key of a pitch. -/
def keyFabric : Nat := 6
/-- The Spindrift key. -/
def keySpindrift : Nat := 7
/-- The fabric key of pitch 0. -/
def keyFab0 : Nat := 8

/-- KEY_EVENT entries for several keys (R450), the change waiting for the last; `installed` is 1 for installed, 0 for destroyed. -/
def State.logKeys (s : State) (p tod session : Nat) (installed : Nat) (c : Change) (reply : Option (Nat × Nat × Nat)) : List Nat → State
  | [] => s
  | [k] => s.logAhead logKeyEvent actorSecurity p (s.tenancy p) session tod [k, installed] c reply
  | k :: rest => (s.logAhead logKeyEvent actorSecurity p (s.tenancy p) session tod [k, installed] .note none).logKeys p tod session installed c reply rest

/-! The end of a job (R387). -/

/-- The slots and guest contexts of a pitch. -/
def State.slotsOf (s : State) (p : Nat) : List Nat := (List.range 128).filter fun k => s.slotPitch k == p

/-- Whether any slot of a pitch runs. -/
def State.slotsBusy (s : State) (p : Nat) : Bool :=
  (s.slotsOf p).any fun k => (s.slot k).state != 0 || (s.slot k).run.isSome || !(s.slot k).queue.isEmpty

/-- What a job leaves behind is cleared (R182, R286, R386, R387, R416): the Stash, the keys, the windows, the guylines, its energy. -/
def State.closeJob (s : State) (p : Nat) : State :=
  let num := (s.job p).num
  let s1 := (s.slotsOf p).foldl (fun (t : State) k => t.setSlot k { t.slot k with queue := [] }) (s.stashFree p none)
  let s2 := if num = 0 then s1
    else (s1.setFld Reg.LNT_JOB_TOTAL (s1.fld Reg.LNT_PITCH_ENERGY p) p).setFld Reg.LNT_JOB_NUM_JOB num p
  let s3 := (s2.setPitchRec p { s2.pitchRec p with fabKey := none, spdKey := none, rotSeed := none }).forgetPairs p
  let s4 : State := { s3 with host := { s3.host with windows := s3.host.windows.filter fun w => decide (w.2.pitch ≠ p) } }
  let s5 := ((List.range 32).filter (s.mapOf p).guys.testBit).foldl State.resetGuy s4
  (s5.setJob p .none).splitBudget p

/-- The keys that a pitch holds for its job, by kind. -/
def State.jobKeys (s : State) (p : Nat) : List Nat := if (s.pitchRec p).rotSeed.isSome then [keySeed, keyFabric, keySpindrift] else []

/-- Whether a change about a pitch's keys waits for its entry. -/
def State.awaits (s : State) (c : Change) : Bool := s.sec.log.ahead.any fun a => decide (a.change = c)

/-- A pitch whose job is to end, or which is being released, goes on as far as it can: its slots stop, their aborts complete, its
keys are destroyed (R175, R387, R435). -/
def State.windDown (s : State) (p : Nat) : State :=
  let release := s.fld Reg.SEC_PITCH_CTL_STATE p == 4
  if !release && !(s.job p).ending then s
  else
    let s1 := (s.slotsOf p).foldl State.forceAbort s
    if s1.abortingIn p ∨ s1.awaits (.released p) ∨ s1.awaits (.ended p) then s1
    else if release then
      s1.logKeys p 0 0 0 (.released p) none (s1.jobKeys p ++ [keyHbm])
    else match s1.jobKeys p with
      | [] => (s1.closeJob p).replyWaits (.job p) 0 fun _ => []
      | ks => s1.logKeys p 0 0 0 (.ended p) none ks

/-! The job parameter block (R387). -/

/-- A field of the block's head. -/
def jobField (w hi lo : Nat) : Nat := bits w hi lo

/-- The byte offsets of the head's fields that break a rule of their chapters, in ascending order. -/
def State.jobHeadFaults (s : State) (p w : Nat) : List Nat :=
  let m := s.mapOf p
  let npart := bits w 176 164
  let gran := bits w 319 304
  let checks : List (Bool × Nat) :=
    [(bits w 127 0 != 0, 0), (bits w 143 128 == 0, 16), (bits w 158 144 != 0, 18), (bits w 163 161 != 0, 20),
      (npart == 0 || decide (4096 < npart) || bits w 189 177 == 0 || npart % bits w 189 177 != 0, 20),
      (decide (min 32 m.slabs0.length < bits w 211 206), 25), (decide (min 32 m.slabs1.length < bits w 217 212), 26),
      (bits w 223 218 != 0, 27), (bits w 255 224 &&& m.guys != bits w 255 224, 28),
      (bits w 276 256 != 0 || (decide (2 ≤ gran) && decide (m.pages.length < bits w 303 256 / 2 ^ 21 + gran)), 32),
      (bits w 356 336 != 0, 42), (bits w 407 385 != 0, 48), (bits w 471 464 != 0, 58)]
    ++ (List.range 8).map fun k => (bits w (559 + 64 * k) (553 + 64 * k) != 0, 64 + 8 * k)
  checks.filterMap fun c => if c.1 then some c.2 else none

/-- Where each Groundsheet tensor goes (R203): bytes needed each, the free space on the two dies. -/
def placeTensors : List Nat → Nat → Nat → List Nat
  | [], _, _ => []
  | n :: rest, f0, f1 =>
    if f1 ≤ f0 then
      if n ≤ f0 then 0 :: placeTensors rest (f0 - n) f1 else 2 :: placeTensors rest f0 f1
    else if n ≤ f1 then 1 :: placeTensors rest f0 (f1 - n) else 2 :: placeTensors rest f0 f1

/-- The bytes of a tensor with its header, packed at 64-byte alignment. -/
def tensorBytes (header : Nat) : Nat := 64 + (4 * bits header 63 32 * bits header 95 64 + 63) / 64 * 64

/-- A job parameter block as read: its head, TAL_SCOPE and GUY_CFG images, participants, and the tensors with their headers. -/
structure JobBlock where
  head : Nat
  scope : Nat
  guys : Nat
  parts : List Nat
  tensors : List (Nat × Nat)
  placeAt : Nat
  deriving DecidableEq, Repr

/-- The headers of a list of tensors, or the byte offset of the first entry that names none. -/
def State.readHeaders (s : State) (p : Nat) (off : Nat) : List Nat → Acc (List (Nat × Nat))
  | [] => .ok []
  | a :: rest =>
    if a % 64 ≠ 0 then .err Code.MBX_JOB_INVALID off
    else match s.readNum p (s.mapOf p) a 32 with
      | .wait => .wait
      | .err _ _ => .err Code.MBX_JOB_INVALID off
      | .ok h =>
        match s.readHeaders p (off + 8) rest with
        | .ok l => .ok ((a, h) :: l)
        | .err c x => .err c x
        | .wait => .wait

/-- A part of the block; what cannot be read is a fault at its offset. -/
def State.jobPart (s : State) (p addr off n : Nat) : Acc Nat :=
  if n = 0 then .ok 0
  else match s.readNum p (s.mapOf p) (addr + off) n with
    | .ok v => .ok v
    | .err _ _ => .err Code.MBX_JOB_INVALID off
    | .wait => .wait

/-- The block at an address, checked (R387): the second number of an error is the byte offset of the first bad field. -/
def State.readJob (s : State) (p addr : Nat) : Acc JobBlock :=
  if addr % 64 ≠ 0 then .err Code.MBX_JOB_INVALID 0
  else match s.jobPart p addr 0 128 with
    | .wait => .wait
    | .err c x => .err c x
    | .ok w =>
      match s.jobHeadFaults p w with
      | off :: _ => .err Code.MBX_JOB_INVALID off
      | [] =>
        let npart := bits w 176 164
        let ngs := bits w 205 190
        let list := 384 + (2 * npart + 7) / 8 * 8
        match s.jobPart p addr 128 128, s.jobPart p addr 256 128, s.jobPart p addr 384 (2 * npart), s.jobPart p addr list (8 * ngs) with
        | .ok scope, .ok guys, .ok ids, .ok ts =>
          let parts := (List.range npart).map fun i => bits ids (16 * i + 15) (16 * i)
          let badGuy := (List.range 32).find? fun g => bit (bits w 255 224) g &&
            (bits guys (32 * g + 31) (32 * g + 29) != 0
              || (bits guys (32 * g + 23) (32 * g + 8) &&& (s.mapOf p).camps) != bits guys (32 * g + 23) (32 * g + 8))
          match badGuy with
          | some g => .err Code.MBX_JOB_INVALID (256 + 4 * g)
          | none =>
            if !parts.all (fun d => decide (d < 4096)) || decide (parts.eraseDups.length ≠ npart) || !parts.contains s.devId then
              .err Code.MBX_JOB_INVALID 384
            else match s.readHeaders p list ((List.range ngs).map fun i => bits ts (64 * i + 63) (64 * i)) with
              | .ok hs => .ok { head := w, scope := scope, guys := guys, parts := parts, tensors := hs, placeAt := addr + list + 8 * ngs }
              | .err c x => .err c x
              | .wait => .wait
        | .err c x, _, _, _ => .err c x
        | _, .err c x, _, _ => .err c x
        | _, _, .err c x, _ => .err c x
        | _, _, _, .err c x => .err c x
        | _, _, _, _ => .wait

/-- One image of LAD_LIMITS written in a camp. -/
def State.writeLimits (s : State) (c k v : Nat) : State :=
  [Reg.LAD_LIMITS_CLIMB, Reg.LAD_LIMITS_SITE_DESCEND, Reg.LAD_LIMITS_STILE_MAX, Reg.LAD_LIMITS_ZTILE_MAX, Reg.LAD_LIMITS_SELEM_MAX,
    Reg.LAD_LIMITS_ZELEM_MAX].foldl (fun (t : State) f => t.setFld f (v >>> f.lo) c k) s

/-- A Stash begins with no entry (R192): the directory of its head is free. -/
def State.emptyDirectory (s : State) (p : Nat) : State :=
  if s.stashGranules p = 0 then s.stashGauges p
  else match translate (s.mapOf p) (s.fld Reg.STH_BASE_BASE p) with
    | some l => (s.zero (s.redirected l) (s.redirected l + 0x20000)).stashGauges p
    | none => s

/-- The pitch configured for a job (R387): its registers, its guylines, its counts at zero, the Groundsheet placed. -/
def State.configureJob (s : State) (p : Nat) (b : JobBlock) (place : List Nat) : State :=
  let w := b.head
  let set (f : Fld) (v : Nat) (t : State) : State := t.setFld f v p
  let camps := s.campsOf p
  let s1 := camps.foldl (fun (t : State) c =>
    let t1 := (List.range 8).foldl (fun (t : State) k => t.writeLimits c k (bits w (575 + 64 * k) (512 + 64 * k))) t
    (List.range 32).foldl (fun (t : State) i => t.setFld Reg.TAL_SCOPE_SHARED (bits b.scope (32 * i + 31) (32 * i)) c i) t1) s
  let s2 := ((List.range 32).filter fun g => bit (bits w 255 224) g).foldl (fun (t : State) g =>
    t.writeGuyCfg g (bits b.guys (32 * g + 31) (32 * g + 8) <<< 8 ||| p)) s1
  let s3 := set Reg.STH_CFG_REKEEP (bits w 160 160) (set Reg.STH_BASE_BASE (bits w 303 256) (set Reg.STH_GRANULES (bits w 319 304)
    (set Reg.STH_FIRST_RESERVE (bits w 335 320) (set Reg.CMT_STRIDE_STRIDE (bits w 383 336) s2))))
  let s4 := set Reg.CMT_CFG_VOTE_TO (bits w 447 432) (set Reg.CMT_CFG_DECIDE_TO (bits w 431 416) (set Reg.CMT_CFG_QUERY_ROUNDS (bits w 415 408)
    (set Reg.CMT_CFG_NONFINITE_ABORT (bits w 384 384) s3)))
  let s5 := set Reg.CMT_STATUS_STEP 0 (set Reg.CMT_STATUS_ATTEMPT 0 (set Reg.CMT_STATUS_STATE 0 (set Reg.CMT_STATUS_BANK 0
    (set Reg.LNT_PITCH_ENERGY 0 (s4.setFld Reg.FB_CFG_RESEND (bits w 463 448))))))
  let s6 : State := { s5 with
    sync := { s5.sync with wseq := dropPitch p s5.sync.wseq, settled := dropPitch p s5.sync.settled, beyond := dropPitch p s5.sync.beyond }
    fab := { s5.fab with
      collCount := sclear (p * 64) ((p + 1) * 64) s5.fab.collCount
      collHeld := s5.fab.collHeld.filter fun h => decide (h.pitch ≠ p) }
    commits := sset .none s5.commits p .none
    power := { s5.power with ledgers := sset .empty s5.power.ledgers p .empty } }
  let job : Job := { num := bits w 143 128, parts := b.parts, gsize := bits w 189 177, bf16Master := bit w 159, siteBase := bits w 511 464
                     tensors := (b.tensors.map (·.1)).zip place, notKept := [], sizes := [], offered := [], rose := false, ending := false }
  ((s6.setJob p job).emptyDirectory p).splitBudget p

/-- JOB_START (R387, R203): a status with the reply's body and the state, or nothing while an access waits. -/
def State.startJob (s : State) (p addr role session tod : Nat) : Option (Nat × Bytes × State) :=
  if (s.job p).num ≠ 0 then some (Code.MBX_STATE_CONFLICT, [], s)
  else match s.readJob p addr with
    | .wait => none
    | .err c off => some (c, toBytes 4 off, s)
    | .ok b =>
      let w := b.head
      let place := placeTensors (b.tensors.map fun t => tensorBytes t.2) (bits w 211 206 * 2 ^ 26) (bits w 217 212 * 2 ^ 26)
      match (if place.isEmpty then .ok s else s.writeAt p (s.mapOf p) none b.placeAt place) with
      | .wait => none
      | .err _ _ => some (Code.MBX_JOB_INVALID, toBytes 4 (b.placeAt - addr), s)
      | .ok s1 =>
        let body := [0, 1, 2].flatMap fun d => toBytes 4 (place.filter (· = d)).length
        some (0, body, (s1.configureJob p b place).log 0x0043 role p session tod [0, bits w 143 128])

/-! The seed (R81, R443). -/

/-- The fabric key that a seed and a nonce give. -/
def fabricKey (seed job nonce : Nat) : Nat :=
  ofBytes (shake256 (ascii "PL480TWY" ++ toBytes 32 seed ++ toBytes 2 job ++ toBytes 16 nonce) 32)

/-- The digest under which the flash remembers a fabric key. -/
def fabricDigest (key : Nat) : Nat := ofBytes (shake256 (toBytes 32 key) 32)

/-- A fabric key installed in a pitch (R443, R349): its IVs restart, its digest is remembered. -/
def State.installFabricKey (s : State) (p key : Nat) : State :=
  let s1 := s.setPitchRec p { s.pitchRec p with fabKey := some key }
  ({ s1 with
    sec := { s1.sec with fabDigests := (fabricDigest key :: s1.sec.fabDigests).take 4096 }
    fab := { s1.fab with ivs := dropPitch p s1.fab.ivs } } : State).forgetPairs p

/-- Why JOB_SEED is refused, if it is. -/
def State.seedRefused (s : State) (p seed nonce : Nat) : Bool :=
  (s.job p).num == 0 || (s.job p).ending || (s.pitchRec p).rotSeed.isSome
    || s.sec.fabDigests.contains (fabricDigest (fabricKey seed (s.job p).num nonce))

/-- The seed and the keys that follow from it are installed (R443). -/
def State.installSeed (s : State) (p seed nonce job : Nat) : State :=
  let s1 := s.installFabricKey p (fabricKey seed job nonce)
  (s1.setPitchRec p { s1.pitchRec p with
    rotSeed := some seed
    spdKey := some (ofBytes (shake256 (ascii "PL480SPD" ++ toBytes 32 seed) 32)) }).pump

/-! The end of a forced abort (R175, R388). -/

/-- FORCED_ABORT_COMPLETE (R175): every write and add of the slot has been answered; the slot is idle, and what waited for it goes on. -/
def State.abortCompletes (s : State) (k : Nat) : State :=
  if !(s.slot k).abortDone then s
  else ((s.endAbort k).replyWaits (.slot k) 0 fun _ => []).windDown (s.slotPitch k)

end Sys2Proof.Machine
end

