-- ==== Sys2Proof/Machine/Pitch.lean ====
section
/-! DEFINITION. Pitches, ownership and debug unlock (R429-R445): the layout, what each ACTION needs and does, and what follows once
its log-ahead entry is in flash. -/
namespace Sys2Proof.Machine

open Sys2Proof

/-- Where the events of this chapter lie (R457). -/
def locSecurity : Nat := locHarbour 0x0A

/-- The DETAIL of the events of R457. -/
def secDetail (pitch action seq : Nat) : Nat := atBytes [(0, pitch), (1, action), (4, seq % 2 ^ 64)]

/-! Keys of parties. -/

/-- A power modulo `m`, by repeated squaring. -/
def powMod (m : Nat) : Nat → Nat → Nat → Nat
  | 0, _, _ => 1
  | fuel + 1, b, e =>
    let r := powMod m fuel (b * b % m) (e / 2)
    if e % 2 = 1 then b * r % m else r

/-- Whether 57 bytes are an Ed448 public key (RFC 8032): the encoding of a point of the curve. Zero, which nobody registered, is none
(log 41). -/
def ed448Key (k : Nat) : Bool :=
  let p := 2 ^ 448 - 2 ^ 224 - 1
  let y := k % 2 ^ 455
  let u := (y * y + p - 1) % p
  let v := (2 * p - 1 - 39081 * (y * y % p) % p) % p
  k != 0 && decide (y < p) && decide (powMod p 448 (u * v % p) ((p - 1) / 2) ≤ 1) && !(u == 0 && k / 2 ^ 455 == 1)

/-- The digest of a public key (R430). -/
def keyDigest (k : Nat) : Nat := ofBytes (shake256 (toBytes 57 k) 32)

/-! Layouts (R432). -/

/-- SEC_PITCH_LAYOUT as a word. -/
def State.layoutWord (s : State) (p : Nat) : Nat :=
  s.fld Reg.SEC_PITCH_LAYOUT_CAMPS p ||| s.fld Reg.SEC_PITCH_LAYOUT_GUYS p <<< 16 ||| s.fld Reg.SEC_PITCH_LAYOUT_SLABS_0 p <<< 48
    ||| s.fld Reg.SEC_PITCH_LAYOUT_SLABS_1 p <<< 54 ||| s.fld Reg.SEC_PITCH_LAYOUT_PAGES p <<< 64

/-- The slabs that a pitch holds or is being given on a die, in order. -/
def State.slabsHeld (s : State) (p die : Nat) : List Nat :=
  let r := s.pitchRec p
  (if die = 0 then r.map.slabs0 else r.map.slabs1) ++ r.joiningSlabs.filter fun n => decide (n / 32 = die)

/-- The pages that a pitch holds or is being given, in order. -/
def State.pagesHeld (s : State) (p : Nat) : List Nat := (s.pitchRec p).map.pages ++ (s.pitchRec p).joiningPages

/-- The layout in force as a word of the same form. -/
def State.appliedWord (s : State) (p : Nat) : Nat :=
  (s.mapOf p).camps ||| (s.mapOf p).guys <<< 16 ||| (s.slabsHeld p 0).length <<< 48 ||| (s.slabsHeld p 1).length <<< 54
    ||| (s.pagesHeld p).length <<< 64

/-- SLABS of a die in a pitch's layout register. -/
def State.slabsAsked (s : State) (p die : Nat) : Nat :=
  if die = 0 then s.fld Reg.SEC_PITCH_LAYOUT_SLABS_0 p else s.fld Reg.SEC_PITCH_LAYOUT_SLABS_1 p

/-- The lowest free pages from a page on, `n` of them at most. -/
def State.lowestFree (s : State) : Nat → Nat → Nat → List Nat
  | 0, _, _ => []
  | _ + 1, _, 0 => []
  | fuel + 1, page, n + 1 =>
    if s.pageOwner page = 0xF then page :: s.lowestFree fuel (page + 1) n else s.lowestFree fuel (page + 1) (n + 1)

/-- The free pages that a pitch would be given, ascending (R432, log 70). -/
def State.pagesToTake (s : State) (p : Nat) : List Nat :=
  s.lowestFree (s.liveN * 512) 0 (s.fld Reg.SEC_PITCH_LAYOUT_PAGES p - (s.pagesHeld p).length)

/-- The free slabs of a die that a pitch would be given, ascending. -/
def State.slabsToTake (s : State) (p die : Nat) : List Nat :=
  (((List.range (s.fld Reg.SHF_MAP_SLABS die)).map (· + 32 * die)).filter fun n => s.slabOwner n == 0xF).take
    (s.slabsAsked p die - (s.slabsHeld p die).length)

/-- Whether what a layout asks for is not owned elsewhere and is free (R432). -/
def State.layoutFits (s : State) (p : Nat) : Bool :=
  let others := ((List.range 9).filter fun q => q != 0 && q != p)
  others.all (fun q => (s.mapOf q).camps &&& s.fld Reg.SEC_PITCH_LAYOUT_CAMPS p == 0
      && (s.mapOf q).guys &&& s.fld Reg.SEC_PITCH_LAYOUT_GUYS p == 0)
    && decide (s.fld Reg.SEC_PITCH_LAYOUT_PAGES p ≤ (s.pagesHeld p).length + (s.pagesToTake p).length)
    && [0, 1].all fun die => decide (s.slabsAsked p die ≤ (s.slabsHeld p die).length + (s.slabsToTake p die).length)

/-! Memory that joins and leaves (R314, R330, R320). -/

/-- A slab's owner set. -/
def State.setSlabOwner (s : State) (slab owner : Nat) : State :=
  { s with ras := { s.ras with slabOwners := sset 0xF s.ras.slabOwners slab owner } }

/-- Pages and slabs taken for a pitch; they join it once zeroed. -/
def State.takeMemory (s : State) (p : Nat) : State :=
  let pages := s.pagesToTake p
  let slabs := s.slabsToTake p 0 ++ s.slabsToTake p 1
  let s1 := slabs.foldl (fun (t : State) n => t.setSlabOwner n p) (pages.foldl (fun (t : State) n => t.setOwner n p) s)
  ({ s1 with ras := { s1.ras with redirect := s1.ras.redirect.filter fun r => !pages.contains r.1 } } : State).setPitchRec p { s1.pitchRec p with
    joiningPages := (s1.pitchRec p).joiningPages ++ pages, joiningSlabs := (s1.pitchRec p).joiningSlabs ++ slabs }

/-- A page leaves its pitch: free, or retired when it was to be; a move of it is abandoned (R320). -/
def State.leavePage (s : State) (page : Nat) : State :=
  let moving := (s.ras.moving.map (·.1)) == some page
  let bad := moving || s.ras.marked.contains page || s.ras.retry.contains page
  let s1 : State := match s.ras.moving with
    | some (_, new) => if moving then ({ s with ras := { s.ras with moving := none } } : State).setOwner new 0xF else s
    | none => s
  let s2 : State := { s1 with ras := { s1.ras with
    marked := s1.ras.marked.filter (· ≠ page), retry := s1.ras.retry.filter (· ≠ page), redirect := s1.ras.redirect.filter (·.1 ≠ page) } }
  let s3 := if bad then s2.pageRetired page 0 0 else s2.setOwner page 0xF
  if moving then s3.releaseHeld else s3

/-- A pitch's holdings cut to what its layout asks, the highest pitch addresses first (R434). -/
def State.giveBackMemory (s : State) (p pages slabs0 slabs1 : Nat) : State :=
  let r := s.pitchRec p
  let gone := (s.pagesHeld p).drop pages
  let out := (s.slabsHeld p 0).drop slabs0 ++ (s.slabsHeld p 1).drop slabs1
  let s1 := s.setPitchRec p { r with
    map := { r.map with pages := r.map.pages.take pages, slabs0 := r.map.slabs0.take slabs0, slabs1 := r.map.slabs1.take slabs1 }
    joiningPages := r.joiningPages.filter (fun n => !gone.contains n), joiningSlabs := r.joiningSlabs.filter fun n => !out.contains n }
  out.foldl (fun (t : State) n => t.setSlabOwner n 0xF) (gone.foldl (fun (t : State) n => t.leavePage n) s1)

/-- Poison bits of a range cleared with its zeroing. -/
def State.zeroMemory (s : State) (lo n : Nat) : State :=
  let s1 := s.zero lo (lo + n)
  { s1 with ras := { s1.ras with poison := s1.ras.poison.filter fun l => !(decide (lo ≤ 64 * l) && decide (64 * l < lo + n)) } }

/-! What an assignment resets (R433). -/

/-- The fields of an instance between two offsets back at their resets. -/
def State.resetSpan (s : State) (block inst lo hi : Nat) : State :=
  let a := ctlBase + block * 2 ^ 32 + inst * 2 ^ 16
  { s with ctl := sclear ((a + lo) * 512) ((a + hi) * 512) s.ctl }

/-- A camp comes to a pitch: tallies, Cove buffers, the local store, and the registers that only its pitch sees. -/
def State.freshCamp (s : State) (c : Nat) : State :=
  let s0 := (((List.range 4).foldl (fun (t : State) i => t.leaveWaits (.peg (4 * c + i))) s).zero (coveBase + c * 2 ^ 24) (coveBase + (c + 1) * 2 ^ 24)).zero
    (storeBase + c * 2 ^ 22) (storeBase + (c + 1) * 2 ^ 22)
  let s1 : State := { s0 with
    sync := { s0.sync with
      tallies := sclear (c * 1024) ((c + 1) * 1024) (sclear ((16 + c) * 1024) ((17 + c) * 1024) s0.sync.tallies)
      waits := s0.sync.waits.filter fun w => decide (w.camp ≠ c) }
    pegs := sclear (4 * c) (4 * c + 4) s0.pegs }
  let s2 := (List.range 8).foldl (fun (t : State) i =>
    let e := 8 * c + i
    let st := t.fld Reg.BRK_STATUS_STATE e
    (t.resetSpan 0 e 0 (Reg.FEN_STATE_ENG_STATE.off)).setFld Reg.BRK_STATUS_STATE st e) s1
  let s3 := (List.range 4).foldl (fun (t : State) i =>
    (t.resetSpan 1 (4 * c + i) 0 65536).setFld Reg.STR_CFG_PRIO (resetPrio i) (4 * c + i)) s2
  s3.resetSpan 2 c 0 Reg.FEN_STATE_CAMP_STATE.off

/-- The registers of a pitch's own instance that only it sees. -/
def State.freshPitch (s : State) (p : Nat) : State :=
  (((s.resetSpan 3 p 0 Reg.TWY_SHARE_SHARE.off).resetSpan 3 p Reg.TWY_TIMEOUT.off Reg.GOV_PITCH_BUDGET_BUDGET.off).resetSpan 3 p
    Reg.GOV_PITCH_CFG_REPEAT.off Reg.LNT_JOB_TOTAL.off).resetSpan 3 p Reg.BCN_CFG_TABLE.off 65536

/-- The default budget of a pitch of `n` camps (R401), within what the pool still holds (log 99). -/
def State.defaultBudget (s : State) (p n : Nat) : Nat := min (93750 * n) (s.fld Reg.GOV_POOL_POOL - s.otherBudgets p)

/-- The budget that a change of camps sets, unless the Warden has written another (R401). -/
def State.budgetFor (s : State) (p old new : Nat) : State :=
  let b := s.fld Reg.GOV_PITCH_BUDGET_BUDGET p
  (if b = 0 ∨ b = 93750 * old then s.setFld Reg.GOV_PITCH_BUDGET_BUDGET (s.defaultBudget p new) p else s).splitBudget p

/-- An assignment whose memory has all joined ends (R433); the parts of the tide pool follow (R299). -/
def State.finishAssign (s : State) (p : Nat) : State :=
  let r := s.pitchRec p
  if s.fld Reg.SEC_PITCH_CTL_STATE p = 1 ∧ r.hbmKey.isSome ∧ r.joiningPages = [] ∧ r.joiningSlabs = [] then
    let d := secDetail p 1 0
    ((s.setFld Reg.SEC_PITCH_CTL_STATE 2 p).promoteAll.event Code.SEC_PITCH_ASSIGNED 0 locSecurity d).event Code.SEC_PITCH_ASSIGNED p locSecurity d
  else s

/-! The margin of job lending (R404). -/

/-- Whether every unsealed pitch that lends between devices can bear the largest deduction. -/
def State.marginOk (s : State) : Bool :=
  ((List.range 9).filter fun p => s.fld Reg.SEC_PITCH_CTL_STATE p == 1 || s.fld Reg.SEC_PITCH_CTL_STATE p == 2).all fun p =>
    s.fld Reg.GOV_PITCH_CFG_LEND_JOB p == 0
      || decide (s.lendStep * s.fld Reg.GOV_JOB_KMAX + s.floorSum p ≤ s.fld Reg.GOV_PITCH_BUDGET_BUDGET p)

/-- The number of camps in a mask. -/
def campCount (mask : Nat) : Nat := ((List.range 16).filter mask.testBit).length

/-- The layout's camps and guylines put in force. -/
def State.takeCamps (s : State) (p : Nat) : State :=
  let r := s.pitchRec p
  let camps := s.fld Reg.SEC_PITCH_LAYOUT_CAMPS p
  let s1 := s.setPitchRec p { r with map := { r.map with
    camps := camps, guys := s.fld Reg.SEC_PITCH_LAYOUT_GUYS p, dark := r.map.dark &&& camps } }
  let lost := (List.range 16).filter fun c => r.map.camps.testBit c && !camps.testBit c
  (lost.foldl (fun (t : State) c => t.setBudget c 0) s1).budgetFor p (campCount r.map.camps) (campCount camps)

/-! What each ACTION needs (R433, R434, R437, R440, R441, R444). -/

/-- Whether a fuse count stands at its limit, by its byte position in SEC_FUSE (R444). -/
def State.fuseSpent (s : State) (byte : Nat) : Bool :=
  decide (([16, 32, 255, 8].getD byte 0) ≤ bits s.fuseWord (8 * byte + 7) (8 * byte))

/-- One more fuse bit of a counter burned. -/
def State.burnFuse (s : State) (byte : Nat) : State :=
  let f := [Reg.SEC_FUSE_TRANSFERS, Reg.SEC_FUSE_UNLOCKS, Reg.SEC_FUSE_FLOOR, Reg.SEC_FUSE_UNSEALS].getD byte Reg.SEC_FUSE_FLOOR
  s.setFld f (s.fld f + 1)

/-- Whether an APPLY asks only for more pages or slabs (R434). -/
def State.onlyGrows (s : State) (p : Nat) : Bool :=
  decide ((s.pagesHeld p).length ≤ s.fld Reg.SEC_PITCH_LAYOUT_PAGES p) && [0, 1].all (fun d => decide ((s.slabsHeld p d).length ≤ s.slabsAsked p d))
    && (s.mapOf p).camps == s.fld Reg.SEC_PITCH_LAYOUT_CAMPS p && (s.mapOf p).guys == s.fld Reg.SEC_PITCH_LAYOUT_GUYS p

/-- Whether an APPLY would leave the margin of R404 broken by a change of camps. -/
def State.applyBreaksMargin (s : State) (p : Nat) : Bool :=
  (s.mapOf p).camps != s.fld Reg.SEC_PITCH_LAYOUT_CAMPS p && !(s.takeCamps p).marginOk

/-- Why an ACTION of a pitch is refused for a role, or 0 (log 100). -/
def State.actionRefusal (s : State) (p act role : Nat) : Nat :=
  let st := s.fld Reg.SEC_PITCH_CTL_STATE p
  let need (roles states : List Nat) (rest : Nat) : Nat :=
    if role ∉ roles then Code.MBX_NOT_PERMITTED else if st ∉ states then Code.MBX_STATE_CONFLICT else rest
  if 6 ≤ act then Code.MBX_FORMAT_INVALID
  else if act = 1 then
    need [0] [0] (if !ed448Key (s.fld Reg.SEC_TENANT_KEY_KEY p) then Code.SEC_CRED_INVALID
      else if s.layoutFits p then 0 else Code.MBX_STATE_CONFLICT)
  else if act = 2 then
    need [0] [2] (if !s.layoutFits p ∨ (!s.onlyGrows p ∧ (s.job p).num ≠ 0) ∨ s.applyBreaksMargin p then Code.MBX_STATE_CONFLICT else 0)
  else if act = 3 then need [1] [2] (if s.sec.unlocked.isSome then Code.MBX_STATE_CONFLICT else 0)
  else if act = 4 then (if role = 0 ∧ st = 3 then Code.MBX_NOT_PERMITTED else need [0, 1] [2, 3] 0)
  else if act = 5 then need [0] [3] (if s.fuseSpent 3 then Code.SEC_FUSE_EXHAUSTED else 0)
  else 0

/-- Why a transfer of ownership is refused, or 0 (R431). -/
def State.transferRefusal (s : State) (role : Nat) : Nat :=
  if role ≠ 0 then Code.MBX_NOT_PERMITTED
  else if (List.range 9).any fun p => s.fld Reg.SEC_PITCH_CTL_STATE p != 0 then Code.MBX_STATE_CONFLICT
  else if s.fuseSpent 0 then Code.SEC_FUSE_EXHAUSTED
  else if !ed448Key (s.fld Reg.SEC_OWNER_NEXT_KEY) then Code.SEC_CRED_INVALID
  else 0

/-- Why a debug unlock is refused, or 0 (R440). -/
def State.unlockRefusal (s : State) (role : Nat) : Nat :=
  if role ≠ 0 then Code.MBX_NOT_PERMITTED
  else if (List.range 9).any s.sealed then Code.SEC_SEALED
  else if s.fuseSpent 1 then Code.SEC_FUSE_EXHAUSTED
  else if !(s.stewards.map keyDigest).contains (s.fld Reg.SEC_DEBUG_CTL_STEWARD) then Code.SEC_CRED_INVALID
  else 0

/-- The entry and the event of a refusal at a fuse limit (R444). -/
def State.fuseRefused (s : State) (byte p role session tod : Nat) : State :=
  (s.logAhead 0x0021 role p (s.tenancy p) session tod [byte, bits s.fuseWord (8 * byte + 7) (8 * byte), 1] .note none).event
    Code.SEC_FUSE_EXHAUSTED 0 locSecurity (secDetail p byte s.dueCheckpoint.logTrim.logSeq)

/-- A FUSE_BURN entry with the change that burns the fuse (R445). -/
def State.fuseAhead (s : State) (byte p role session tod : Nat) (c : Change) (reply : Option (Nat × Nat × Nat)) : State :=
  s.logAhead 0x0021 role p (s.tenancy p) session tod [byte, bits s.fuseWord (8 * byte + 7) (8 * byte) + 1, 0] c reply

/-- Whether a change already waits for flash: later ones wait for it (R437, R379). -/
def State.changing (s : State) : Bool := s.sec.log.ahead.any fun a => decide (a.change ≠ .note ∧ a.change ≠ .checkpoint)

/-- The PITCH_ACTION entry of an action, with its change. -/
def State.pitchEntry (s : State) (p act role session tod : Nat) (c : Change) (reply : Option (Nat × Nat × Nat)) : State :=
  s.logAhead 0x0030 role p (if act = 1 then s.tenancy p + 1 else s.tenancy p) session tod
    [act, s.appliedWord p, s.layoutWord p, keyDigest (s.fld Reg.SEC_TENANT_KEY_KEY p)] c reply

/-- An ACTION of a pitch asked for (R433): its refusal, or 0 with its entry on the way to flash. -/
def State.askAction (s : State) (p act role session tod : Nat) (reply : Option (Nat × Nat × Nat)) : Nat × State :=
  let code := s.actionRefusal p act role
  if code = Code.SEC_FUSE_EXHAUSTED then (code, s.fuseRefused 3 p role session tod)
  else if code ≠ 0 then (code, s)
  else if act = 0 then (0, s)
  else if s.sec.log.refuses then (Code.SEC_LOG_UNAVAILABLE, s.event Code.SEC_LOG_UNAVAILABLE 0 locSecurity (secDetail p act s.logSeq))
  else
    let s1 := s.setFld Reg.SEC_PITCH_CTL_ACTION act p
    if act = 5 then (0, s1.fuseAhead 3 p role session tod (.forceRelease p) reply)
    else (0, s1.pitchEntry p act role session tod
      (if act = 1 then .assign p else if act = 2 then .apply p else if act = 3 then .seal p else .release p) reply)

/-- A transfer of ownership asked for (R431). -/
def State.askTransfer (s : State) (role session tod : Nat) (reply : Option (Nat × Nat × Nat)) : Nat × State :=
  let code := s.transferRefusal role
  if code = Code.SEC_FUSE_EXHAUSTED then (code, s.fuseRefused 0 0 role session tod)
  else if code ≠ 0 then (code, s)
  else if s.sec.log.refuses then (Code.SEC_LOG_UNAVAILABLE, s.event Code.SEC_LOG_UNAVAILABLE 0 locSecurity (secDetail 0 1 s.logSeq))
  else
    let s1 := (s.setFld Reg.SEC_OWNER_CTL_ACTION 1).logAhead 0x0020 role 0 0 session tod
      [keyDigest s.sec.ownerKey, keyDigest (s.fld Reg.SEC_OWNER_NEXT_KEY)] .note none
    (0, s1.fuseAhead 0 0 role session tod .ownerTransfer reply)

/-- A debug unlock asked for (R440), or the unlock ended (R441). -/
def State.askUnlock (s : State) (on : Bool) (role session tod : Nat) (reply : Option (Nat × Nat × Nat)) : Nat × State :=
  let digest := s.fld Reg.SEC_DEBUG_CTL_STEWARD
  let code := if on then s.unlockRefusal role else if role = 0 then 0 else Code.MBX_NOT_PERMITTED
  if code = Code.SEC_FUSE_EXHAUSTED then (code, s.fuseRefused 1 0 role session tod)
  else if code ≠ 0 then (code, s)
  else if s.sec.unlocked.isSome = on then (0, s)
  else if s.sec.log.refuses then (Code.SEC_LOG_UNAVAILABLE, s.event Code.SEC_LOG_UNAVAILABLE 0 locSecurity (secDetail 0 1 s.logSeq))
  else if on then (0, (s.setFld Reg.SEC_DEBUG_FLAGS_UNLOCK 1).fuseAhead 1 0 role session tod (.unlock digest) reply)
  else (0, s.logAhead 0x0060 role 0 0 session tod [s.sec.unlocked.getD 0, 0] .lock reply)

/-! What each change does (R431, R433-R435, R440, R441, R443). -/

/-- ASSIGN takes effect: STATE assigning, TENANCY one higher, the resources taken; the key follows (log 98). -/
def State.beginAssign (s : State) (p : Nat) : State :=
  let s1 := s.endSessions fun x => x.role == 1 && x.pitch == p
  let s2 := (s1.setFld Reg.SEC_PITCH_CTL_STATE 1 p).setFld Reg.SEC_PITCH_CTL_TENANCY (s1.fld Reg.SEC_PITCH_CTL_TENANCY p + 1) p
  let s3 := s2.setPitchRec p .empty
  (s3.takeCamps p).takeMemory p

/-- The HBM key of an assignment is drawn, and its resources are zeroed and reset. -/
def State.keyAssign (s : State) (p : Nat) : State :=
  let (key, s1) := s.draw (2 ^ 512)
  let s2 := s1.setPitchRec p { s1.pitchRec p with hbmKey := some key }
  (((s2.campsOf p).foldl State.freshCamp s2).freshPitch p |>.splitBudget p).finishAssign p

/-- APPLY takes effect (R434). -/
def State.applyLayout (s : State) (p : Nat) : State :=
  let old := (s.mapOf p).camps
  let s1 := s.takeCamps p
  let gained := (s1.campsOf p).filter fun c => !old.testBit c
  let s2 := gained.foldl State.freshCamp s1
  ((s2.giveBackMemory p (s.fld Reg.SEC_PITCH_LAYOUT_PAGES p) (s.slabsAsked p 0) (s.slabsAsked p 1)).takeMemory p).splitBudget p

/-- Release begins (R435): jobs and sessions end. -/
def State.beginRelease (s : State) (p : Nat) : State :=
  ((s.setFld Reg.SEC_PITCH_CTL_STATE 4 p).promoteAll.endSessions fun x => x.role == 1 && x.pitch == p).windDown p

/-- Release ends (R435): keys destroyed, memory free, camps, guylines and budget returned, the ring cleared. -/
def State.finishRelease (s : State) (p : Nat) : State :=
  let s1 := (s.rel.moved.filter fun m => (s.mapOf p).camps.testBit m.1).foldl (fun (t : State) m => t.moveBack m.1) (s.closeJob p)
  let s2 := s1.giveBackMemory p 0 0 0
  let s3 := (s2.campsOf p).foldl (fun (t : State) c => t.setBudget c 0) s2
  let s4 := ((s3.setPitchRec p .empty).setFld Reg.GOV_PITCH_BUDGET_BUDGET 0 p).setFld Reg.SEC_PITCH_CTL_STATE 0 p
  let r := sget Ring.empty s4.evs.rings p
  let s5 : State := { s4 with evs := { s4.evs with rings := sset Ring.empty s4.evs.rings p { first := r.first + r.recs.length, recs := [] } } }
  (s5.event Code.SEC_PITCH_RELEASED 0 locSecurity (secDetail p 4 0)).replyWaits (.job p) 0 fun _ => []

/-- Ownership passes (R431, log 105). -/
def State.transferOwner (s : State) : State :=
  let (key, s1) := s.draw (2 ^ 512)
  let s2 := ({ s1 with sec := { s1.sec with ownerKey := s1.fld Reg.SEC_OWNER_NEXT_KEY } } : State).endSessions fun _ => true
  let s3 := s2.setPitchRec 0 { s2.pitchRec 0 with hbmKey := some key }
  let s4 := (s.pagesHeld 0).foldl (fun (t : State) n => (t.zeroMemory (n * 2 ^ 21) (2 ^ 21)).keyPage n key) s3
  (s4.setFld Reg.SEC_OWNER_CTL_ACTION 0).event Code.SEC_OWNER_CHANGED 0 locSecurity (secDetail 0 1 0)

/-- The entry of a number. -/
def State.entryOf (s : State) (seq : Nat) : LogEntry :=
  (s.sec.log.entries.find? fun e => decide (e.seq = seq)).getD
    { seq := seq, kind := 0, actor := actorSecurity, pitch := 0, tenancy := 0, session := 0, tod := 0, body := [] }

/-- A reply that a change carries. -/
def State.replyTo (s : State) (r : Option (Nat × Nat × Nat)) (status : Nat) (body : Bytes) : State :=
  match r with
  | none => s
  | some (n, seq, op) => s.reply n seq op status body

/-- An action that was in force when it was asked for is checked again as it takes effect: a job may have started since (R434). -/
def State.stillAllowed (s : State) (p act role : Nat) : Bool := s.actionRefusal p act role == 0

/-- PAGE_ZEROING_DONE and SLAB_ZEROING_DONE: the next page, or slab of a die, of those joining a pitch is zeroed and mapped (R314,
R330). -/
def State.pageJoins (s : State) (p : Nat) : State :=
  let r := s.pitchRec p
  match r.joiningPages with
  | [] => s
  | n :: rest =>
    if r.hbmKey.isNone ∨ s.hbmAsleep then s
    else (((s.zeroMemory (n * 2 ^ 21) (2 ^ 21)).keyPage n (r.hbmKey.getD 0)).setPitchRec p { r with
      map := { r.map with pages := r.map.pages ++ [n] }, joiningPages := rest }).finishAssign p

/-- The slab of a die that joins next. -/
def State.slabJoins (s : State) (p die : Nat) : State :=
  let r := s.pitchRec p
  match r.joiningSlabs.find? fun n => decide (n / 32 = die) with
  | none => s
  | some n =>
    if r.hbmKey.isNone ∨ s.fld Reg.LNT_STATUS_STATE = 3 then s
    else
      let m := if die = 0 then { r.map with slabs0 := r.map.slabs0 ++ [n] } else { r.map with slabs1 := r.map.slabs1 ++ [n] }
      ((s.zeroMemory (shelfBase + n * 2 ^ 26) (2 ^ 26)).setPitchRec p { r with map := m, joiningSlabs := r.joiningSlabs.filter (· ≠ n) }).finishAssign p

end Sys2Proof.Machine
end

