-- ==== Sys2Proof/Machine/Control.lean ====
section
/-! DEFINITION. Control space as software sees it (R36, R38, R384, R438): the registers at an address, who may see and write them, what
they read as, and what a write does. -/
namespace Sys2Proof.Machine

open Sys2Proof

/-! Ports held and trained (R343, R383). -/

/-- A host port goes down (R368). -/
def State.hostDown (s : State) (n : Nat) (st : Nat) : State :=
  let was := s.fld Reg.HE_STATUS_STATE (36 + n)
  let s1 := (s.setFld Reg.HE_STATUS_STATE st (36 + n)).setFld Reg.HE_STATUS_LANES_OK 0 (36 + n)
  if was = 2 then s1.event Code.HOST_LINK_DOWN 0 (locHost n) else s1

/-- A port held down: Tideway 0-35, host 36-37. -/
def State.holdPort (s : State) (n : Nat) : State :=
  if 36 ≤ n then (s.setHostPort (n - 36) { s.hostPort (n - 36) with held := true }).hostDown (n - 36) 0
  else
    let s1 := s.setFld Reg.TWY_PORT_CFG_ENABLE 0 n
    if s.fld Reg.TWY_PORT_STATUS_STATE n = 0 then s1 else s1.portDown n

/-- A port retrained. -/
def State.trainPort (s : State) (n : Nat) : State :=
  if 36 ≤ n then if (s.hostPort (n - 36)).held then s else s.hostDown (n - 36) 1
  else if s.fld Reg.TWY_PORT_CFG_ENABLE n = 0 then s
  else if s.fld Reg.TWY_PORT_STATUS_STATE n = 0 then s.retryPort n
  else if s.fld Reg.TWY_PORT_STATUS_STATE n = 2 then s.retrainPort n
  else s

/-- A port released from being held down. -/
def State.releasePort (s : State) (n : Nat) : State :=
  if 36 ≤ n then (s.setHostPort (n - 36) { s.hostPort (n - 36) with held := false }).trainPort n
  else (s.setFld Reg.TWY_PORT_CFG_ENABLE 1 n).trainPort n

/-! Addresses (R36). -/

/-- How many instances a block has. -/
def blockInstances (b : Nat) : Nat := [128, 64, 16, 9, 512, 2, 38, 32, 1].getD b 0

/-- Whether an instance of a block holds a register: pitch 0 has only its own, the two kinds of port theirs. -/
def instanceHolds (f : Fld) (inst : Nat) : Bool :=
  decide (inst < blockInstances f.block)
    && (if f.block = 3 ∧ inst = 0 then
        (decide (Reg.TPL_USED_SIZE.off ≤ f.off) && decide (f.off ≤ Reg.TPL_STAT_SAT_HELD_SAT.off)) || f.off == Reg.LNT_PITCH_ENERGY.off
      else if f.block = 6 then decide (36 ≤ inst) == decide (Reg.HE_STATUS_STATE.off ≤ f.off)
      else true)

/-- A 64-bit word of a register: its fields, its instance and member, and which word of the register. -/
structure RegWord where
  fields : List Fld
  inst : Nat
  m : Nat
  word : Nat
  deriving DecidableEq, Repr

/-- The register word at an address of control space, if one is there. -/
def regAt (a : Nat) : Option RegWord :=
  if a < ctlBase ∨ ctlBase + 2 ^ 36 ≤ a ∨ a % 8 ≠ 0 then none
  else
    let r := a - ctlBase
    let b := r / 2 ^ 32
    let inst := r / 2 ^ 16 % 2 ^ 16
    let off := r % 2 ^ 16
    match Reg.table.filter fun f => f.block == b && decide (f.off ≤ off) && decide (off < f.off + 8 * f.words * f.members) && instanceHolds f inst with
    | [] => none
    | f :: rest => some { fields := f :: rest, inst := inst, m := (off - f.off) / (8 * f.words), word := (off - f.off) / 8 % f.words }

/-- Whether a register word belongs to the register of a field. -/
def RegWord.is (r : RegWord) (f : Fld) : Bool := r.fields.any fun g => g.block == f.block && g.off == f.off

/-! Who sees what (R438, R486, R487, R501, R305). -/

/-- What a session may do with a register: nothing, read it, read it and clear its SAT bits, read it and write its RW and W1C fields. -/
inductive Sight where
  | hidden | read | sat | full
  deriving DecidableEq, Repr

/-- The pitch that owns the unit of an instance. -/
def State.ownerOf (s : State) (block inst : Nat) : Nat :=
  if block = 0 then s.campPitch (inst / 8)
  else if block = 1 then s.campPitch (inst / 4)
  else if block = 2 then s.campPitch inst
  else if block = 3 then inst
  else if block = 7 then ((List.range 9).find? fun p => (s.mapOf p).guys.testBit inst).getD 0
  else 0

/-- The role number that stands for firmware's own acts. -/
def roleFirmware : Nat := 4

/-- Firmware as the one who acts. -/
def Session.firmware : Session := { Session.closed with role := roleFirmware }

/-- What a session may do with the register of a field (log 101). -/
def State.sight (s : State) (x : Session) (f : Fld) (inst : Nat) : Sight :=
  let tenant (v : Sight) : Sight := if x.role = 1 ∧ s.ownerOf f.block inst = x.pitch then v else .hidden
  let warden (v w : Sight) : Sight := if x.role = 0 then v else w
  let steward (v w : Sight) : Sight := if x.role = 2 then v else w
  let debug (w : Sight) : Sight := if x.role = 2 ∧ s.sec.unlocked = some x.cred then .read else w
  let o := f.off
  if x.role = roleFirmware then .full
  else match f.block with
  | 0 => if o < Reg.FEN_STATE_ENG_STATE.off then tenant .sat
    else if o < Reg.REL_RESIDUE.off then warden .read (tenant .read) else warden .read (tenant .sat)
  | 1 => tenant .full
  | 2 => if o < Reg.UPD_NONFINITE.off then tenant .read
    else if o = Reg.FEN_STATE_CAMP_STATE.off then warden .read (tenant .read)
    else if o = Reg.HB.off then warden .read .hidden
    else if o < Reg.TAL_WAITERS.off ∧ Reg.TAL_SCOPE_SHARED.off ≤ o then tenant .read else tenant .full
  | 3 =>
    if o ∈ [Reg.STH_BASE_BASE.off, Reg.STH_GRANULES.off, Reg.STH_FIRST_RESERVE.off, Reg.CMT_CFG_VOTE_TO.off, Reg.CMT_STRIDE_STRIDE.off] then tenant .read
    else if o < Reg.GUY_OVERRUN.off then tenant .full
    else if o < Reg.TPL_USED_SIZE.off then tenant .sat
    else if o < Reg.TWY_SHARE_SHARE.off then if inst = 0 then warden .sat .hidden else tenant .sat
    else if o = Reg.TWY_SHARE_SHARE.off then warden .full (tenant .read)
    else if o < Reg.GOV_PITCH_BUDGET_BUDGET.off then tenant .sat
    else if o = Reg.GOV_PITCH_BUDGET_BUDGET.off then warden .full (tenant .read)
    else if o < Reg.LNT_PITCH_ENERGY.off then tenant .full
    else if o = Reg.LNT_PITCH_ENERGY.off then if inst = 0 then warden .read .hidden else tenant .read
    else if o < Reg.SEC_PITCH_CTL_STATE.off then warden .read (tenant .read)
    else if o = Reg.SEC_PITCH_CTL_STATE.off then warden .full (tenant .full)
    else if o < Reg.BCN_CFG_TABLE.off then warden .full (tenant .read)
    else tenant .full
  | 4 => if Reg.HBM_TG_CFG_GO.off ≤ o then warden .full (debug .hidden) else warden .sat (debug .hidden)
  | 5 => warden .sat (debug .hidden)
  | 6 => if inst < 36 then warden .full (debug .hidden) else warden .full (steward .read .hidden)
  | 7 => warden .full .hidden
  | 8 =>
    if o = Reg.FB_CFG_RESEND.off then warden .read .hidden
    else if o < Reg.TWY_DEV_ID_ID.off then warden .sat (debug .hidden)
    else if o < Reg.MBX_CFG_IDLE_S.off then warden .full (debug .hidden)
    else if o < Reg.GOV_POOL_POOL.off then warden .full (steward .read .hidden)
    else if o < Reg.LNT_STATUS_STATE.off then warden .full .hidden
    else if o = Reg.LNT_STATUS_STATE.off then warden .full .read
    else if o < Reg.SEC_OWNER_KEY_KEY.off then warden .full (steward .read .hidden)
    else if o = Reg.SEC_OWNER_KEY_KEY.off then .read
    else if o < Reg.SEC_FUSE_FLOOR.off then warden .full .hidden
    else if o < Reg.SEC_REFUSED.off then .read
    else if o < Reg.FEN_CFG_SELFTEST_H.off then warden .full .hidden
    else if o < Reg.STU_STATUS_PHASE.off then warden .full (steward .read .hidden)
    else warden .sat .read
  | _ => .hidden

/-- Whether a sight lets a field be written (R384). -/
def Sight.writes (v : Sight) (f : Fld) : Bool :=
  match v with
  | .full => f.acc == .rw || f.acc == .w1c
  | .sat => f.acc == .w1c
  | _ => false

/-! What a register reads as. -/

/-- The slabs' owners on a die, 32 bits for eight slabs (R335): the owner of each as 4 bits. -/
def State.slabOwnerWord (s : State) (m : Nat) : Nat :=
  (List.range 8).foldl (fun n i => n ||| s.slabOwner (8 * m + i) <<< (4 * i)) 0

/-- STR_STATUS.INFLIGHT and its neighbours as one number (R190). -/
def State.slotField (s : State) (f : Fld) (k : Nat) : Option Nat :=
  if f = Reg.STR_STATUS_INFLIGHT ∨ f = Reg.STR_STATUS_QUEUED ∨ f = Reg.STR_STATUS_CHAIN ∨ f = Reg.STR_STATUS_STATE then
    some (bits (s.strStatus (s.slotFor (k / 4) (k % 4))) (f.lo + f.width - 1) f.lo)
  else if f = Reg.STR_POS_INDEX then some (s.slot (s.slotFor (k / 4) (k % 4))).oldest
  else none

/-- A field as it reads: what is computed from elsewhere, nothing of a secret, else what is kept. -/
def State.view (s : State) (f : Fld) (inst m : Nat) : Nat :=
  if f.acc = .wo ∨ f = Reg.SEC_FAB0_KEY_KEY then 0
  else match s.slotField f inst with
  | some v => v
  | none =>
    if f = Reg.HBM_PC_STATUS_POISON_USED then s.poisonUsed inst
    else if f = Reg.TAL_WAITERS then (s.sync.waits.filter fun w => decide (w.camp = inst)).length
    else if f = Reg.TWY_SHARE_SEALED then ofBool (s.fld Reg.SEC_PITCH_CTL_STATE inst == 3)
    else if f = Reg.TPL_USED_USED then s.poolUsed inst
    else if f = Reg.TPL_USED_SIZE then s.poolSize inst
    else if f = Reg.SHF_SLAB_OWNER_OWNER then s.slabOwnerWord m
    else if f = Reg.SEC_OWNER_KEY_KEY then s.sec.ownerKey
    else if f = Reg.SEC_LOG_HEAD_H then s.logHead
    else if f = Reg.SEC_DEBUG_FLAGS_UNLOCKED then ofBool s.sec.unlocked.isSome
    else if f = Reg.MBX_STATUS_SESSIONS then (s.host.sessions.filter fun e => decide (e.2.role ≠ 3)).length
    else s.fld f inst m

/-- The 64-bit word of a register. -/
def State.readWord (s : State) (r : RegWord) : Nat :=
  bits (r.fields.foldl (fun n f => n ||| s.view f r.inst r.m <<< f.lo) 0) (64 * r.word + 63) (64 * r.word)

/-- REG_READ of one address (R384): its value and 0, or zero and 1 where the session may not see it. -/
def State.readReg (s : State) (x : Session) (a : Nat) : Nat × Nat :=
  match regAt a with
  | none => (0, 1)
  | some r => if r.fields.any fun f => s.sight x f r.inst != .hidden then (s.readWord r, 0) else (0, 1)

/-! What a write does. -/

/-- A field with the part of it that a word covers replaced. -/
def putWord (f : Fld) (word old value : Nat) : Nat :=
  let lo := max f.lo (64 * word)
  let hi := min (f.lo + f.width) (64 * word + 64)
  if hi ≤ lo then old else setBits old (hi - 1 - f.lo) (lo - f.lo) (bits value (hi - 1 - 64 * word) (lo - 64 * word))

/-- A W1C field written: each bit set clears its flag and the counter behind it (R14); a sticky bit has no counter. -/
def State.writeOnes (s : State) (f : Fld) (inst m v : Nat) : State :=
  let cs := Ctr.all.filter fun c => c.sat = f
  let s1 := s.setFld f (s.fld f inst m &&& (2 ^ f.width - 1 - v % 2 ^ f.width)) inst m
  cs.foldl (fun (t : State) c => (List.range c.cnt.members).foldl (fun (t : State) i =>
    let (b, k) := c.flag i
    if k = m ∧ v.testBit b then t.clearSat c inst i else t) t) s1

/-- The writable fields of a word written. -/
def State.putFields (s : State) (x : Session) (r : RegWord) (value : Nat) : State :=
  (r.fields.filter fun f => (s.sight x f r.inst).writes f).foldl (fun (t : State) f =>
    if f.acc = .w1c then t.writeOnes f r.inst r.m (bits value (f.lo + f.width - 1 - 64 * r.word) (f.lo - 64 * r.word))
    else t.setFld f (putWord f r.word (t.fld f r.inst r.m) value) r.inst r.m) s

/-- A bit range of a written word. -/
def wf (value : Nat) (f : Fld) : Nat := bits value (f.lo + f.width - 1) f.lo

/-- Whether any job runs. -/
def State.anyJob (s : State) : Bool := (List.range 9).any fun p => (s.job p).num != 0

/-- Every pitch's budget split anew. -/
def State.splitBudgets (s : State) : State := ((List.range 9).filter (· ≠ 0)).foldl State.splitBudget s

/-- The registers that a seal holds (R436), with the pitch whose seal it is. -/
def State.sealHolds (s : State) (r : RegWord) : Option Nat :=
  if r.is Reg.SEC_PITCH_LAYOUT_CAMPS ∨ r.is Reg.SEC_TENANT_KEY_KEY ∨ r.is Reg.GOV_PITCH_BUDGET_BUDGET ∨ r.is Reg.TWY_SHARE_SHARE then some r.inst
  else if r.is Reg.GUY_CFG_PITCH then some (s.ownerOf 7 r.inst)
  else none

/-- Whether a register that is written only between jobs (R191, R240, R284, R333) belongs to a job that runs. -/
def State.jobHolds (s : State) (r : RegWord) : Bool :=
  ((r.is Reg.STH_BASE_BASE || r.is Reg.STH_GRANULES || r.is Reg.STH_FIRST_RESERVE || r.is Reg.CMT_CFG_VOTE_TO || r.is Reg.CMT_STRIDE_STRIDE)
      && (s.job r.inst).num != 0)
    || (r.is Reg.TAL_SCOPE_SHARED && (s.job (s.campPitch r.inst)).num != 0)
    || ((r.is Reg.HBM_RAS_CFG_RETIRE_MAX || r.is Reg.SHF_CFG_SCRUB_SECONDS) && s.anyJob)

/-- Whether firmware re-routes around a port that is down, which it may at any time (R363). -/
def State.anyPortDown (s : State) : Bool := (List.range 36).any fun n => s.fld Reg.TWY_PORT_STATUS_STATE n == 0

/-- Why a write of a plain register is refused, given the state after it, or 0 (R286, R353, R363, R401, R404, R426, R427, R456, R487). -/
def State.writeRefusal (s t : State) (x : Session) (r : RegWord) (value : Nat) : Nat :=
  let p := r.inst
  let changes := s.readWord r != t.readWord r
  if r.is Reg.SEC_PITCH_LAYOUT_CAMPS ∧ (262144 < t.fld Reg.SEC_PITCH_LAYOUT_PAGES p ∨ 32 < t.fld Reg.SEC_PITCH_LAYOUT_SLABS_0 p
      ∨ 32 < t.fld Reg.SEC_PITCH_LAYOUT_SLABS_1 p) then Code.MBX_FORMAT_INVALID
  else if r.is Reg.GOV_PITCH_BUDGET_BUDGET ∧ t.fld Reg.GOV_POOL_POOL < t.otherBudgets 0 then Code.MBX_STATE_CONFLICT
  else if (r.is Reg.GOV_PITCH_BUDGET_BUDGET ∨ r.is Reg.GOV_JOB_LEND_STEP
      ∨ (r.is Reg.GOV_PITCH_CFG_LEND_JOB ∧ s.fld Reg.GOV_PITCH_CFG_LEND_JOB p ≠ t.fld Reg.GOV_PITCH_CFG_LEND_JOB p)) ∧ !t.marginOk then
    Code.MBX_STATE_CONFLICT
  else if r.is Reg.GOV_SHARE_FWD ∧ t.fld Reg.GOV_SHARE_FWD p + t.fld Reg.GOV_SHARE_BWD p + t.fld Reg.GOV_SHARE_UPD p + t.fld Reg.GOV_SHARE_GEN p
      + 4 * t.fld Reg.GOV_SHARE_PEG p ≠ 256 then Code.MBX_FORMAT_INVALID
  else if r.is Reg.GOV_PITCH_CFG_CLK_CEIL ∧ t.fld Reg.GOV_PITCH_CFG_CLK_FLOOR p < t.fld Reg.GOV_PITCH_CFG_CLK_CEIL p then Code.MBX_FORMAT_INVALID
  else if r.is Reg.LNT_THERM_HARD ∧ !(decide (wf value Reg.LNT_THERM_STEP_LO < wf value Reg.LNT_THERM_STEP_HI)
      && decide (wf value Reg.LNT_THERM_STEP_HI < wf value Reg.LNT_THERM_HARD) && decide (wf value Reg.LNT_THERM_HARD < 110)) then
    Code.MBX_FORMAT_INVALID
  else if r.is Reg.BCN_CFG_TABLE ∧ bits value 21 16 ≠ 0 then Code.MBX_FORMAT_INVALID
  else if r.is Reg.TWY_SHARE_SHARE ∧ 252 < (((List.range 9).filter (· ≠ 0)).map fun q => t.fld Reg.TWY_SHARE_SHARE q).sum then Code.MBX_STATE_CONFLICT
  else if (r.is Reg.STH_BASE_BASE ∨ r.is Reg.CMT_STRIDE_STRIDE) ∧ bits value 20 0 ≠ 0 then Code.MBX_FORMAT_INVALID
  else if s.jobHolds r ∧ changes then Code.MBX_STATE_CONFLICT
  else if r.is Reg.TWY_SHARE_SHARE ∧ changes ∧ (s.job p).num ≠ 0 then Code.MBX_STATE_CONFLICT
  else if r.is Reg.GUY_CFG_PITCH ∧ (s.job (s.ownerOf 7 p)).num ≠ 0 then Code.MBX_STATE_CONFLICT
  else if (r.is Reg.TWY_DEV_ID_ID ∨ (r.is Reg.TWY_ROUTE_C0 ∧ !(decide (x.role = roleFirmware) && s.anyPortDown))
      ∨ (r.is Reg.TWY_PORT_CFG_DATELINE ∧ s.fld Reg.TWY_PORT_CFG_DATELINE p ≠ t.fld Reg.TWY_PORT_CFG_DATELINE p)) ∧ changes ∧ s.anyJob then
    Code.MBX_STATE_CONFLICT
  else 0

/-- What follows from a plain write beyond the fields themselves. -/
def State.afterWrite (s t : State) (r : RegWord) (value : Nat) : State :=
  if r.is Reg.GUY_CFG_PITCH then s.writeGuyCfg r.inst (value % 2 ^ 29)
  else if r.is Reg.TWY_PORT_CFG_ENABLE then
    let d := s.setFld Reg.TWY_PORT_CFG_DATELINE (wf value Reg.TWY_PORT_CFG_DATELINE) r.inst
    if wf value Reg.TWY_PORT_CFG_ENABLE = s.fld Reg.TWY_PORT_CFG_ENABLE r.inst then d
    else if wf value Reg.TWY_PORT_CFG_ENABLE = 0 then d.holdPort r.inst else d.releasePort r.inst
  else if r.is Reg.HBM_TG_CFG_GO then
    let u := t.setFld Reg.HBM_TG_CFG_GO (s.fld Reg.HBM_TG_CFG_GO r.inst) r.inst
    if wf value Reg.HBM_TG_CFG_GO = 1 ∧ s.fld Reg.HBM_TG_CFG_GO r.inst = 0 then u.tgGo r.inst else u
  else if r.is Reg.SEC_TENANT_KEY_KEY then
    if s.fld Reg.SEC_PITCH_CTL_STATE r.inst = 2 then t.endSessions fun y => y.role == 1 && y.pitch == r.inst else t
  else if r.is Reg.TWY_SHARE_SHARE then t.promoteAll
  else if r.is Reg.GOV_PITCH_BUDGET_BUDGET ∨ r.is Reg.GOV_JOB_LEND_STEP ∨ r.is Reg.GOV_DEV_CFG_JOB_LEND_EN ∨ r.is Reg.GOV_PITCH_CFG_LEND_JOB then
    t.splitBudgets
  else if r.is Reg.LNT_STATUS_STATE then t.setAlert
  else t

/-- The ACTOR code of a session (R446). -/
def Session.actor (x : Session) : Nat := x.role

/-- SEC_FAB0_KEY written whole (R443): refused when installed before, else its KEY_EVENT entry is on the way to flash. -/
def State.askFab0 (s : State) (key session tod : Nat) (reply : Option (Nat × Nat × Nat)) : Nat × State :=
  if s.sec.fabDigests.contains (fabricDigest key) then (Code.MBX_STATE_CONFLICT, s)
  else if s.sec.log.refuses then (Code.SEC_LOG_UNAVAILABLE, s.event Code.SEC_LOG_UNAVAILABLE 0 locSecurity (secDetail 0 0 s.logSeq))
  else (0, s.logKeys 0 tod session 1 (.fab0Key key) reply [keyFab0])

/-- A write at an address by a session (R36, R384, R436, R438): a status and the state. What an ACTION, an unlock or a key begins goes on
once its entry is in flash, and answers `reply` then. -/
def State.writeReg (s : State) (x : Session) (session tod a value : Nat) (reply : Option (Nat × Nat × Nat)) : Nat × State :=
  match regAt a with
  | none => (Code.MBX_NOT_PERMITTED, s)
  | some r =>
    let v := value % 2 ^ 64
    if !r.fields.any fun f => (s.sight x f r.inst).writes f then (Code.MBX_NOT_PERMITTED, s)
    else if r.is Reg.SEC_PITCH_CTL_ACTION then s.askAction r.inst (v % 16) x.role session tod reply
    else if r.is Reg.SEC_OWNER_CTL_ACTION then
      if v % 16 = 0 then (0, s) else if v % 16 = 1 then s.askTransfer x.role session tod reply else (Code.MBX_FORMAT_INVALID, s)
    else if r.is Reg.SEC_DEBUG_FLAGS_UNLOCK then s.askUnlock (v % 2 == 1) x.role session tod reply
    else
      let t := s.putFields x r v
      if r.is Reg.SEC_FAB0_KEY_KEY then
        if r.word = 3 then t.askFab0 (t.fld Reg.SEC_FAB0_KEY_KEY) session tod reply else (0, t)
      else
        let sealedBy : Option Nat := (s.sealHolds r).filter fun p =>
          s.sealed p && (r.is Reg.GOV_PITCH_BUDGET_BUDGET || s.readWord r != t.readWord r)
        if let some p := sealedBy then (Code.SEC_SEALED, s.bump Ctr.SEC_REFUSED 0 locSecurity (detail := secDetail p 0 0))
        else
          let code := s.writeRefusal t x r v
          if code ≠ 0 then (code, s)
          else (0, (s.afterWrite t r v).log 0x0040 x.actor (s.ownerOf (r.fields.headD Reg.HB).block r.inst) session tod [a, s.readWord r, v])

/-! Rows: writes of registers as they happen. A session number of 0 stands for firmware's own writes. -/

/-- Who acts, if the session is open and the module serves it. -/
def State.actorOf (s : State) (a : Actor) : Option Session :=
  if a.session = 0 then some .firmware else s.session a.session

/-- A register write as a row: refused ones leave what a refusal leaves; one that must wait for an earlier change is not yet done. -/
def State.actorWrites (s : State) (a : Actor) (f : State → Session → Nat × State) : State :=
  match s.actorOf a with
  | none => s
  | some x => if s.changing ∨ (s.logFull ∧ !s.sec.log.refuses) then s else (f s x).2

/-- REGISTER_WRITE (R36). -/
def execRegisterWrite (a : Actor) (addr value : Nat) (s : State) : Host.Outcome State Fault Refusal :=
  .next (s.actorWrites a fun t x => t.writeReg x a.session a.tod addr value none)

/-- SAT_BIT_CLEAR (R14): 1 written to SAT bits at an address. -/
def execSatBitClear (a : Actor) (addr value : Nat) (s : State) : Host.Outcome State Fault Refusal :=
  match regAt addr with
  | none => .next s
  | some r => if r.fields.any fun f => f.acc = .w1c then .next (s.actorWrites a fun t x => t.writeReg x a.session a.tod addr value none) else .next s

/-- GUY_CFG_WRITE (R290). -/
def execGuyCfgWrite (a : Actor) (guy : Guyline) (value : BitVec 32) (s : State) : Host.Outcome State Fault Refusal :=
  .next (s.actorWrites a fun t x => t.writeReg x a.session a.tod (Reg.GUY_CFG_PITCH.addr guy 0) value.toNat none)

/-- HBM_TG_GO (R327): GO set with the settings beside it. -/
def execHbmTgGo (a : Actor) (n : PseudoCh) (pattern : Fin 4) (checkOnly : Bool) (s : State) : Host.Outcome State Fault Refusal :=
  .next (s.actorWrites a fun t x => t.writeReg x a.session a.tod (Reg.HBM_TG_CFG_GO.addr n 0)
    (1 <<< 31 ||| ofBool checkOnly <<< 30 ||| pattern.val <<< 28) none)

/-- ASSIGN (R433). -/
def execAssign (a : Actor) (p : Fin 8) (s : State) : Host.Outcome State Fault Refusal :=
  .next (s.actorWrites a fun t x => t.askAction (p.val + 1) 1 x.role a.session a.tod none)

/-- APPLY (R434). -/
def execApply (a : Actor) (p : Fin 8) (s : State) : Host.Outcome State Fault Refusal :=
  .next (s.actorWrites a fun t x => t.askAction (p.val + 1) 2 x.role a.session a.tod none)

/-- Whether an actor may name a pitch in an ACTION: the Warden any, a Tenant its own. -/
def Session.names (x : Session) (p : Nat) : Bool := x.role != 1 || x.pitch == p

/-- SEAL (R433). -/
def execSeal (a : Actor) (p : Fin 8) (s : State) : Host.Outcome State Fault Refusal :=
  .next (s.actorWrites a fun t x => if x.names (p.val + 1) then t.askAction (p.val + 1) 3 x.role a.session a.tod none else (Code.MBX_NOT_PERMITTED, t))

/-- RELEASE (R435). -/
def execRelease (a : Actor) (p : Fin 8) (s : State) : Host.Outcome State Fault Refusal :=
  .next (s.actorWrites a fun t x => if x.names (p.val + 1) then t.askAction (p.val + 1) 4 x.role a.session a.tod none else (Code.MBX_NOT_PERMITTED, t))

/-- FORCE_RELEASE (R433, R445). -/
def execForceRelease (a : Actor) (p : Fin 8) (s : State) : Host.Outcome State Fault Refusal :=
  .next (s.actorWrites a fun t x => t.askAction (p.val + 1) 5 x.role a.session a.tod none)

/-- OWNER_TRANSFER (R431). -/
def execOwnerTransfer (a : Actor) (s : State) : Host.Outcome State Fault Refusal :=
  .next (s.actorWrites a fun t x => t.askTransfer x.role a.session a.tod none)

/-- DEBUG_UNLOCK (R440). -/
def execDebugUnlock (a : Actor) (s : State) : Host.Outcome State Fault Refusal :=
  .next (s.actorWrites a fun t x => t.askUnlock true x.role a.session a.tod none)

/-- DEBUG_LOCK (R441). -/
def execDebugLock (a : Actor) (s : State) : Host.Outcome State Fault Refusal :=
  .next (s.actorWrites a fun t x => t.askUnlock false x.role a.session a.tod none)

/-- A key register written whole by its words. -/
def State.writeKey (s : State) (x : Session) (f : Fld) (inst session tod key : Nat) : Nat × State :=
  (List.range f.words).foldl (fun (u : Nat × State) w =>
    if u.1 ≠ 0 then u else u.2.writeReg x session tod (f.addr inst 0 + 8 * w) (bits key (64 * w + 63) (64 * w)) none) (0, s)

/-- SEC_TENANT_KEY_WRITE (R434). -/
def execSecTenantKeyWrite (a : Actor) (p : Fin 8) (key : BitVec 456) (s : State) : Host.Outcome State Fault Refusal :=
  .next (s.actorWrites a fun t x => t.writeKey x Reg.SEC_TENANT_KEY_KEY (p.val + 1) a.session a.tod key.toNat)

/-- SEC_FAB0_KEY_WRITE (R443). -/
def execSecFab0KeyWrite (a : Actor) (key : BitVec 256) (s : State) : Host.Outcome State Fault Refusal :=
  .next (s.actorWrites a fun t x => t.writeKey x Reg.SEC_FAB0_KEY_KEY 0 a.session a.tod key.toNat)

end Sys2Proof.Machine
end

