-- ==== Sys2Proof/Machine/Serve.lean ====
section
/-! DEFINITION. The mailbox commands (R382-R391, R425, R449, R454, R455, R502-R504): what each does for the session that sent it, with
its status and reply body. -/
namespace Sys2Proof.Machine

open Sys2Proof

/-- The request being executed: its session's number and record, its SEQ, opcode and time of day. -/
structure Caller where
  n : Nat
  x : Session
  seq : Nat
  op : Nat
  tod : Nat
  deriving DecidableEq, Repr

/-- What a command comes to: a status and body now; a reply that waits for something (`none`: for a log-ahead entry that names it); or
nothing yet, because something it needs is not there. -/
inductive Served where
  | done (status : Nat) (body : Bytes) (s : State)
  | later (on : Option WaitOn) (s : State)
  | wait

/-- The request that a reply answers. -/
def Caller.to (q : Caller) : Option (Nat × Nat × Nat) := some (q.n, q.seq, q.op)

/-- A refused command. -/
def State.no (s : State) (code : Nat) : Served := .done code [] s

/-! Opcodes, roles and modes (R383). -/

/-- The opcode of a command. -/
def opcodeOf : Cmd → Nat
  | .close => 0x0002 | .ping _ => 0x0003 | .unlisted op => op
  | .memRead .. => 0x0101 | .memWrite .. => 0x0102 | .winOpen .. => 0x0103 | .winClose _ => 0x0104
  | .jobStart _ => 0x0201 | .jobSeed .. => 0x0202 | .jobEnd _ => 0x0203 | .jobStatus => 0x0204
  | .streamStart .. => 0x0301 | .streamResume .. => 0x0302 | .streamAbort .. => 0x0303 | .streamStatus .. => 0x0304 | .stashFree _ => 0x0305
  | .tallyRead .. => 0x0401 | .tallySet .. => 0x0402 | .guySet .. => 0x0403
  | .fence _ => 0x0501 | .unfence _ => 0x0502 | .unitState _ => 0x0503 | .commitStatus => 0x0504 | .commitSettle .. => 0x0505
  | .regRead _ => 0x0601 | .regWrite _ => 0x0602 | .eventRead _ => 0x0603 | .telemRead .. => 0x0604 | .portCmd .. => 0x0605
  | .powerState _ => 0x0606 | .hbmTest .. => 0x0607
  | .logRead _ => 0x0701 | .logCheckpoint => 0x0702 | .attest _ => 0x0703
  | .fwStage .. => 0x0801 | .fwVerify .. => 0x0802 | .fwActivate .. => 0x0803 | .fwStatus => 0x0804

/-- Every opcode of R383. -/
def listedOpcodes : List Nat :=
  [0x0001, 0x0002, 0x0003, 0x0101, 0x0102, 0x0103, 0x0104, 0x0201, 0x0202, 0x0203, 0x0204, 0x0301, 0x0302, 0x0303, 0x0304, 0x0305, 0x0401,
    0x0402, 0x0403, 0x0501, 0x0502, 0x0503, 0x0504, 0x0505, 0x0601, 0x0602, 0x0603, 0x0604, 0x0605, 0x0606, 0x0607, 0x0701, 0x0702, 0x0703,
    0x0801, 0x0802, 0x0803, 0x0804]

/-- The roles that may send an opcode: 0 Warden, 1 Tenant, 2 Steward. -/
def opcodeRoles (op : Nat) : List Nat :=
  if op ∈ [0x0002, 0x0003, 0x0601, 0x0603, 0x0604, 0x0701, 0x0703] then [0, 1, 2]
  else if op ∈ [0x0101, 0x0102, 0x0103, 0x0104, 0x0203, 0x0204, 0x0303, 0x0503, 0x0602] then [0, 1]
  else if op ∈ [0x0607, 0x0804] then [0, 2]
  else if op ∈ [0x0501, 0x0502, 0x0605, 0x0606, 0x0702, 0x0801, 0x0802, 0x0803] then [0]
  else [1]

/-- Whether an opcode is served in STANDBY. -/
def standbyOp (op : Nat) : Bool := [0x0001, 0x0002, 0x0003, 0x0603, 0x0604, 0x0606, 0x0701, 0x0703, 0x0804].contains op

/-- Whether an opcode is permitted in Bivouac mode. -/
def bivouacOp (op : Nat) : Bool :=
  [0x0001, 0x0002, 0x0003, 0x0503, 0x0601, 0x0603, 0x0604, 0x0607, 0x0701, 0x0702, 0x0703, 0x0801, 0x0802, 0x0803, 0x0804].contains op

/-- Why a command is refused before it is looked at: its opcode, its role, the module's mode; 0 for nothing (log 109). -/
def State.opcodeRefusal (s : State) (role op : Nat) : Nat :=
  if op ∉ listedOpcodes then Code.MBX_OPCODE_INVALID
  else if role ∉ opcodeRoles op then Code.MBX_NOT_PERMITTED
  else if s.fld Reg.MBX_STATUS_SERVER = 2 ∧ !standbyOp op then Code.MBX_NOT_AVAILABLE
  else if s.fld Reg.MBX_STATUS_SERVER = 3 ∧ !bivouacOp op then Code.MBX_NOT_AVAILABLE
  else 0

/-- Commands whose change needs an entry of a kind that is not log-ahead (R447). -/
def logsNow (op : Nat) : Bool := [0x0201, 0x0202, 0x0203, 0x0402, 0x0403, 0x0501, 0x0502, 0x0505, 0x0602, 0x0801, 0x0802].contains op

/-- Commands that may make a log-ahead entry: they wait for the change before them (R437, R379). -/
def logsAhead (op : Nat) : Bool := [0x0202, 0x0203, 0x0602, 0x0702, 0x0803].contains op

/-! Memory and windows (R385, R386). -/

/-- What an rkey that names no window reads as. -/
def noWindow : Window :=
  { qp := 0, device := 0, base := 0, length := 0, access := 0, peer := 0, session := 0, pitch := 0, quiet := false }

/-- Whether a request's address field is well formed: 64 bits, of which those above bit 49 are reserved, and BANK 3 (R246). -/
def fieldOk (field : Nat) : Bool := decide (field < 2 ^ 50) && decide (slotBank field 0 ≠ 3)

/-- The address that a request's field names for a pitch, its bank mark resolved (R226, R246). -/
def State.fieldAddr (s : State) (p field : Nat) : Nat :=
  resolveBank (slotBank field 0) (s.fld Reg.CMT_STATUS_BANK p) (s.fld Reg.CMT_STRIDE_STRIDE p) (slotAddr field 0)

/-- The lines of a read as the memory gives them back (R311, R315, R322, R329), `none` where one is not completed in time: the first
code met, or 0. -/
def State.readLines (p : Nat) (m : PageMap) : List ((Nat × Nat) × Option ReadErr) → State → Nat × State
  | [], s => (0, s)
  | ((a, _), e) :: rest, s =>
    let l := s.redirected ((translate m a).getD 0)
    match region l, e with
    | .hbm, none => (Code.MEM_TIMEOUT, s.lineLate p l .other)
    | .hbm, some err =>
      let (good, t) := s.decodeLine p l err 0
      if good then State.readLines p m rest t else (Code.MEM_UNCORRECTABLE, t)
    | .shelf, some err =>
      let (good, t) := s.shelfDecode p l err 0
      if good then State.readLines p m rest t else (Code.MEM_UNCORRECTABLE, t)
    | _, _ => State.readLines p m rest s

/-- MEM_READ (R385): `lines` tells how its lines were read, in order; those not named were read without an error. -/
def State.cmdMemRead (s : State) (q : Caller) (field len : Nat) (lines : List (Option ReadErr)) : Served :=
  let addr := s.fieldAddr q.x.pitch field
  if !fieldOk field ∨ len = 0 ∨ 4032 < len then s.no Code.MBX_FORMAT_INVALID
  else match s.readAt q.x.pitch (s.mapOf q.x.pitch) addr len with
    | .ok bs =>
      if lines = [] then .done 0 bs s
      else
        let m := s.mapOf q.x.pitch
        let ps := (linePieces addr len).zipIdx.map fun x => (x.1, lines.getD x.2 (some .clean))
        let (code, t) := State.readLines q.x.pitch m ps s
        if code ≠ 0 then .done code [] t
        else match t.readAt q.x.pitch m addr len with
          | .ok cs => .done 0 cs t
          | .err c a => .done c [] (t.memEvent q.x.pitch c a)
          | .wait => .wait
    | .err c a => .done c [] (s.memEvent q.x.pitch c a)
    | .wait => .wait

/-- How many pieces of a write may be performed before the first that may not. -/
def State.goodPieces (s : State) (p : Nat) (ps : List (Nat × Nat)) : Nat :=
  ((List.range ps.length).find? fun i => (s.writeGate p (s.mapOf p) none (ps.take (i + 1))).1 != 0).getD ps.length

/-- A 4-byte MEM_WRITE to a tally's LIMIT (R278, R385): its code, or 0. -/
def State.limitStore (s : State) (c off value : Nat) : Nat × State :=
  if off % 8 ≠ 4 ∨ 2 ^ 13 ≤ off then (Code.ADDRESS_RESERVED, s)
  else if !s.tallyReachable c then (Code.TALLY_UNREACHABLE, s.tallyFault Code.TALLY_UNREACHABLE c (off / 8) value 9 c 0)
  else if s.limitOk c (off / 8) value then (0, s.setTally c (off / 8) { s.tally c (off / 8) with limit := value })
  else (Code.TALLY_LIMIT_INVALID, s.tallyFault Code.TALLY_LIMIT_INVALID c (off / 8) value 9 c 0)

/-- MEM_WRITE (R385): one that faults may have written part of its data, a free number of its lines (log 12). -/
def State.cmdMemWrite (s : State) (q : Caller) (field : Nat) (data : Bytes) : Served :=
  let p := q.x.pitch
  let addr := s.fieldAddr p field
  let ps := linePieces addr data.length
  let plain : Served := match s.writeAt p (s.mapOf p) none addr data with
    | .ok t => .done 0 [] t
    | .wait => .wait
    | .err c a =>
      let (n, s1) := s.draw (s.goodPieces p ps + 1)
      .done c [] ((s1.storePieces (s.mapOf p) (ps.take n) data).memEvent p c a)
  if !fieldOk field ∨ data.isEmpty ∨ 4032 < data.length then s.no Code.MBX_FORMAT_INVALID
  else if data.length ≠ 4 then plain
  else match (translate (s.mapOf p) addr).map region with
    | some (.tally c off) => if s.campsGated ∧ s.tallyReachable c then .wait else .done (s.limitStore c off (ofBytes data)).1 [] (s.limitStore c off (ofBytes data)).2
    | _ => plain

/-- WIN_OPEN (R386): the queue pair and the rkey are drawn. -/
def State.cmdWinOpen (s : State) (q : Caller) (field len access peer : Nat) : Served :=
  let addr := s.fieldAddr q.x.pitch field
  if !fieldOk field ∨ access = 0 ∨ 3 < access then s.no Code.MBX_FORMAT_INVALID
  else if addr % 4096 ≠ 0 ∨ len % 4096 ≠ 0 ∨ len = 0 ∨ 2 ^ 40 < len ∨ 256 ≤ s.host.windows.length then s.no Code.MBX_WINDOW_INVALID
  else
    let (a, s1) := s.draw (2 ^ 32)
    let (b, s2) := s1.draw (2 ^ 24)
    let rkey := freshNumber (2 ^ 32) (s.host.windows.map (·.1)) 257 a
    let qp := freshNumber (2 ^ 24) (s.host.windows.map (·.2.qp)) 257 b
    let w : Window := { qp := qp, device := 0, base := addr, length := len, access := access, peer := peer, session := q.n, pitch := q.x.pitch
                        quiet := false }
    .done 0 (toBytes 4 qp ++ toBytes 4 rkey) { s2 with host := { s2.host with windows := sset noWindow s2.host.windows rkey w } }

/-- WIN_CLOSE (R386). -/
def State.cmdWinClose (s : State) (q : Caller) (rkey : Nat) : Served :=
  let w := sget noWindow s.host.windows rkey
  if w.session ≠ q.n then s.no Code.MBX_WINDOW_INVALID
  else .done 0 [] { s with host := { s.host with windows := sset noWindow s.host.windows rkey noWindow } }

/-! Jobs (R387, R443). -/

/-- JOB_START (R387, log 102). -/
def State.cmdJobStart (s : State) (q : Caller) (addr : Nat) : Served :=
  if s.powerState = 2 then .wait
  else match s.startJob q.x.pitch addr q.x.role q.n q.tod with
    | some (code, body, t) => .done code body t
    | none => .wait

/-- JOB_SEED (R443): the keys are installed once their entries are in flash (log 104). -/
def State.cmdJobSeed (s : State) (q : Caller) (seed nonce : Nat) : Served :=
  let p := q.x.pitch
  if s.seedRefused p seed nonce then s.no Code.MBX_STATE_CONFLICT
  else if s.sec.log.refuses then .done Code.SEC_LOG_UNAVAILABLE [] (s.event Code.SEC_LOG_UNAVAILABLE 0 locSecurity (secDetail p 0 s.logSeq))
  else .later none ((s.log 0x0043 q.x.role p q.n q.tod [1, (s.job p).num]).logKeys p q.tod q.n 1 (.seed p seed nonce (s.job p).num) q.to
    [keySeed, keyFabric, keySpindrift])

/-- JOB_END (R387): with FORCE 1, the slots' forced aborts complete first (log 103). -/
def State.cmdJobEnd (s : State) (q : Caller) (force : Bool) : Served :=
  let p := q.x.pitch
  let j := s.job p
  if j.num = 0 ∨ j.ending ∨ (!force ∧ s.slotsBusy p) then s.no Code.MBX_STATE_CONFLICT
  else
    let s1 := (s.setJob p { j with ending := true }).log 0x0043 q.x.role p q.n q.tod [2, j.num]
    .later none ((s1.deferReply q.n q.seq q.op q.tod (.job p)).windDown p)

/-- JOB_STATUS (R383): the job number, the step of CMT_STATUS, the states of the pitch's slots by camp. -/
def State.cmdJobStatus (s : State) (q : Caller) : Served :=
  let p := q.x.pitch
  let states := (s.campsOf p).flatMap fun c => (List.range 4).map fun i => (s.slot (s.slotFor c i)).state
  .done 0 (toBytes 2 (s.job p).num ++ toBytes 4 (s.cmtStep p) ++ states) s

/-! Streams (R182, R388). -/

/-- Whether a session's pitch holds a camp. -/
def State.holds (s : State) (q : Caller) (c : Nat) : Bool := (s.mapOf q.x.pitch).camps.testBit c

/-- STREAM_START (R388). -/
def State.cmdStreamStart (s : State) (q : Caller) (c i record : Nat) : Served :=
  if !s.holds q c then s.no Code.MBX_NOT_PERMITTED
  else if (s.job q.x.pitch).ending then s.no Code.MBX_STATE_CONFLICT
  else
    let (r, t) := s.wake.submit (s.slotFor c i) record
    .done (if r = 0 then 0 else if r = 1 then Code.MBX_QUEUE_FULL else Code.STREAM_SETTING_INVALID) [] t

/-- STREAM_RESUME (R173, R388): a slot of a camp out of service cannot go on. -/
def State.cmdStreamResume (s : State) (q : Caller) (c i : Nat) (skip : Bool) : Served :=
  let k := s.slotFor c i
  if !s.holds q c then s.no Code.MBX_NOT_PERMITTED
  else if (s.slot k).state ≠ 4 ∨ s.campFenced (slotCamp k) then s.no Code.MBX_STATE_CONFLICT
  else .done 0 [] (s.wake.resumeSlot k skip)

/-- STREAM_ABORT (R388): the Warden may name any camp. -/
def State.cmdStreamAbort (s : State) (q : Caller) (c i : Nat) : Served :=
  let k := s.slotFor c i
  let x := s.slot k
  if q.x.role = 1 ∧ !s.holds q c then s.no Code.MBX_NOT_PERMITTED
  else if x.state = 0 ∨ x.state = 5 then s.no Code.MBX_STATE_CONFLICT
  else if x.state = 4 then .done 0 [] (s.wake.abortHalted k)
  else .later (some (.slot k)) (s.wake.forceAbort k)

/-- STREAM_STATUS (R383). -/
def State.cmdStreamStatus (s : State) (q : Caller) (c i : Nat) : Served :=
  let k := s.slotFor c i
  if !s.holds q c then s.no Code.MBX_NOT_PERMITTED
  else .done 0 (toBytes 4 (s.strStatus k) ++ toBytes 4 (s.slot k).oldest
    ++ toBytes 8 (s.fld Reg.STR_HALT_INDEX (4 * c + i) ||| s.fld Reg.STR_HALT_CODE (4 * c + i) <<< 48)) s.wake

/-- How many Stash entries a pitch holds for a micro-batch, or in all. -/
def State.stashCount (s : State) (p : Nat) (mbatch : Option Nat) : Nat :=
  if s.stashGranules p = 0 then 0
  else ((List.range 4096).filter fun e =>
    let v := s.stashEntry p e
    seState v != 0 && (mbatch.map (fun b => decide (seMbatch v = b))).getD true).length

/-- STASH_FREE (R182). -/
def State.cmdStashFree (s : State) (q : Caller) (mbatch : Option Nat) : Served :=
  .done 0 (toBytes 4 (s.stashCount q.x.pitch mbatch)) (s.stashFree q.x.pitch mbatch)

/-! Tallies and guylines (R301, R389). -/

/-- A tally's word (R277). -/
def Tally.word (w : Tally) : Nat := w.count ||| w.limit <<< 32

/-- TALLY_READ (R383): tallies of a gated camp are read when it runs again. -/
def State.cmdTallyRead (s : State) (q : Caller) (c first count : Nat) : Served :=
  if count = 0 ∨ 500 < count ∨ 1024 < first + count then s.no Code.MBX_FORMAT_INVALID
  else if !s.holds q c then s.no Code.MBX_NOT_PERMITTED
  else if s.wake.campsGated then .wait
  else if !s.tallyReachable c then .done Code.TALLY_UNREACHABLE [] (s.wake.tallyFault Code.TALLY_UNREACHABLE c first 0 9 c 0)
  else .done 0 ((List.range count).flatMap fun i => toBytes 8 (s.tally c (first + i)).word) s.wake

/-- TALLY_SET (R301, R389): COUNT, LIMIT or both, without a limit check; then the queue is served. -/
def State.cmdTallySet (s : State) (q : Caller) (c t : Nat) (count limit : Option (BitVec 32)) : Served :=
  if !s.holds q c then s.no Code.MBX_NOT_PERMITTED
  else if s.wake.campsGated then .wait
  else if !s.tallyReachable c then
    .done Code.TALLY_UNREACHABLE [] (s.wake.tallyFault Code.TALLY_UNREACHABLE c t ((count.map (·.toNat)).getD 0) 9 c 0)
  else
    let old := s.tally c t
    let new : Tally := { count := (count.map (·.toNat)).getD old.count, limit := (limit.map (·.toNat)).getD old.limit }
    let s1 := (s.wake.setTally c t new).handSet q.x.pitch c (locTally c t) (tallyDetail old.count new.count t 9 c 0)
    let s2 := (s1.log 0x0041 q.x.role q.x.pitch q.n q.tod [tallyAddr c t, old.word, new.word]).serve c t
    .done 0 (toBytes 8 (s2.tally c t).word) s2

/-- A camp's latch of round GEN set, as if it had made its arrivals. -/
def State.handLatch (s : State) (g c : Nat) : State :=
  let r := s.guy g
  s.setGuy g ((r.setArrived c (max (s.localN g) (r.arrived c).1) (r.arrived c).2).latch r.gen c)

/-- GUY_SET (R301, R389): one camp's latch, or every latch of the round. -/
def State.cmdGuySet (s : State) (q : Caller) (g : Nat) (camp : Option Camp) : Served :=
  let p := q.x.pitch
  let m := s.fld Reg.GUY_CFG_CAMP_MASK g
  let named : List Nat := match camp with
    | some c => [c.val]
    | none => (List.range 16).filter m.testBit
  if !(s.mapOf p).guys.testBit g ∨ !(named.all fun c => s.holds q c) then s.no Code.MBX_NOT_PERMITTED
  else if !(named.all m.testBit) then s.no Code.BARRIER_NOT_MEMBER
  else
    let old := s.guyWord g
    let s1 := named.foldl (fun (t : State) c => t.handLatch g c) s.wake
    let by_ : Nat := match camp with
      | some c => c.val
      | none => s.leadCamp p
    let s2 := (s1.handSet p by_ (locGuy g) (tallyDetail (s.guy g).gen 0 g 9 by_ 0)).log 0x0041 q.x.role p q.n q.tod
      [guyBase + g * 2 ^ 21, old, s1.guyWord g]
    .done 0 (toBytes 64 (s2.guyWord g)) s2

/-! Units (R390, R469-R473). -/

/-- Whether a unit is one of a session's pitch. -/
def State.ownUnit (s : State) (q : Caller) : FUnit → Bool
  | .lane e _ => s.holds q (e / 8)
  | .engine e => s.holds q (e / 8)
  | .camp c => s.holds q c
  | _ => false

/-- The state of a unit in a reply: the latch, the record set right (R472). -/
def State.latchReply (s : State) (u : FUnit) : Served :=
  let (l, _, t) := s.readUnit u
  .done 0 (toBytes 4 l) t

/-- An engine fenced while its test runs stays fenced when it passes. -/
def State.holdTested (s : State) (u : FUnit) : State :=
  match u with
  | .engine e => { s with rel := { s.rel with testing := s.rel.testing.map fun (x : Nat × Bool) => if x.1 = e then (e, false) else x } }
  | _ => s

/-- A fence of one lane, engine or camp asked for by the host (log 80). -/
def State.askFence (s : State) (u : FUnit) : State :=
  if s.latch u = 3 then s.endReturn u else if s.latch u = 0 then s.startFence u 1 else s.holdTested u

/-- The FENCE entry of a unit without a latch, or of a return that ends. -/
def State.logFence (s : State) (q : Caller) (loc act latch : Nat) : State := s.log 0x0042 q.x.role 0 q.n q.tod [loc, act, latch]

/-- FENCE (R390, R469-R471). -/
def State.cmdFence (s : State) (q : Caller) (loc : Nat) : Served :=
  match unitOf loc with
  | .error c => s.no c
  | .ok u =>
    if s.latch u = 2 then (s.holdTested u).latchReply u
    else match u with
    | .pc n => .done 0 (toBytes 4 2) ((s.channelDead n).logFence q loc 0 2)
    | .bank d b => .done 0 (toBytes 4 2) ((s.bankFence d b).logFence q loc 0 2)
    | .port n => .done 0 (toBytes 4 2) ((s.holdPort n).logFence q loc 0 2)
    | .host n => .done 0 (toBytes 4 2) ((s.holdPort (36 + n)).logFence q loc 0 2)
    | .die d =>
      .later none (((List.range 8).map (· + 8 * d)).foldl (fun (t : State) c => t.askFence (.camp c))
        (s.wake.deferReply q.n q.seq q.op q.tod (.fence u.loc))).settleFenceWaits
    | _ =>
      if s.latch u = 3 then .done 0 (toBytes 4 2) ((s.endReturn u).logFence q u.loc 0 2)
      else .later none ((s.wake.deferReply q.n q.seq q.op q.tod (.fence u.loc)).askFence u)

/-- UNFENCE (R390, R471, R473). -/
def State.cmdUnfence (s : State) (q : Caller) (loc : Nat) : Served :=
  let go (u : FUnit) (us : List FUnit) : Served :=
    .later none (us.foldl State.startReturn ((s.wake.deferReply q.n q.seq q.op q.tod (.unfence u.loc)).logFence q u.loc 1 3))
  let one (u : FUnit) : Served :=
    if s.latch u = 0 then s.latchReply u else if s.latch u = 2 then go u [u] else s.no Code.MBX_STATE_CONFLICT
  match unitOf loc with
  | .error c => s.no c
  | .ok (.die d) =>
    let us := (List.range 8).map fun i => FUnit.camp (8 * d + i)
    if us.any fun u => s.latch u % 2 == 1 then s.no Code.MBX_STATE_CONFLICT
    else if us.all fun u => s.latch u == 0 then s.latchReply (.die d)
    else go (.die d) (us.filter fun u => s.latch u == 2)
  | .ok (.lane e l) => one (.lane e l)
  | .ok (.engine e) => one (.engine e)
  | .ok (.camp c) => one (.camp c)
  | .ok _ => s.no Code.FENCE_UNIT_INVALID

/-- UNIT_STATE (R472). -/
def State.cmdUnitState (s : State) (q : Caller) (loc : Nat) : Served :=
  match unitOf loc with
  | .error c => s.no c
  | .ok u =>
    if q.x.role = 1 ∧ !s.ownUnit q u then s.no Code.MBX_NOT_PERMITTED
    else
      let (l, r, t) := s.readUnit u
      .done 0 (toBytes 4 l ++ toBytes 4 r) t

/-! Commits (R238, R240). -/

/-- The 64-bit word of a field's register. -/
def State.regWord (s : State) (f : Fld) (inst : Nat) : Nat :=
  match regAt (f.addr inst 0) with
  | some r => s.readWord r
  | none => 0

/-- COMMIT_STATUS (R383). -/
def State.cmdCommitStatus (s : State) (q : Caller) : Served := .done 0 (toBytes 8 (s.regWord Reg.CMT_STATUS_STEP q.x.pitch)) s

/-- COMMIT_SETTLE (R238): a participant that voted READY and has no decision takes the host's. -/
def State.cmdCommitSettle (s : State) (q : Caller) (step attempt : Nat) (commit : Bool) : Served :=
  let p := q.x.pitch
  let waits := (s.cmtState p == 3 || (s.cmtState p == 2 && (s.commitRec p).vote == 1)) && (s.commitRec p).decided == 0
  if s.cmtStep p ≠ step ∨ s.cmtAttempt p ≠ attempt ∨ !waits then s.no Code.MBX_STATE_CONFLICT
  else
    let s1 := if commit then s.applyCommit p 6 else s.applyAbort p 6 s.devId
    .done 0 (toBytes 4 (s1.cmtState p)) (s1.log 0x0044 q.x.role p q.n q.tod [step, attempt, ofBool commit])

/-! Registers (R384). -/

/-- Whether the block of a register is powered in Bivouac mode (R500). -/
def RegWord.inBivouac (r : RegWord) : Bool :=
  match r.fields with
  | [] => false
  | f :: _ =>
    if f.block = 6 then r.inst == 36
    else f.block == 8 && ((decide (Reg.MBX_CFG_IDLE_S.off ≤ f.off) && decide (f.off < Reg.GOV_POOL_POOL.off))
      || (decide (Reg.LNT_STATUS_STATE.off ≤ f.off) && decide (f.off < Reg.FEN_CFG_SELFTEST_H.off)) || decide (Reg.STU_STATUS_PHASE.off ≤ f.off))

/-- One address of REG_READ: value and refusal; a register of an unpowered block reads zero. -/
def State.readOne (s : State) (x : Session) (a : Nat) : Nat × Nat :=
  match regAt a with
  | some r => if s.phase = 8 ∧ !r.inBivouac ∧ (s.readReg x a).2 = 0 then (0, 0) else s.readReg x a
  | none => s.readReg x a

/-- Whether an address is that of a register that counts on by itself: the cycles of a blocked slot, and the codewords that engines and
movers have read since (R333, R335), whose number the manual does not fix. -/
def runsOn (a : Nat) : Bool :=
  match regAt a with
  | some r => r.fields.any fun f => f == Reg.STR_BLOCKED_CYC || f == Reg.HBM_TRAFFIC || f == Reg.SHF_TRAFFIC_4K
  | none => false

/-- A traffic counter, as it is read, has counted the reads made since. -/
def State.countReads (s : State) (a : Nat) : State :=
  match regAt a with
  | some r =>
    if r.fields.any fun f => f == Reg.HBM_TRAFFIC || f == Reg.SHF_TRAFFIC_4K then
      let (d, t) := s.draw (2 ^ 40)
      t.accum (r.fields.headD Reg.HBM_TRAFFIC) d r.inst
    else s
  | none => s

/-- REG_READ (R384): the values in order, then the refused addresses as a mask. -/
def State.cmdRegRead (s : State) (q : Caller) (addrs : List Nat) : Served :=
  if addrs = [] ∨ 64 < addrs.length then s.no Code.MBX_FORMAT_INVALID
  else
    let s1 := addrs.foldl State.countReads (if addrs.any runsOn then (s.slots.map (·.1)).foldl State.countBlocked s else s)
    let rs := addrs.map (s1.readOne q.x)
    .done 0 (rs.flatMap (fun r => toBytes 8 r.1) ++ toBytes 8 ((rs.map (·.2)).foldr (fun b n => b + 2 * n) 0)) s1

/-- The pairs of a REG_WRITE in order: the first that is refused decides. -/
def State.writePairs (q : Caller) : List (Nat × Nat) → State → Nat × Option (Nat × Nat) × State
  | [], t => (0, none, t)
  | (a, v) :: rest, t =>
    let (code, t1) := t.writeReg q.x q.n q.tod a v none
    if code ≠ 0 then (code, some (a, v), t) else State.writePairs q rest t1

/-- The newest change that waits for flash answers a request. -/
def State.answerLast (s : State) (r : Option (Nat × Nat × Nat)) : State :=
  match s.sec.log.ahead.reverse with
  | [] => s
  | a :: rest => { s with sec := { s.sec with log := { s.sec.log with ahead := (({ a with reply := r } : Ahead) :: rest).reverse } } }

/-- REG_WRITE (R384): every write is checked before anything is written; what an ACTION begins answers when it has taken effect. -/
def State.cmdRegWrite (s : State) (q : Caller) (pairs : List (Nat × Nat)) : Served :=
  if pairs = [] ∨ 32 < pairs.length then s.no Code.MBX_FORMAT_INVALID
  else match State.writePairs q pairs s with
    | (code, some (a, v), _) =>
      let (c, t) := s.writeReg q.x q.n q.tod a v none
      .done code [] (if c = code then t else s)
    | (_, none, t) =>
      if t.changing then .later none (t.answerLast q.to) else .done 0 [] t

/-! Events (R391). -/

/-- An event record's 32 bytes (R10). -/
def Event.bytes (e : Event) : Bytes :=
  toBytes 32 (e.code ||| e.severity <<< 16 ||| e.pitch <<< 24 ||| e.location <<< 32 ||| e.seq <<< 64 ||| e.detail <<< 128)

/-- EVENT_READ (R391): up to 126 records, the next index, the overwritten flag. -/
def State.cmdEventRead (s : State) (q : Caller) (index : Nat) : Served :=
  let r := sget Ring.empty s.evs.rings (if q.x.role = 1 then q.x.pitch else 0)
  let from_ := max index r.first
  let recs := (r.recs.drop (from_ - r.first)).take 126
  .done 0 (recs.flatMap Event.bytes ++ toBytes 8 (from_ + recs.length) ++ toBytes 1 (ofBool (index < r.first))) s

/-! Telemetry (R417, R425). -/

/-- The unit code of a sensor point. -/
def sensorUnit (p : Nat) : Nat :=
  if p < 512 then 0 else if p < 1024 then 1
  else if p < 1088 then (if p % 4 < 2 then 0 else 1)
  else if p < 1344 then (p - 1088) % 2
  else if p < 1504 then (if (p - 1344) % 20 < 16 then 0 else 1)
  else if p < 1530 then (p - 1504) % 2 else if p < 1536 then 0
  else if p < 2000 then [1, 1, 2, 0].getD (p % 4) 0
  else if p < 2016 then 0 else if p < 2032 then 3
  else if p < 2040 then [1, 2, 3, 6].getD (p % 4) 0 else [0, 0, 4, 5].getD (p % 4) 0

/-- The camp of a sensor point inside a camp. -/
def sensorCamp (p : Nat) : Option Nat :=
  if p < 512 then some (p / 32) else if p < 1024 then some ((p - 512) / 32) else if p < 1088 then some ((p - 1024) / 4)
  else if 2016 ≤ p ∧ p < 2032 then some (p - 2016) else none

/-- A reading (R425). -/
def State.reading (s : State) (p value : Nat) : Bytes :=
  let x := s.sensor p
  toBytes 8 (p <<< 48 ||| sensorUnit p <<< 40 ||| (ofBool (!x.last.isEmpty) ||| ofBool x.faulty <<< 1) <<< 32 ||| value % 2 ^ 32)

/-- Sensors: a Tenant's camps as sampled, others zero; the module-level roles read averages over 10 ms, which samples without their
times do not give (free values). -/
def State.telemSensors (s : State) (q : Caller) (first count : Nat) : Served :=
  let points := (List.range count).map (· + first)
  if q.x.role = 1 then
    .done 0 (points.flatMap fun p =>
      if (sensorCamp p).any (s.holds q) then s.reading p (unsigned 32 ((s.sensor p).last.headD 0)) else toBytes 8 0) s
  else
    let (d, t) := s.draw (2 ^ (32 * count))
    .done 0 ((List.range count).flatMap fun i => s.reading (first + i) (bits d (32 * i + 31) (32 * i))) t

/-- The camp of an island. -/
def islandCamp (i : Nat) : Option Nat := if i < 128 then some (i / 8) else if i < 144 then some (i - 128) else none

/-- Whether an island's clock stands still or its power is off (R25, R26, R411, R413, R418, R470, R471): in STANDBY all but HE0, the
Lantern and, on demand, the security block and the flash controller; outside ACTIVE the islands of the camps; an engine that has
tripped or was fenced hard; those of a fenced camp. -/
def State.islandStopped (s : State) (i : Nat) : Bool :=
  if s.powerState = 3 then
    if i = 287 ∨ i = 292 then false else if i = 291 then !s.sec.powered else if i = 294 then !s.sec.flashOn else true
  else if i < 128 then
    s.engGated && (s.powerState != 4 || s.power.stop == 2 || s.power.before != 0)
      || (s.power.tripped.any fun t => decide (t.1 = i))
      || (s.fld Reg.FEN_STATE_ENG_STATE i == 2 && s.fld Reg.FEN_STATE_ENG_HARD i == 1) || s.fld Reg.FEN_STATE_CAMP_STATE (i / 8) == 2
  else if i < 144 then s.campsGated || s.fld Reg.FEN_STATE_CAMP_STATE (i - 128) == 2
  else false

/-- A cycle counter read (R33): it has counted on by a number that the manual does not fix, and one read since its island stopped holds
(log 28). -/
def State.readCycles (s : State) (i : Nat) : Nat × State :=
  let last := sget 0 s.rems (cycleKey i)
  if s.islandStopped i ∧ sget 0 s.rems (holdKey i) = 1 then (last, s)
  else
    let (d, t) := s.draw (2 ^ 40)
    let v := (last + d) % 2 ^ 64
    (v, { t with rems := sset 0 (sset 0 t.rems (cycleKey i) v) (holdKey i) (ofBool (s.islandStopped i)) })

/-- Cycles: those that the role may see, others zero. -/
def State.telemCycles (s : State) (q : Caller) (first count : Nat) : Served :=
  let r := ((List.range count).map (· + first)).foldl (fun (acc : Bytes × State) i =>
    if q.x.role = 1 ∧ !(islandCamp i).any (s.holds q) then (acc.1 ++ toBytes 8 0, acc.2)
    else (acc.1 ++ toBytes 8 (acc.2.readCycles i).1, (acc.2.readCycles i).2)) ([], s)
  .done 0 r.1 r.2

/-- Summary (R425, R439): state, SCALE, input power as an average, coolant inlet, outlet and flow, the hottest diode (log 28). -/
def State.telemSummary (s : State) (q : Caller) : Served :=
  let (w, t) := s.draw (2 ^ 16)
  let all := q.x.role != 1 || (s.mapOf q.x.pitch).camps == 0xFFFF
  let hot := ((List.range 2048).filter fun p => isDiode p && !(s.sensor p).faulty).foldl (fun (m : Int) p => max m (s.sensor p).y) 0
  let y (p : Nat) : Bytes := toBytes 4 (unsigned 32 (s.pointValue p))
  .done 0 (toBytes 4 s.powerState ++ toBytes 4 (s.fld Reg.LNT_STATUS_SCALE) ++ toBytes 4 (if all then w else 0) ++ y 2040
    ++ (if all then y 2041 else toBytes 4 0) ++ y 2042 ++ toBytes 4 (if all then unsigned 32 hot else 0)) t

/-- Energy (R417). -/
def State.telemEnergy (s : State) (q : Caller) : Served :=
  let p := q.x.pitch
  let e := fun (f : Fld) (i : Nat) => toBytes 8 (s.fld f i)
  let body :=
    if q.x.role = 1 then e Reg.LNT_PITCH_ENERGY p ++ (s.campsOf p).flatMap (e Reg.GOV_BUBBLE_CYC)
      ++ e Reg.GOV_HELD_LADDER p ++ e Reg.GOV_HELD_LEND p ++ e Reg.GOV_HELD_VOLT p ++ e Reg.GOV_HELD_CLK p
    else if q.x.role = 0 then e Reg.LNT_ENERGY 0 ++ e Reg.LNT_PITCH_ENERGY 0
      ++ ((List.range 9).filter (· ≠ 0)).flatMap (e Reg.LNT_JOB_TOTAL)
    else e Reg.LNT_ENERGY 0
  .done 0 body s

/-- Governor (R425). -/
def State.telemGovernor (s : State) (q : Caller) (c : Nat) : Served :=
  if q.x.role = 1 ∧ s.holds q c then
    .done 0 (toBytes 8 (s.regWord Reg.GOV_CAMP_STATUS_BUDGET c)
      ++ (List.range 8).flatMap fun a => toBytes 2 ((sget [] s.power.bubbles c).getD a 0)) s.wake
  else .done 0 (toBytes 24 0) s

/-- TELEM_READ (R425): sensors and cycles take their first object in the argument's low 16 bits and their count above. -/
def State.cmdTelemRead (s : State) (q : Caller) (sel arg : Nat) : Served :=
  let first := arg % 2 ^ 16
  let count := arg / 2 ^ 16
  let run (n : Nat) (f : Served) : Served :=
    if count = 0 ∨ 500 < count ∨ n < first + count then s.no Code.MBX_FORMAT_INVALID else f
  if sel = 0 then s.telemSummary q
  else if sel = 1 then run 2048 (s.telemSensors q first count)
  else if sel = 2 then run 295 (s.telemCycles q first count)
  else if sel = 3 then s.telemEnergy q
  else if sel = 4 then (if 16 ≤ arg then s.no Code.MBX_FORMAT_INVALID else s.telemGovernor q arg)
  else if sel = 5 then
    if 2 ≤ arg then s.no Code.MBX_FORMAT_INVALID else .done 0 (if q.x.role = 1 then [] else (s.hostPort arg).lldp) s
  else if sel = 6 then
    .done 0 (toBytes 4 (s.regWord Reg.STU_STATUS_PHASE 0) ++ toBytes 4 (s.fld Reg.STU_HISTORY_REASONS) ++ toBytes 8 (s.fld Reg.STU_STARTS)) s
  else s.no Code.MBX_FORMAT_INVALID

/-! Ports, power, HBM test (R343, R418, R327). -/

/-- PORT_CMD (R343, R383): the port's status word as it stands then. -/
def State.cmdPort (s : State) (port action : Nat) : Served :=
  let t := if action = 0 then s.trainPort port else if action = 1 then s.holdPort port else s.releasePort port
  .done 0 (toBytes 4 (t.regWord (if 36 ≤ port then Reg.HE_STATUS_STATE else Reg.TWY_PORT_STATUS_STATE) port)) t

/-- POWER_STATE (R418): 0 ACTIVE, 1 IDLE, 2 DOZE, 3 STANDBY, as LNT_STATUS.STATE codes them (log 112). -/
def State.cmdPowerState (s : State) (target : Nat) : Served :=
  let st := s.powerState
  let now (t : State) : Served := .done 0 (toBytes 4 t.powerState) t
  if target = 1 ∨ 4 ≤ target then s.no Code.MBX_FORMAT_INVALID
  else if target ≠ 0 ∧ s.anyJob then s.no Code.MBX_STATE_CONFLICT
  else if target = st then now s
  else if s.phase = 0 ∧ st = 3 then
    if target ≠ 0 ∨ s.boot.opened then s.no Code.MBX_STATE_CONFLICT
    else if s.linesHigh then .later (some .power) s.enterHold else now s.enterHold
  else if s.phase ≠ 0 then (if target = 0 then now s else s.no Code.MBX_STATE_CONFLICT)
  else if st = 4 then s.no Code.MBX_STATE_CONFLICT
  else if target = 3 then now ((s.cutRails false false).enterState 3)
  else if target = 2 then now (s.enterState 2)
  else if st = 2 then .later (some .power) (s.withPower { s.power with waking := true })
  else now (s.enterState 0)

/-- Pattern settings of one pseudo-channel as HBM_TEST brings them: HBM_TG_CFG, RANGE, SEED and USER (R334); GO starts a run. -/
def State.tgSet (s : State) (x : PseudoCh × Nat × Nat × Nat × Nat) : State :=
  let (n, cfg, range, seed, line) := x
  let set (f : Fld) (v : Nat) (t : State) : State := t.setFld f v n.val
  let s1 := set Reg.HBM_TG_CFG_PATTERN (bits cfg 29 28) (set Reg.HBM_TG_CFG_CHECK_ONLY (bits cfg 30 30) s)
  let s2 := set Reg.HBM_TG_RANGE_COUNT (range >>> 32) (set Reg.HBM_TG_RANGE_FIRST range (set Reg.HBM_TG_SEED_SEED seed (set Reg.HBM_TG_USER_LINE line s1)))
  if bit cfg 31 ∧ s2.fld Reg.HBM_TG_CFG_GO n.val = 0 then s2.tgGo n.val else s2

/-- HBM_TEST (R327, R500): the test state is entered in Bivouac mode, or for the Warden while no tenant owns a page (log 82). -/
def State.cmdHbmTest (s : State) (q : Caller) (enter : Bool) (settings : List (PseudoCh × Nat × Nat × Nat × Nat)) : Served :=
  let st := s.fld Reg.HBM_MAP_STATE
  let owned := s.ras.owners.any fun e => decide (1 ≤ e.2) && decide (e.2 ≤ 8)
  let reply (t : State) : Served := .done 0 (toBytes 8 (t.regWord Reg.HBM_MAP_STATE 0)) t
  if enter then
    if st = 2 then reply (settings.foldl State.tgSet s)
    else if s.phase ≠ 8 ∧ q.x.role ≠ 0 then s.no Code.MBX_NOT_PERMITTED
    else if st = 1 ∨ (s.phase = 8 ∧ s.fld Reg.LNT_STATUS_FLOW_OK = 0) ∨ (s.phase ≠ 8 ∧ owned) then s.no Code.MBX_STATE_CONFLICT
    else reply (settings.foldl State.tgSet s.enterTest)
  else if st ≠ 2 then reply s
  else reply s.leaveHbmTest

/-! The logbook and attestation (R448, R449, R454, R455). -/

/-- Whether a session may read an entry's body (R449, log 111). -/
def State.readsBody (s : State) (x : Session) (e : LogEntry) : Bool :=
  e.kind == logCheckpoint
    || (if x.role = 1 then e.pitch == x.pitch && e.tenancy == s.tenancy x.pitch
      else if x.role = 0 then e.actor == 0 || e.pitch == 0
      else e.pitch == 0 && decide (2 ≤ e.actor) && decide (e.actor ≤ 5))

/-- An entry's 256 bytes for a session: the header, and the body or its digest. -/
def State.entryBytes (s : State) (x : Session) (prev : Nat) (e : LogEntry) : Bytes :=
  if s.readsBody x e then e.header prev ++ e.bodyBytes prev
  else toBytes 64 (ofBytes (e.header prev) ||| 1 <<< 31) ++ shake256 (e.bodyBytes prev) 32 ++ toBytes 160 0

/-- The retained entries from a number on, oldest first, each with the chain digest before it. -/
def logFrom (base seq : Nat) : List LogEntry → List (Nat × LogEntry)
  | [] => []
  | e :: rest => if e.seq < seq then [] else logFrom base seq rest ++ [(chainOf base rest, e)]

/-- LOG_READ (R449): up to 15 entries, the next number, the overwritten flag. -/
def State.cmdLogRead (s : State) (q : Caller) (seq : Nat) : Served :=
  let oldest := s.fld Reg.SEC_LOG_OLDEST_SEQ
  let from_ := max seq oldest
  let es := (logFrom s.sec.log.base from_ s.sec.log.entries).take 15
  .done 0 (es.flatMap (fun x => s.entryBytes q.x x.1 x.2) ++ toBytes 8 (from_ + es.length) ++ toBytes 1 (ofBool (seq < oldest))) s.standbyPower

/-- LOG_CHECKPOINT (R448): the reply is the checkpoint entry, once it is in flash. -/
def State.cmdLogCheckpoint (s : State) (q : Caller) : Served :=
  if s.sec.log.refuses then .done Code.SEC_LOG_UNAVAILABLE [] (s.event Code.SEC_LOG_UNAVAILABLE 0 locSecurity (secDetail 0 0 s.logSeq))
  else
    let s1 := s.dueCheckpoint
    let s2 := s1.checkpoint true q.x.role q.n q.tod
    .later none { s2 with sec := { s2.sec with log := { s2.sec.log with
      ahead := s2.sec.log.ahead ++ [{ seq := s1.logTrim.logSeq, change := .checkpoint, reply := q.to }] } } }

/-- A number put in its place in a list that rises. -/
def insertNat (x : Nat) : List Nat → List Nat
  | [] => [x]
  | y :: rest => if x ≤ y then x :: y :: rest else y :: insertNat x rest

/-- The layout record of a pitch (R455). -/
def State.layoutRecord (s : State) (p : Nat) : Bytes :=
  let up (l : List Nat) : List Nat := l.foldl (fun m x => insertNat x m) []
  toBytes 1 p ++ toBytes 1 (s.fld Reg.SEC_PITCH_CTL_STATE p) ++ toBytes 4 (s.tenancy p) ++ toBytes 16 (s.layoutWord p)
    ++ toBytes 32 (keyDigest (s.fld Reg.SEC_TENANT_KEY_KEY p)) ++ toBytes 4 (s.fld Reg.GOV_PITCH_BUDGET_BUDGET p)
    ++ toBytes 4 (s.fld Reg.TWY_SHARE_SHARE p) ++ (up (s.pagesHeld p)).flatMap (toBytes 4)
    ++ (up (s.slabsHeld p 0 ++ s.slabsHeld p 1)).flatMap (toBytes 1)

/-- The layout digest in a session's report (R455). -/
def State.layoutDigest (s : State) (x : Session) : Bytes :=
  shake256 (ascii "PL480LAY" ++ (if x.role = 1 then [x.pitch] else List.range 9).flatMap s.layoutRecord) 32

/-- Bytes 0-423 of an attestation report (R454). -/
def State.reportHead (s : State) (x : Session) (nonce : Nat) : Bytes :=
  let flags := ofBool (s.sealed x.pitch) ||| ofBool s.sec.unlocked.isSome <<< 1 ||| ofBool (s.phase == 8) <<< 2
  toBytes 24 (0x4154 ||| 1 <<< 16 ||| x.role <<< 24 ||| x.pitch <<< 32 ||| flags <<< 40 ||| s.fld Reg.TWY_DEV_ID_ID <<< 48
      ||| Config.serial % 2 ^ 64 <<< 64 ||| s.fuseWord % 2 ^ 16 <<< 128 ||| s.fld Reg.SEC_FUSE_FLOOR <<< 144 ||| s.fld Reg.SEC_FUSE_UNSEALS <<< 152
      ||| s.tenancy x.pitch <<< 160)
    ++ toBytes 8 s.logSeq ++ toBytes 32 s.logHead ++ toBytes 32 nonce ++ s.layoutDigest x
    ++ shake256 (toBytes 57 identityKey) 32 ++ ((List.range 8).flatMap fun i => toBytes 32 (s.fld Reg.SEC_MEAS_VALUE 0 i))
    ++ toBytes 4 (s.fld Reg.STU_STARTS) ++ toBytes 4 0

/-- ATTEST (R453, R454): the report and the identity key's certificate. -/
def State.cmdAttest (s : State) (q : Caller) (nonce : Nat) : Served :=
  let head := s.reportHead q.x nonce
  .done 0 (head ++ identitySign (ascii "PL480ATT") head ++ certificate) s.standbyPower

/-! Firmware (R502-R504). -/

/-- The FIRMWARE entry's body (R450): command, slot, image digest, version. -/
def State.firmwareBody (s : State) (act k : Nat) : List Nat := [act, k, ofBytes (s.imageDigest k), imgVersion (s.manifest k)]

/-- FW_STAGE (R502). -/
def State.cmdFwStage (s : State) (q : Caller) (k off : Nat) (data : Bytes) : Served :=
  if data.isEmpty ∨ 4032 < data.length ∨ off % 64 ≠ 0 ∨ 2 ^ 26 < off + data.length then s.no Code.MBX_FORMAT_INVALID
  else if s.phase ≠ 8 ∧ s.fld Reg.STU_STATUS_SLOT = k then s.no Code.FW_SLOT_BUSY
  else
    let x := s.fwSlot k
    let bytes := (List.range data.length).foldl (fun (m : Sparse Nat) i => sset 256 m (off + i) (data.getD i 0 % 256)) x.bytes
    let s1 := s.setFwSlot k { x with bytes := bytes, state := 1 }
    .done 0 [] (s1.log 0x0050 q.x.role 0 q.n q.tod (s1.firmwareBody 0 k))

/-- FW_VERIFY (R491, R502). -/
def State.cmdFwVerify (s : State) (q : Caller) (k : Nat) (readable : Bool) : Served :=
  let (r, s1) := s.checkSlot k readable
  let s2 := s1.log 0x0050 q.x.role 0 q.n q.tod (s1.firmwareBody 1 k)
  match r with
  | none => .done 0 [] s2
  | some sub => .done (imageCode sub) [sub] s2

/-- What stands in the way of a hand-off (R504): a fence, a re-form or a page move in progress. -/
def State.handBlocked (s : State) : Bool :=
  (List.range 128).any (fun e => s.fld Reg.FEN_STATE_ENG_STATE e == 1) || (List.range 16).any (fun c => s.fld Reg.FEN_STATE_CAMP_STATE c == 1)
    || s.lanesFencing
    || s.fld Reg.HBM_MAP_STATE == 1 || s.fld Reg.SHF_MAP_STATE 0 == 1 || s.fld Reg.SHF_MAP_STATE 1 == 1 || s.ras.moving.isSome

/-- FW_ACTIVATE (R500, R504): refused, or its entry is on the way to flash; the hand-off or the start follows. -/
def State.cmdFwActivate (s : State) (q : Caller) (k : Nat) (raise : Bool) : Served :=
  if s.phase ≠ 8 ∧ s.handBlocked then s.no Code.MBX_STATE_CONFLICT
  else if (s.fwSlot k).state ≠ 2 ∨ (s.phase ≠ 8 ∧ s.fld Reg.STU_STATUS_SLOT = k) then s.no Code.FW_NOT_VERIFIED
  else if s.sec.log.refuses then .done Code.SEC_LOG_UNAVAILABLE [] (s.event Code.SEC_LOG_UNAVAILABLE 0 locSecurity (secDetail 0 0 s.logSeq))
  else .later none (s.logAhead 0x0050 q.x.role 0 0 q.n q.tod (s.firmwareBody 2 k) (.activate k raise) q.to)

/-- A slot's record in FW_STATUS (R503). -/
def State.slotRecord (s : State) (k : Nat) : Bytes :=
  let x := s.fwSlot k
  let m := s.manifest k
  let shown := x.state != 0
  toBytes 8 (x.err ||| x.state <<< 8 ||| (if shown then imgSvn m else 0) <<< 24 ||| (if shown then imgVersion m else 0) <<< 32) ++ toBytes 24 0
    ++ (if shown then (s.imageDigest k).take 32 else toBytes 32 0)

/-- FW_STATUS (R503). -/
def State.cmdFwStatus (s : State) : Served :=
  .done 0 (s.slotRecord 0 ++ s.slotRecord 1 ++ toBytes 8 (s.fld Reg.STU_STATUS_ACTIVE ||| s.fld Reg.SEC_FUSE_FLOOR <<< 8)) s.standbyPower

/-! Execution (R371, R379). -/

/-- A command executed for a session whose role and the module's mode permit it (R383). -/
def State.serveCmd (s : State) (q : Caller) : Cmd → Served
  | .close => .done 0 [] s
  | .ping body => .done 0 body s
  | .unlisted _ => s.no Code.MBX_OPCODE_INVALID
  | .memRead a n lines => s.cmdMemRead q a n lines
  | .memWrite a d => s.cmdMemWrite q a d
  | .winOpen a n acc peer => s.cmdWinOpen q a n acc peer
  | .winClose rkey => s.cmdWinClose q rkey
  | .jobStart a => s.cmdJobStart q a
  | .jobSeed seed nonce => s.cmdJobSeed q seed nonce
  | .jobEnd force => s.cmdJobEnd q force
  | .jobStatus => s.cmdJobStatus q
  | .streamStart c i r => s.cmdStreamStart q c.val i.val r
  | .streamResume c i skip => s.cmdStreamResume q c.val i.val skip
  | .streamAbort c i => s.cmdStreamAbort q c.val i.val
  | .streamStatus c i => s.cmdStreamStatus q c.val i.val
  | .stashFree m => s.cmdStashFree q m
  | .tallyRead c first n => s.cmdTallyRead q c.val first n
  | .tallySet c t count limit => s.cmdTallySet q c.val t.val count limit
  | .guySet g c => s.cmdGuySet q g.val c
  | .fence loc => s.cmdFence q loc.toNat
  | .unfence loc => s.cmdUnfence q loc.toNat
  | .unitState loc => s.cmdUnitState q loc.toNat
  | .commitStatus => s.cmdCommitStatus q
  | .commitSettle step attempt commit => s.cmdCommitSettle q step attempt commit
  | .regRead as => s.cmdRegRead q as
  | .regWrite ps => s.cmdRegWrite q ps
  | .eventRead i => s.cmdEventRead q i.toNat
  | .telemRead sel arg => s.cmdTelemRead q sel arg
  | .portCmd port act => s.cmdPort port.val act.val
  | .powerState t => s.cmdPowerState t
  | .hbmTest enter l => s.cmdHbmTest q enter l
  | .logRead seq => s.cmdLogRead q seq.toNat
  | .logCheckpoint => s.cmdLogCheckpoint q
  | .attest nonce => s.cmdAttest q nonce
  | .fwStage k off d => s.cmdFwStage q k.val off d
  | .fwVerify k readable => s.cmdFwVerify q k.val readable
  | .fwActivate k raise => s.cmdFwActivate q k.val raise
  | .fwStatus => s.cmdFwStatus

end Sys2Proof.Machine
end

