-- ==== Sys2Proof/Machine/Requests.lean ====
section
/-! DEFINITION. Requests as they arrive and run (R369-R382, R496): the checks of R371, sequence and duplicates, execution in SEQ order, one
row per command. -/
namespace Sys2Proof.Machine

open Sys2Proof

/-! Execution (R376, R379). -/

/-- A request accepted, its execution begun. -/
def Session.begun (x : Session) (h : HeldReq) : Session :=
  { x with held := x.held.filter (fun y => decide (y.seq ≠ h.seq)), waiting := some (h.seq, opcodeOf h.cmd) }

/-- Whether a request must wait before it may act (R379, R437, R447): for the change before it, or for room in the logbook's buffer. -/
def State.mustWait (s : State) (op : Nat) : Bool := (logsAhead op && s.changing) || (logsNow op && s.logFull && !s.sec.log.refuses)

/-- A request executed: the state after it, with its reply given or deferred; none when it waits. -/
def State.execute (s : State) (n : Nat) (x : Session) (h : HeldReq) : Option State :=
  let op := opcodeOf h.cmd
  let s1 := s.setSession n (x.begun h)
  let code := s.opcodeRefusal x.role op
  if code ≠ 0 then some (s1.reply n h.seq op code [])
  else if !h.ok then some (s1.reply n h.seq op Code.MBX_FORMAT_INVALID [])
  else if s.mustWait op then none
  else if logsNow op ∧ s.logFull then
    some ((s1.event Code.SEC_LOG_UNAVAILABLE 0 locSecurity (secDetail x.pitch 0 s.logSeq)).reply n h.seq op Code.SEC_LOG_UNAVAILABLE [])
  else
    match s1.serveCmd { n := n, x := x, seq := h.seq, op := op, tod := h.tod } h.cmd with
    | .wait => none
    | .later on t =>
      match on with
      | none => some t
      | some w => some (t.deferReply n h.seq op h.tod w)
    | .done status body t =>
      let t1 := t.reply n h.seq op status body
      some (if h.cmd = .close then t1.endSession n else t1)

/-- The request that a session executes next, if it is there and the one before it has replied. -/
def Session.next? (x : Session) : Option HeldReq :=
  if x.waiting.isSome then none else x.held.find? fun h => decide (h.seq = x.run)

/-- The first session of several that can execute a request does so. -/
def State.runNext (s : State) : List Nat → Option State
  | [] => none
  | n :: rest =>
    match (s.session n).bind fun x => x.next?.bind fun h => s.execute n x h with
    | some t => some t
    | none => s.runNext rest

/-- A session put in its place by the arrival of the request that it executes next; sessions with none go last. -/
def insertSession (x : Nat × Session) : Sparse Session → Sparse Session
  | [] => [x]
  | y :: rest =>
    match x.2.next?, y.2.next? with
    | some h, some g => if h.came ≤ g.came then x :: y :: rest else y :: insertSession x rest
    | some _, none => x :: y :: rest
    | none, _ => y :: insertSession x rest

/-- The numbers of the sessions, in the order in which the requests that they execute next arrived (R379). -/
def State.turns (s : State) : List Nat := (s.host.sessions.foldr insertSession []).map (·.1)

/-- Requests executed until none can. -/
def State.runAll : Nat → State → State
  | 0, s => s
  | fuel + 1, s =>
    match s.runNext s.turns with
    | some t => State.runAll fuel t
    | none => s

/-- Dzisia pair 0, or the Lantern where it serves, executes what it can: nothing while the mailbox only answers BUSY (R380, log 107). -/
def State.drain (s : State) : State :=
  if s.fld Reg.MBX_STATUS_SERVER = 1 then s
  else State.runAll (s.host.sessions.map fun e => e.2.held.length).sum s

/-! Arrival (R369-R372). -/

/-- Whether a frame of some length is taken at a host port that is up: untagged, whole, IPv6, of at most 9,216 bytes (R365, R366). -/
def State.hears (s : State) (port : Nat) (f : FrameForm) (len : Nat) : Bool := s.hostIsUp port && decide (f = .plain ∧ len ≤ 9216)

/-- A frame that a port discards: one with a tag or a bad check sequence is counted (R365, R393). -/
def State.discardFrame (s : State) (port : Nat) (f : FrameForm) : State :=
  if s.hostIsUp port ∧ (f = .vlan ∨ f = .badCheck) then s.bump Ctr.HE_FCS 0 (locHost port) (36 + port) else s


/-- A datagram counted at its port. -/
def State.countRx (s : State) (r : Req) : State := s.accum Reg.HE_RX_BYTES (frameOverhead + r.bytes) (36 + r.port.val)

/-- The form check of R371: MAGIC, VERSION, TYPE 1, the reserved bits, and a LEN that is that of the datagram; `tag` tells that a tag follows
the body, as it does outside the opening exchange (R369). -/
def dzmpForm (r : Req) (tag : Bool) : Bool :=
  let h := r.head.toNat
  h - ofBool (bit h 49) <<< 49 == dzmpHead 1 false && decide (r.len ≤ 4096) && r.bytes == 40 + r.len + (if tag then 16 else 0)

/-- A datagram discarded by form. -/
def State.dropForm (s : State) (r : Req) : State := s.bump Ctr.MBX_DROP 0 (locMbx r.port.val)
  (detail := mbxDetail r.session.toNat r.seq.toNat 0 r.source.toNat)

/-- A datagram discarded by authentication, with its event at most once a millisecond. -/
def State.dropAuth (s : State) (r : Req) (op : Nat) : State :=
  let d := mbxDetail r.session.toNat r.seq.toNat op r.source.toNat
  let s1 := s.bump Ctr.MBX_AUTH_FAIL 0 (locMbx r.port.val) (detail := d)
  if s1.host.authQuiet then s1
  else ({ s1 with host := { s1.host with authQuiet := true } } : State).event Code.MBX_AUTH_FAIL 0 (locMbx r.port.val) d

/-- Whether a counter is fresh (R372): senders start at 1. -/
def Session.fresh (x : Session) (ctr : Nat) : Bool :=
  decide (x.ctrTop < ctr) || (decide (1 ≤ ctr ∧ x.ctrTop ≤ ctr + 64) && !x.ctrSeen.contains ctr)

/-- A counter accepted, and where answers go. -/
def Session.took (x : Session) (r : Req) : Session :=
  let c := r.ctr.toNat
  { x with
    ctrTop := max x.ctrTop c, ctrSeen := (c :: x.ctrSeen).filter (fun v => decide (max x.ctrTop c ≤ v + 64))
    port := r.port.val, addr := r.source.toNat, udp := r.udp.toNat }

/-- BUSY; one that the Lantern answers counts in MBX_PROXY_BUSY (R381, R393). -/
def State.busy (s : State) (n : Nat) (r : Req) (op retry : Nat) : State :=
  let d := mbxDetail n r.seq.toNat op r.source.toNat
  let s1 := if s.lanternServes then s.bump Ctr.MBX_PROXY_BUSY 0 (locMbx r.port.val) (detail := d) else s
  s1.answerSession n typeBusy r.seq.toNat op Code.MBX_BUSY retry []

/-- The Lantern's BUSY in place of Dzisia pair 0 (R380, R381): the request is discarded. -/
def State.proxyBusy (s : State) (n : Nat) (r : Req) (op : Nat) : State :=
  let retry := if s.boot.hand ≠ 0 then 200 else 100
  (s.bump Ctr.MBX_PROXY_BUSY 0 (locMbx r.port.val) (detail := mbxDetail n r.seq.toNat op r.source.toNat)).sessionSend n true typeBusy r.seq.toNat
    op Code.MBX_BUSY retry []

/-- How many requests a session has between receipt and reply. -/
def Session.holds (x : Session) : Nat := x.held.length + (if x.waiting.isSome then 1 else 0)

/-- NEXT after a SEQ is received: past every SEQ received without a gap; and the SEQs received beyond it. -/
def advance : Nat → Nat → List Nat → Nat × List Nat
  | 0, next, early => (next, early)
  | fuel + 1, next, early => if early.contains next then advance fuel ((next + 1) % 2 ^ 32) (early.filter (· ≠ next)) else (next, early)

/-- A new request accepted (R376): held until its turn. -/
def Session.accept (x : Session) (h : HeldReq) : Session :=
  let (next, early) := advance 16 x.next (x.early ++ [h.seq])
  { x with next := next, early := early, held := x.held ++ [h] }

/-- The sequence rule of R376. -/
def State.sequence (s : State) (n : Nat) (r : Req) (c : Cmd) : State :=
  let seq := r.seq.toNat
  let op := opcodeOf c
  match s.session n with
  | none => s
  | some x =>
    match x.done.find? fun d => decide (d.seq = seq) with
    | some d => (s.answerSession n typeReply seq d.opcode d.status 0 d.body).drain
    | none =>
      if (x.held.any fun h => decide (h.seq = seq)) ∨ (x.waiting.map (·.1)) = some seq then (s.answerSession n typeAck seq op 0 0 []).drain
      else if 15 < (seq + 2 ^ 32 - x.next) % 2 ^ 32 then
        (s.bump Ctr.MBX_STALE 0 (locMbx r.port.val) (detail := mbxDetail n seq op r.source.toNat)).answerSession n typeReply seq op Code.MBX_SEQ_STALE 0 []
      else if 16 ≤ x.holds then s.busy n r op 100
      else
        let s1 := (s.setSession n (x.accept { seq := seq, tod := r.tod.toNat, cmd := c, ok := r.bodyOk, came := s.fld Reg.MBX_REQ })).accum Reg.MBX_REQ 1
        let s2 := match c with
          | .jobStart _ => if s1.powerState = 2 then s1.withPower { s1.power with waking := true } else s1
          | _ => s1
        let s3 := s2.drain
        match s3.session n with
        | none => s3
        | some y => if y.done.any fun d => decide (d.seq = seq) then s3 else s3.answerSession n typeAck seq op 0 0 []

/-- A datagram at a host port (R365, R366, R371): none where the port is down or the frame or the datagram's form discards it, with the state
after; else the state in which it is looked at. A datagram for another UDP port has no listener. -/
def State.arrival (s : State) (r : Req) (tag : Bool) : Bool × State :=
  if !s.hears r.port.val r.frame (frameOverhead + r.bytes) then (false, s.discardFrame r.port.val r.frame)
  else
    let s1 := s.countRx r
    if r.dport.toNat ≠ dzmpPort then (false, s1)
    else if !dzmpForm r tag then (false, s1.dropForm r)
    else (true, s1)

/-- The authentication check of R371: the session that a datagram names, with its counter taken, or nothing. -/
def State.authentic (s : State) (r : Req) : Option Session :=
  match s.session r.session.toNat with
  | none => none
  | some x => if x.fresh r.ctr.toNat && r.tagOk then some (x.took r) else none

/-- A request at a host port (R371, R380, R496, log 108). -/
def State.mailbox (s : State) (r : Req) (c : Cmd) : State :=
  let n := r.session.toNat
  let op := opcodeOf c
  let (ok, s1) := s.arrival r true
  if !ok then s1
  else match s1.authentic r with
    | none => s1.dropAuth r op
    | some x =>
      let s2 := s1.setSession n x
      if ctrLimit < r.ctr.toNat then s2.endSession n
      else if s2.fld Reg.MBX_STATUS_SERVER = 1 then s2.proxyBusy n r op
      else if s2.starting ∧ !standbyOp op then s2.busy n r op 10000
      else s2.sequence n r c

/-! Sessions (R373, R375, R430). -/

/-- Whether a digest names a key registered for a role and pitch (R430). -/
def State.credOk (s : State) (b : OpenBody) : Bool :=
  if b.role = 0 then keyDigest s.sec.ownerKey == b.cred
  else if b.role = 1 then
    (s.fld Reg.SEC_PITCH_CTL_STATE b.pitch == 2 || s.fld Reg.SEC_PITCH_CTL_STATE b.pitch == 3)
      && keyDigest (s.fld Reg.SEC_TENANT_KEY_KEY b.pitch) == b.cred
  else (s.stewards.map keyDigest).contains b.cred

/-- Whether a slot is free for a role (R375): two of the 32 are kept for the Warden. -/
def State.slotFree (s : State) (role : Nat) : Bool :=
  let wardens := (s.host.sessions.filter fun e => decide (e.2.role = 0)).length
  if role = 0 then decide (s.host.sessions.length < 32) else decide (s.host.sessions.length + (2 - wardens) < 32)

/-- The first failing check of an OPEN, or 0. -/
def State.openRefusal (s : State) (r : Req) (b : OpenBody) : Nat :=
  if !r.bodyOk ∨ 2 < b.role ∨ (b.role = 1 ∧ (b.pitch = 0 ∨ 8 < b.pitch)) ∨ (b.role ≠ 1 ∧ b.pitch ≠ 0) then Code.MBX_FORMAT_INVALID
  else if !s.credOk b ∨ !b.sigOk then Code.SEC_CRED_INVALID
  else if !s.slotFree b.role then Code.MBX_SESSION_LIMIT
  else 0

/-- A plain answer of the opening exchange. -/
def State.plain (s : State) (r : Req) (type status retry : Nat) (body : Bytes) : State :=
  s.sendDgram r.port.val r.source.toNat r.udp.toNat type 0 r.seq.toNat 1 status retry 0 s.lanternServes false body

/-- Bytes 0-139 of an OPEN body (R373). -/
def openBody (b : OpenBody) : Bytes :=
  toBytes 140 (b.role ||| b.pitch <<< 8 ||| b.cred <<< 128 ||| b.hostKx <<< 384 ||| b.nonce <<< 832 ||| b.initSeq.toNat <<< 1088)

/-- The 40 bytes of an OPEN request's header (R370). -/
def openHeader (r : Req) : Bytes :=
  toBytes 40 (r.head.toNat ||| r.len <<< 64 ||| 1 <<< 96 ||| r.seq.toNat <<< 160 ||| r.ctr.toNat <<< 192 ||| r.tod.toNat <<< 256)

/-- The 96 bytes of a session's keys as a number (R373), from the X448 secret, the two nonces and the session's number. -/
def sessionKeys (secret hostNonce nonce n : Nat) : Nat :=
  ofBytes (shake256 (ascii "PL480DZMP" ++ toBytes 56 secret ++ toBytes 32 hostNonce ++ toBytes 32 nonce ++ toBytes 4 n) 96)

/-- A session opened (R373): its number, the device's nonce and its X448 private key drawn, the keys derived, the reply signed together
with the request (log 128). -/
def State.openSession (s : State) (r : Req) (b : OpenBody) : State :=
  let (a, s1) := s.draw (2 ^ 32)
  let (nonce, s2) := s1.draw (2 ^ 256)
  let (secret, s4) := s2.draw (2 ^ 448)
  let kx := Config.x448 secret 5
  let n := freshNumber (2 ^ 32) (s.host.sessions.map (·.1)) 33 a
  let keys := sessionKeys (Config.x448 secret b.hostKx) b.nonce nonce n
  let x : Session := { role := b.role, pitch := b.pitch, cred := b.cred, keys := keys, ctrTop := 0, ctrSeen := [], ctrOut := 0, ctrProxy := 0
                       next := b.initSeq.toNat, run := b.initSeq.toNat, early := [], held := [], waiting := none, done := []
                       port := r.port.val, addr := r.source.toNat, udp := r.udp.toNat }
  let head := toBytes 4 n ++ toBytes 32 nonce ++ toBytes 56 kx
  let request := openHeader r ++ openBody b
  ((s4.standbyPower.setSession n x).accum Reg.MBX_REQ 1).plain r typeReply 0 0
    (head ++ identitySign [] (head ++ request))

/-- OPEN (R373, R375, R430). One that names a session is a request of that session, in which it has no form (R371, log 128). -/
def execOpenSession (r : Req) (body : OpenBody) (s : State) : Host.Outcome State Fault Refusal :=
  if r.session ≠ 0 then .next (s.mailbox { r with bodyOk := false } (.unlisted 1))
  else
    let (ok, s1) := s.arrival r false
    if !ok then .next s1
    else if s1.fld Reg.MBX_STATUS_SERVER = 1 then
      .next ((s1.bump Ctr.MBX_PROXY_BUSY 0 (locMbx r.port.val)).plain r typeBusy Code.MBX_BUSY (if s1.boot.hand ≠ 0 then 200 else 100) [])
    else
      let s2 := s1.plain r typeAck 0 0 []
      let code := s2.openRefusal r body
      if code ≠ 0 then .next ((s2.accum Reg.MBX_REQ 1).plain r typeReply code 0 []) else .next (s2.openSession r body)

/-- SESSION_IDLE_TIMEOUT (R375): a session without an authenticated request for IDLE_S seconds ends; nothing runs out while the Lantern
only answers BUSY or the module has no power. -/
def execSessionIdleTimeout (n : Nat) (s : State) : Host.Outcome State Fault Refusal := .next (s.endSession n)

/-- LANTERN_CLAIM (R380, R381): a request that Dzisia pair 0 has not claimed is answered BUSY and discarded. -/
def execLanternClaim (r : Req) (opcode : Nat) (s : State) : Host.Outcome State Fault Refusal :=
  let n := r.session.toNat
  if 2 ≤ s.fld Reg.MBX_STATUS_SERVER then .next s
  else
    let (ok, s1) := s.arrival r true
    if !ok then .next s1
    else match s1.authentic r with
      | none => .next (s1.dropAuth r opcode)
      | some x =>
        if ctrLimit < r.ctr.toNat then .next ((s1.setSession n x).endSession n) else .next ((s1.setSession n x).proxyBusy n r opcode)

/-! One row per command. -/

/-- CLOSE (R375). -/
def execClose (r : Req) (s : State) : Host.Outcome State Fault Refusal := .next (s.mailbox r .close)

/-- PING (R383). -/
def execPing (r : Req) (body : Bytes) (s : State) : Host.Outcome State Fault Refusal := .next (s.mailbox r (.ping body))

/-- UNLISTED_OPCODE_REQUEST (R383). -/
def execUnlistedOpcodeRequest (r : Req) (opcode : Nat) (s : State) : Host.Outcome State Fault Refusal :=
  .next (s.mailbox r (.unlisted opcode))

/-- MEM_READ (R385). -/
def execMemRead (r : Req) (addr len : Nat) (s : State) (lines : List (Option ReadErr) := []) : Host.Outcome State Fault Refusal :=
  .next (s.mailbox r (.memRead addr len lines))

/-- MEM_WRITE (R385). -/
def execMemWrite (r : Req) (addr : Nat) (data : Bytes) (s : State) : Host.Outcome State Fault Refusal :=
  .next (s.mailbox r (.memWrite addr data))

/-- WIN_OPEN (R386). -/
def execWinOpen (r : Req) (addr len access peer : Nat) (s : State) : Host.Outcome State Fault Refusal :=
  .next (s.mailbox r (.winOpen addr len access peer))

/-- WIN_CLOSE (R386). -/
def execWinClose (r : Req) (rkey : Nat) (s : State) : Host.Outcome State Fault Refusal := .next (s.mailbox r (.winClose rkey))

/-- JOB_START (R387). -/
def execJobStart (r : Req) (addr : Nat) (s : State) : Host.Outcome State Fault Refusal := .next (s.mailbox r (.jobStart addr))

/-- JOB_SEED (R443). -/
def execJobSeed (r : Req) (seed nonce : Nat) (s : State) : Host.Outcome State Fault Refusal :=
  .next (s.mailbox r (.jobSeed seed nonce))

/-- JOB_END (R387). -/
def execJobEnd (r : Req) (force : Bool) (s : State) : Host.Outcome State Fault Refusal := .next (s.mailbox r (.jobEnd force))

/-- JOB_STATUS (R383). -/
def execJobStatus (r : Req) (s : State) : Host.Outcome State Fault Refusal := .next (s.mailbox r .jobStatus)

/-- STREAM_START (R388). -/
def execStreamStart (r : Req) (camp : Camp) (slot : Slot) (record : Nat) (s : State) : Host.Outcome State Fault Refusal :=
  .next (s.mailbox r (.streamStart camp slot record))

/-- STREAM_RESUME (R173). -/
def execStreamResume (r : Req) (camp : Camp) (slot : Slot) (skip : Bool) (s : State) : Host.Outcome State Fault Refusal :=
  .next (s.mailbox r (.streamResume camp slot skip))

/-- STREAM_ABORT (R388). -/
def execStreamAbort (r : Req) (camp : Camp) (slot : Slot) (s : State) : Host.Outcome State Fault Refusal :=
  .next (s.mailbox r (.streamAbort camp slot))

/-- STREAM_STATUS (R383). -/
def execStreamStatus (r : Req) (camp : Camp) (slot : Slot) (s : State) : Host.Outcome State Fault Refusal :=
  .next (s.mailbox r (.streamStatus camp slot))

/-- STASH_FREE (R182). -/
def execStashFree (r : Req) (mbatch : Option Nat) (s : State) : Host.Outcome State Fault Refusal :=
  .next (s.mailbox r (.stashFree mbatch))

/-- TALLY_READ (R383). -/
def execTallyRead (r : Req) (camp : Camp) (first count : Nat) (s : State) : Host.Outcome State Fault Refusal :=
  .next (s.mailbox r (.tallyRead camp first count))

/-- TALLY_SET (R389). -/
def execTallySet (r : Req) (camp : Camp) (tally : Fin 1024) (count limit : Option (BitVec 32)) (s : State) : Host.Outcome State Fault Refusal :=
  .next (s.mailbox r (.tallySet camp tally count limit))

/-- GUY_SET (R389). -/
def execGuySet (r : Req) (guy : Guyline) (camp : Option Camp) (s : State) : Host.Outcome State Fault Refusal :=
  .next (s.mailbox r (.guySet guy camp))

/-- FENCE (R390). -/
def execFence (r : Req) (loc : BitVec 32) (s : State) : Host.Outcome State Fault Refusal := .next (s.mailbox r (.fence loc))

/-- UNFENCE (R473). -/
def execUnfence (r : Req) (loc : BitVec 32) (s : State) : Host.Outcome State Fault Refusal := .next (s.mailbox r (.unfence loc))

/-- UNIT_STATE (R472). -/
def execUnitState (r : Req) (loc : BitVec 32) (s : State) : Host.Outcome State Fault Refusal := .next (s.mailbox r (.unitState loc))

/-- COMMIT_STATUS (R383). -/
def execCommitStatus (r : Req) (s : State) : Host.Outcome State Fault Refusal := .next (s.mailbox r .commitStatus)

/-- COMMIT_SETTLE (R238). -/
def execCommitSettle (r : Req) (step attempt : Nat) (commit : Bool) (s : State) : Host.Outcome State Fault Refusal :=
  .next (s.mailbox r (.commitSettle step attempt commit))

/-- REG_READ (R384). -/
def execRegRead (r : Req) (addrs : List Nat) (s : State) : Host.Outcome State Fault Refusal := .next (s.mailbox r (.regRead addrs))

/-- REG_WRITE (R384). -/
def execRegWrite (r : Req) (pairs : List (Nat × Nat)) (s : State) : Host.Outcome State Fault Refusal :=
  .next (s.mailbox r (.regWrite pairs))

/-- EVENT_READ (R391). -/
def execEventRead (r : Req) (index : BitVec 64) (s : State) : Host.Outcome State Fault Refusal :=
  .next (s.mailbox r (.eventRead index))

/-- TELEM_READ (R425). -/
def execTelemRead (r : Req) (selector argument : Nat) (s : State) : Host.Outcome State Fault Refusal :=
  .next (s.mailbox r (.telemRead selector argument))

/-- PORT_CMD (R343). -/
def execPortCmd (r : Req) (port : Fin 38) (action : Fin 3) (s : State) : Host.Outcome State Fault Refusal :=
  .next (s.mailbox r (.portCmd port action))

/-- POWER_STATE (R418). -/
def execPowerState (r : Req) (target : Nat) (s : State) : Host.Outcome State Fault Refusal := .next (s.mailbox r (.powerState target))

/-- HBM_TEST (R327). -/
def execHbmTest (r : Req) (enter : Bool) (settings : List (PseudoCh × Nat × Nat × Nat × Nat)) (s : State) : Host.Outcome State Fault Refusal :=
  .next (s.mailbox r (.hbmTest enter settings))

/-- LOG_READ (R449). -/
def execLogRead (r : Req) (seq : BitVec 64) (s : State) : Host.Outcome State Fault Refusal := .next (s.mailbox r (.logRead seq))

/-- LOG_CHECKPOINT (R448). -/
def execLogCheckpoint (r : Req) (s : State) : Host.Outcome State Fault Refusal := .next (s.mailbox r .logCheckpoint)

/-- ATTEST (R454). -/
def execAttest (r : Req) (nonce : Nat) (s : State) : Host.Outcome State Fault Refusal := .next (s.mailbox r (.attest nonce))

/-- FW_STAGE (R502). -/
def execFwStage (r : Req) (slot : Fin 2) (offset : Nat) (data : Bytes) (s : State) : Host.Outcome State Fault Refusal :=
  .next (s.mailbox r (.fwStage slot offset data))

/-- FW_VERIFY (R502). -/
def execFwVerify (r : Req) (slot : Fin 2) (readable : Bool) (s : State) : Host.Outcome State Fault Refusal :=
  .next (s.mailbox r (.fwVerify slot readable))

/-- FW_ACTIVATE (R504). -/
def execFwActivate (r : Req) (slot : Fin 2) (raise : Bool) (s : State) : Host.Outcome State Fault Refusal :=
  .next (s.mailbox r (.fwActivate slot raise))

/-- FW_STATUS (R503). -/
def execFwStatus (r : Req) (s : State) : Host.Outcome State Fault Refusal := .next (s.mailbox r .fwStatus)

end Sys2Proof.Machine
end

