-- ==== Sys2Proof/Machine/Net.lean ====
section
/-! DEFINITION. The host ports beside the mailbox (R365-R368, R386): links, LLDP, ICMPv6, neighbour discovery, RoCEv2. -/
namespace Sys2Proof.Machine

open Sys2Proof

/-- Whether a host port is powered: HE1 is not in STANDBY and Bivouac mode (R25, R500), neither is without standby rails. -/
def State.portPowered (s : State) (n : Nat) : Bool := !s.boot.unpowered && (n == 0 || s.running || s.starting)

/-- HOST_LINK_DOWN (R368): sessions go on at the other port. -/
def execHostLinkDown (port : HePort) (s : State) : Host.Outcome State Fault Refusal :=
  if s.fld Reg.HE_STATUS_STATE (36 + port.val) = 0 then .next s else .next (s.hostDown port.val 0)

/-- HOST_LINK_UP (R343, R368): a port that is not held down comes up on its lanes. -/
def execHostLinkUp (port : HePort) (lanes : Fin 16) (s : State) : Host.Outcome State Fault Refusal :=
  if !s.portPowered port.val ∨ (s.hostPort port.val).held ∨ lanes.val = 0 ∨ s.hostIsUp port.val then .next s
  else .next (s.hostUp port.val lanes.val)

/-! Ethernet frames. -/

/-- The bytes of a frame with an IPv6 packet, and of one without, beside their payload: header and check sequence, and 40 for IPv6. -/
def ipFrame : Nat := 58
/-- Without IPv6. -/
def bareFrame : Nat := 18

/-- A frame leaves a port. -/
def State.sendFrame (s : State) (port kind dest overhead : Nat) (body : Bytes) : State :=
  (s.accum Reg.HE_TX_BYTES (overhead + body.length) (36 + port)).send (.frame port kind dest body)

/-- A frame came in. -/
def State.gotFrame (s : State) (port n : Nat) : State := s.accum Reg.HE_RX_BYTES n (36 + port)

/-- The decimal digits of a number below 100 as characters. -/
def decimal (n : Nat) : Bytes := if n < 10 then [48 + n] else [48 + n / 10, 48 + n % 10]

/-- An LLDP TLV: type and length in two bytes, high byte first. -/
def lldpTlv (type : Nat) (body : Bytes) : Bytes :=
  let h := type <<< 9 ||| body.length
  [h / 256 % 256, h % 256] ++ body

/-- The TLVs that a port sends (R367); identifiers as locally assigned. -/
def State.lldpBody (s : State) (n : Nat) : Bytes :=
  lldpTlv 1 (7 :: toBytes 8 Config.serial) ++ lldpTlv 2 (7 :: ascii "HE" ++ [48 + n]) ++ lldpTlv 3 [0, 120]
    ++ lldpTlv 5 (ascii "STD-PL480 slot" ++ decimal (s.boot.slotId % 64)) ++ lldpTlv 0 []

/-- LLDP_TRANSMIT (R367): every port that is up sends. -/
def execLldpTransmit (s : State) : Host.Outcome State Fault Refusal :=
  .next ([0, 1].foldl (fun (t : State) n => if t.hostIsUp n then t.sendFrame n 0x88CC 0x0180C200000E bareFrame (t.lldpBody n) else t) s)

/-- LLDP_RECEIVE (R367): the last neighbour's TLVs are kept. -/
def execLldpReceive (port : HePort) (tlvs : Bytes) (s : State) (frame : FrameForm := .plain) : Host.Outcome State Fault Refusal :=
  if s.hears port.val frame (bareFrame + tlvs.length) then
    .next ((s.gotFrame port.val (bareFrame + tlvs.length)).setHostPort port.val { s.hostPort port.val with lldp := tlvs })
  else .next (s.discardFrame port.val frame)

/-- ICMPV6_ECHO (R366). -/
def execIcmpv6Echo (port : HePort) (source : BitVec 128) (body : Bytes) (s : State) (frame : FrameForm := .plain) :
    Host.Outcome State Fault Refusal :=
  if s.hears port.val frame (ipFrame + 8 + body.length) then
    .next ((s.gotFrame port.val (ipFrame + 8 + body.length)).sendFrame port.val 129 source.toNat (ipFrame + 8) body)
  else .next (s.discardFrame port.val frame)

/-- The addresses of a port. -/
def HostPort.addresses (x : HostPort) : List Nat := x.linkLocal :: x.auto ++ x.fixed

/-- NEIGHBOUR_DISCOVERY (R366): an address of the port is advertised, a neighbour is learnt, a prefix gives an address. -/
def execNeighbourDiscovery (port : HePort) (m : NdMessage) (s : State) (frame : FrameForm := .plain) : Host.Outcome State Fault Refusal :=
  let n := port.val
  let x := s.hostPort n
  if !s.hears n frame 0 then .next (s.discardFrame n frame)
  else match m with
    | .solicit source target =>
      let s1 := s.gotFrame n (ipFrame + 32)
      if x.addresses.contains target.toNat then
        .next (s1.sendFrame n 136 source.toNat (ipFrame + 24) (toBytes 8 ((Config.macAddress + n) % 2 ^ 48)))
      else .next s1
    | .advertise target mac =>
      .next ((s.gotFrame n (ipFrame + 32)).setHostPort n { x with
        neighbours := (target.toNat, mac.toNat) :: x.neighbours.filter fun y => decide (y.1 ≠ target.toNat) })
    | .router pfx =>
      let a := pfx.toNat <<< 64 ||| interfaceId n
      .next ((s.gotFrame n (ipFrame + 48)).setHostPort n { x with auto := if x.auto.contains a then x.auto else x.auto ++ [a] })

/-! RoCEv2 (R386). -/

/-- The answers of a responder: an acknowledgement or read response, a remote-access NAK, a congestion notification, a remote-operation
NAK. -/
def roceAck : Nat := 0
/-- Remote-access NAK. -/
def roceNak : Nat := 1
/-- Congestion notification packet. -/
def roceCnp : Nat := 2
/-- Remote-operation NAK. -/
def roceOpNak : Nat := 3

/-- The bytes of the frames of a message of `n` bytes in packets of 4,096, with `extra` bytes of extended headers (log 113). -/
def roceBytes (n extra : Nat) : Nat := 82 * max 1 ((n + 4095) / 4096) + n + extra

/-- An answer leaves. -/
def State.sendRoce (s : State) (p : Rdma) (answer bytes : Nat) (body : Bytes) : State :=
  (s.accum Reg.HE_TX_BYTES bytes (36 + p.port.val)).send (.roce p.port.val p.source.toNat p.qp answer body)

/-- A congestion-experienced mark is answered. -/
def State.congestion (s : State) (p : Rdma) : State := if p.congested then s.sendRoce p roceCnp 98 [] else s

/-- A refused access: NAK, count, and the event at most once a millisecond for a window. -/
def State.refuseRdma (s : State) (p : Rdma) : State :=
  let w := sget noWindow s.host.windows p.rkey
  let d := mbxDetail w.session 0 0 p.source.toNat
  let s1 := (s.sendRoce p roceNak 86 []).bump Ctr.ROCE_REFUSED 0 (locHost p.port.val) (36 + p.port.val) (detail := d)
  if w.quiet then s1
  else
    let s2 : State := if w.session = 0 then s1
      else { s1 with host := { s1.host with windows := sset noWindow s1.host.windows p.rkey { w with quiet := true } } }
    s2.event Code.ROCE_ACCESS_REFUSED w.pitch (locMbx p.port.val) d

/-- Whether an access lies in its window: the queue pair, the peer, the permission, the range. -/
def Window.admits (w : Window) (p : Rdma) (n right : Nat) : Bool :=
  w.session != 0 && w.qp == p.qp && w.peer == p.source.toNat && w.access.testBit right && decide (w.base ≤ p.addr)
    && decide (p.addr + n ≤ w.base + w.length)

/-- RDMA_WRITE (R386). -/
def execRdmaWrite (p : Rdma) (data : Bytes) (s : State) : Host.Outcome State Fault Refusal :=
  let w := sget noWindow s.host.windows p.rkey
  if !s.hears p.port.val p.frame 0 then .next (s.discardFrame p.port.val p.frame)
  else
    let s1 := (s.gotFrame p.port.val (roceBytes data.length 16)).congestion p
    if !w.admits p data.length 1 then .next (s1.refuseRdma p)
    else match s1.writeAt w.pitch (s1.mapOf w.pitch) none p.addr data with
      | .ok t => .next (t.sendRoce p roceAck 86 [])
      | .err .. => .next (s1.refuseRdma p)
      | .wait => .next s

/-- RDMA_READ (R386). -/
def execRdmaRead (p : Rdma) (len : Nat) (s : State) : Host.Outcome State Fault Refusal :=
  let w := sget noWindow s.host.windows p.rkey
  if !s.hears p.port.val p.frame 0 then .next (s.discardFrame p.port.val p.frame)
  else
    let s1 := (s.gotFrame p.port.val (roceBytes 0 16)).congestion p
    if !w.admits p len 0 then .next (s1.refuseRdma p)
    else match s1.readAt w.pitch (s1.mapOf w.pitch) p.addr len with
      | .ok bs => .next (s1.sendRoce p roceAck (roceBytes len (if len ≤ 4096 then 4 else 8)) bs)
      | .err .. => .next (s1.refuseRdma p)
      | .wait => .next s

/-- ROCE_UNSUPPORTED_OPERATION (R386): SEND, atomics and unreliable transports. -/
def execRoceUnsupportedOperation (p : Rdma) (s : State) : Host.Outcome State Fault Refusal :=
  if !s.hears p.port.val p.frame 0 then .next (s.discardFrame p.port.val p.frame)
  else .next (((s.gotFrame p.port.val (roceBytes 0 0)).congestion p).sendRoce p roceOpNak 86 [])

end Sys2Proof.Machine
end

