-- ==== Sys2Proof/Machine/Ahead.lean ====
section
/-! DEFINITION. Entries that reach flash, and the changes that wait for them (R445, R447, R448, R451, R504, R507). -/
namespace Sys2Proof.Machine

open Sys2Proof

/-- The register whose ACTION a change answers for, back at zero (R456). -/
def State.clearAction (s : State) : Change → State
  | .assign p => s.setFld Reg.SEC_PITCH_CTL_ACTION 0 p
  | .keyed p => s.setFld Reg.SEC_PITCH_CTL_ACTION 0 p
  | .apply p => s.setFld Reg.SEC_PITCH_CTL_ACTION 0 p
  | .seal p => s.setFld Reg.SEC_PITCH_CTL_ACTION 0 p
  | .release p => s.setFld Reg.SEC_PITCH_CTL_ACTION 0 p
  | .forceRelease p => s.setFld Reg.SEC_PITCH_CTL_ACTION 0 p
  | .forced p => s.setFld Reg.SEC_PITCH_CTL_ACTION 0 p
  | .ownerTransfer => s.setFld Reg.SEC_OWNER_CTL_ACTION 0
  | .transferred => s.setFld Reg.SEC_OWNER_CTL_ACTION 0
  | .unlock _ => s.setFld Reg.SEC_DEBUG_FLAGS_UNLOCK 0
  | .unlocked _ => s.setFld Reg.SEC_DEBUG_FLAGS_UNLOCK 0
  | _ => s

/-- A reply that waits for the end of a pitch's job, if a request waits. -/
def State.deferJob (s : State) (a : Ahead) (tod p : Nat) : State :=
  match a.reply with
  | some (n, seq, op) => s.deferReply n seq op tod (.job p)
  | none => s

/-- A change that no longer may take effect: its request is answered with a code. -/
def State.tooLate (s : State) (a : Ahead) (code : Nat) : State := (s.clearAction a.change).replyTo a.reply code []

/-- A change that took effect: its request is answered. -/
def State.tookEffect (s : State) (a : Ahead) (body : Bytes := []) : State := (s.clearAction a.change).replyTo a.reply 0 body

/-- An image below the floor shows it (R507). -/
def State.belowFloor (s : State) (k : Nat) : State :=
  if (s.fwSlot k).state ≠ 0 ∧ imgSvn (s.manifest k) < s.fld Reg.SEC_FUSE_FLOOR then s.slotState k 5 else s

/-- The floor on its way to the running image's SVN, one count at a time (R507). -/
def State.raiseFloor (s : State) (svn k session tod : Nat) : State :=
  if s.fld Reg.SEC_FUSE_FLOOR < svn ∧ !s.fuseSpent 2 then s.fuseAhead 2 0 actorFirmware session tod (.floor svn k) none
  else s.belowFloor (1 - k)

/-- FW_ACTIVATE takes effect: a hand-off is announced (R504), or Bivouac mode is left (R500). -/
def State.activate (s : State) (a : Ahead) (e : LogEntry) (k : Nat) (raise : Bool) : State :=
  if (s.fwSlot k).state ≠ 2 then s.tooLate a Code.FW_NOT_VERIFIED
  else if s.phase = 8 then
    let s1 := ((s.setFld Reg.STU_STATUS_FAILS 0).setFld Reg.STU_STATUS_ACTIVE k).event Code.BIVOUAC_LEFT 0 locLantern (s.imageDetail 0 k)
    (s1.tookEffect a [0]).enterHold
  else if s.handBlocked then s.tooLate a Code.MBX_STATE_CONFLICT
  else
    let s1 := match a.reply with
      | some (n, seq, op) => s.deferReply n seq op e.tod .handoff
      | none => s
    { (s1.setFld Reg.MBX_STATUS_SERVER 1) with boot := { s1.boot with hand := 1, handSlot := k, handRaise := raise } }

/-- A change takes effect once its entry is in flash (R431, R433-R435, R440, R441, R443, R445, R448). -/
def State.takeEffect (s : State) (a : Ahead) : State :=
  let e := s.entryOf a.seq
  match a.change with
  | .checkpoint => s.tookEffect a (((logFrom s.sec.log.base a.seq s.sec.log.entries).head?.map fun x => x.2.header x.1 ++ x.2.bodyBytes x.1).getD [])
  | .assign p =>
    if !s.stillAllowed p 1 e.actor then s.tooLate a Code.MBX_STATE_CONFLICT
    else (s.beginAssign p).logKeys p e.tod e.session 1 (.keyed p) a.reply [keyHbm]
  | .keyed p => (s.keyAssign p).tookEffect a
  | .apply p => if s.stillAllowed p 2 e.actor then (s.applyLayout p).tookEffect a else s.tooLate a Code.MBX_STATE_CONFLICT
  | .seal p =>
    if s.stillAllowed p 3 e.actor then ((s.setFld Reg.SEC_PITCH_CTL_STATE 3 p).splitBudget p).tookEffect a
    else s.tooLate a Code.MBX_STATE_CONFLICT
  | .release p =>
    if s.stillAllowed p 4 e.actor then ((s.clearAction a.change).deferJob a e.tod p).beginRelease p else s.tooLate a Code.MBX_STATE_CONFLICT
  | .forceRelease p =>
    if s.stillAllowed p 5 e.actor then (s.burnFuse 3).pitchEntry p 5 e.actor e.session e.tod (.forced p) a.reply
    else s.tooLate a Code.MBX_STATE_CONFLICT
  | .forced p =>
    (((s.clearAction a.change).event Code.SEC_PITCH_FORCED 0 locSecurity (secDetail p 5 a.seq)).deferJob a e.tod p).beginRelease p
  | .released p => s.finishRelease p
  | .ended p => (s.closeJob p).replyWaits (.job p) 0 fun _ => []
  | .seed p seed nonce job =>
    if (s.job p).num = job ∧ !s.seedRefused p seed nonce then (s.installSeed p seed nonce job).tookEffect a
    else s.tooLate a Code.MBX_STATE_CONFLICT
  | .fab0Key key =>
    if s.sec.fabDigests.contains (fabricDigest key) then s.tooLate a Code.MBX_STATE_CONFLICT
    else ((s.installFabricKey 0 key).pump).tookEffect a
  | .ownerTransfer =>
    if s.transferRefusal 0 = 0 then (s.burnFuse 0).logKeys 0 e.tod e.session 1 .transferred a.reply [keyHbm]
    else s.tooLate a Code.MBX_STATE_CONFLICT
  | .transferred => s.transferOwner.tookEffect a
  | .unlock d =>
    if s.unlockRefusal 0 = 0 then (s.burnFuse 1).logAhead 0x0060 e.actor 0 0 e.session e.tod [d, 1] (.unlocked d) a.reply
    else s.tooLate a Code.MBX_STATE_CONFLICT
  | .unlocked d =>
    let s1 : State := { s with sec := { s.sec with unlocked := some d } }
    ((s1.extend 6 (toBytes 32 d)).event Code.SEC_DEBUG_UNLOCKED 0 locSecurity (secDetail 0 1 a.seq)).replyTo a.reply 0 []
  | .lock => (({ s with sec := { s.sec with unlocked := none } } : State).setFld Reg.SEC_DEBUG_FLAGS_UNLOCK 0).replyTo a.reply 0 []
  | .activate k raise => s.activate a e k raise
  | .floor svn k =>
    let s1 := s.burnFuse 2
    (s1.event Code.FLOOR_RAISED 0 (locHarbour 0x08) (s1.imageDetail 0 k)).raiseFloor svn k e.session e.tod
  | .note => s.replyTo a.reply 0 []

/-- Changes that follow from one already made: flash that refuses them is tried again. -/
def Change.mustFollow : Change → Bool
  | .keyed _ => true
  | .released _ => true
  | .ended _ => true
  | _ => false

/-- Whether flash refuses writes, as last seen. -/
def State.setRefuses (s : State) (b : Bool) : State := { s with sec := { s.sec with log := { s.sec.log with refuses := b } } }

/-- The log-ahead entries after the first. -/
def State.popAhead (s : State) : State := { s with sec := { s.sec with log := { s.sec.log with ahead := s.sec.log.ahead.drop 1 } } }

/-- An entry that flash refused, taken back while it is the newest. -/
def State.takeBack (s : State) (seq : Nat) : State :=
  if s.logSeq = seq + 1 then
    ({ s with sec := { s.sec with log := { s.sec.log with entries := s.sec.log.entries.drop 1 } } } : State).setFld Reg.SEC_LOG_SEQ_SEQ seq
  else s

/-- A log-ahead entry that flash refuses (R447): its change is refused with SEC_LOG_UNAVAILABLE; a fuse burned for it stays burned
(R445). -/
def State.aheadRefused (s : State) (a : Ahead) : State :=
  let s1 := (s.setRefuses true).event Code.SEC_LOG_UNAVAILABLE 0 locSecurity (secDetail (s.entryOf a.seq).pitch 0 a.seq)
  if a.change.mustFollow then s1
  else
    let s2 := (s1.popAhead).takeBack a.seq
    let s3 : State := if a.change.burned then { s2 with boot := { s2.boot with mismatch := true } } else s2
    (s3.clearAction a.change).replyTo a.reply Code.SEC_LOG_UNAVAILABLE []

/-- LOG_AHEAD_DONE (R445, R447): the first log-ahead entry reaches flash, or flash refuses it. -/
def execLogAheadDone (accepted : Bool) (s : State) : Host.Outcome State Fault Refusal :=
  match s.sec.log.ahead with
  | [] => .next s
  | a :: _ =>
    if !s.sec.powered then .next s
    else if accepted then .next ((s.setRefuses false).popAhead.takeEffect a).drain
    else .next (s.aheadRefused a).drain

/-- LOG_FLUSH (R447): the oldest buffered entry reaches flash, and entries that waited for room are made; or flash refuses it. -/
def execLogFlush (accepted : Bool) (s : State) : Host.Outcome State Fault Refusal :=
  match s.sec.log.buffered with
  | [] => .next s
  | n :: rest =>
    if !s.sec.powered then .next s
    else if accepted then
      let s1 : State := { s with sec := { s.sec with log := { s.sec.log with buffered := rest, refuses := false } } }
      .next (s1.logPump s1.sec.log.later.length).drain
    else if s.sec.log.refuses then .next s
    else .next ((s.setRefuses true).event Code.SEC_LOG_UNAVAILABLE 0 locSecurity (secDetail 0 0 n)).drain

end Sys2Proof.Machine
end

