-- ==== Sys2Proof/Machine/Service.lean ====
section
/-! DEFINITION. What firmware and the Lantern do of their own accord (R314, R330, R413, R418, R423, R463, R468-R475, R504-R507): fences that end,
heartbeats, self-tests, crossings, trips, DOZE, restarts of a Dzisia pair, live hand-off. -/
namespace Sys2Proof.Machine

open Sys2Proof

/-! Fences (R469-R471). -/

/-- The requests emptied out of a fenced unit's crossings complete at their originators with UNIT_FENCED (R32, R470). -/
def State.emptyCrossings (s : State) (u : FUnit) (emptied : Caught) : State :=
  if s.latch u ≠ 2 then s
  else emptied.foldl (fun t x => match t.flightAt x.1.val x.2.1 x.2.2.val with
    | some f => if f.left = 0 then t else t.setFlight f.uid (·.part Code.UNIT_FENCED)
    | none => t) s

/-- FENCE_ACKNOWLEDGED (R32, R469, R470): a unit being fenced stands at its point, its island clocked. -/
def execFenceAcknowledged (loc : BitVec 32) (s : State) (emptied : Caught := []) : Host.Outcome State Fault Refusal :=
  match unitOf loc.toNat with
  | .error _ => .next s
  | .ok u => if s.running ∧ !s.campsGated ∧ s.latch u = 1 ∧ s.atFencePoint u then .next ((s.acknowledge u).emptyCrossings u emptied).drain else .next s

/-- FENCE_TIMEOUT (R32, R470 step 3): no acknowledgement within the timeout of the unit's level. -/
def execFenceTimeout (loc : BitVec 32) (s : State) (emptied : Caught := []) : Host.Outcome State Fault Refusal :=
  match unitOf loc.toNat with
  | .error _ => .next s
  | .ok u =>
    match u with
    | .die _ => .next s
    | _ => if s.running ∧ s.latch u = 1 then .next ((s.hardFence u (sget 0 s.rel.causes u.loc)).emptyCrossings u emptied).drain else .next s

/-! Heartbeats (R475). -/

/-- HEARTBEAT_TICK (R475): a sequencer that runs adds 1. -/
def execHeartbeatTick (c : Camp) (s : State) : Host.Outcome State Fault Refusal :=
  if s.running ∧ s.campRuns c.val then .next (s.setFld Reg.HB (s.fld Reg.HB c.val + 1) c.val) else .next s

/-- One camp's heartbeat read: three reads in a row that find it unchanged fence the camp hard (log 79). -/
def State.readBeat (emptied : Caught) (s : State) (c : Nat) : State :=
  let v := s.fld Reg.HB c
  let rest := s.rel.beats.filter fun b => decide (b.1 ≠ c)
  if !s.campRuns c then { s with rel := { s.rel with beats := rest } }
  else
    let last := (s.rel.beats.find? fun b => decide (b.1 = c)).getD (c, v + 1, 0)
    let misses := if last.2.1 = v then last.2.2 + 1 else 0
    if misses < 3 then { s with rel := { s.rel with beats := rest ++ [(c, v, misses)] } }
    else
      ((({ s with rel := { s.rel with beats := rest } } : State).event Code.HEARTBEAT_MISSED 0 (locCamp c) (relDetail 0xFFFF 5 0 0)).hardFence
        (.camp c) 5).emptyCrossings (.camp c) emptied

/-- A millisecond begins: events held back may be raised again, tags of requests given up long enough ago are free (R352, R371, R386). -/
def State.newMillisecond (s : State) : State :=
  { s with
    host := { s.host with authQuiet := false, windows := s.host.windows.map fun w => (w.1, { w.2 with quiet := false }) }
    fab := { s.fab with late := (s.fab.late.filter fun t => !t.2).map fun t => (t.1, true) } }

/-- HEARTBEAT_READ (R475): each millisecond Dzisia reads every HB_c, but during a hand-off (R505). -/
def execHeartbeatRead (s : State) (emptied : Caught := []) : Host.Outcome State Fault Refusal :=
  let s1 := s.newMillisecond
  if s.running ∧ s.boot.hand = 0 then .next ((List.range 16).foldl (State.readBeat emptied) s1.pump).drain else .next s1.pump.drain

/-! Self-tests (R468, R473). -/

/-- SELFTEST_PERIODIC (R468): an engine's turn comes, unless another of its camp is under test, or REPEAT defers it by up to 7 days. -/
def execSelftestPeriodic (e : Engine) (overdue : Bool) (s : State) : Host.Outcome State Fault Refusal :=
  let e := e.val
  let busy := s.rel.testing.any fun t => decide (t.1 / 8 = e / 8)
  let deferred := s.fld Reg.GOV_PITCH_CFG_REPEAT (s.campPitch (e / 8)) == 1 && !overdue
  if !s.running ∨ s.boot.hand ≠ 0 ∨ s.fld Reg.FEN_CFG_SELFTEST_H = 0 ∨ busy ∨ deferred ∨ s.latch (.engine e) ≠ 0 ∨ s.campFenced (e / 8) then .next s
  else .next (s.bringForward e 7)

/-- SELFTEST_DONE (R468, R473). -/
def execSelftestDone (t : SelfTest) (s : State) : Host.Outcome State Fault Refusal :=
  if !s.running ∨ s.boot.hand ≠ 0 then .next s
  else match t with
    | .engine e r =>
      match s.rel.testing.find? fun x => decide (x.1 = e.val) with
      | some (_, back) => if 2 ≤ s.latch (.engine e.val) then .next (s.engineTested e.val back r).drain else .next s
      | none => .next s
    | .camp c island rs => if s.latch (.camp c.val) = 3 then .next (s.campTested c.val island rs).drain else .next s

/-- GUEST_SLOTS_DRAINED (R474): the guest streams of a camp back in service have all ended. -/
def execGuestSlotsDrained (c : Camp) (s : State) : Host.Outcome State Fault Refusal :=
  match s.rel.moved.find? fun m => decide (m.1 = c.val) with
  | some (_, h) => if s.latch (.camp c.val) = 0 ∧ s.guestsIdle h ∧ s.boot.hand = 0 then .next (s.moveBack c.val) else .next s
  | none => .next s

/-! Crossings (R32, R463). -/

/-- The unit at the sending side of a crossing, if it collects strikes. -/
def crossingUnit (x : Crossing) : Option FUnit :=
  match x.engine, x.camp with
  | some e, _ => some (.engine e.val)
  | none, some c => some (.camp c.val)
  | none, none => none

/-- CROSSING_PARITY_REFUSAL (R463): the entry is refused and sent again; the fourth refusal strikes the sender, and the request ends with
UNIT_FENCED. -/
def execCrossingParityRefusal (x : Crossing) (s : State) : Host.Outcome State Fault Refusal :=
  if !s.running then .next s
  else
    let s1 := s.bump Ctr.REL_CROSS 0 locPackage
    if x.refused.val < 3 then .next s1
    else
      let u := crossingUnit x
      let s2 := match x.entry with
        | none => s1
        | some (k, chain, n) =>
          match s1.flightAt k.val chain n.val with
          | some f => if f.left = 0 then s1 else s1.setFlight f.uid (·.part Code.UNIT_FENCED)
          | none => s1
      match u with
      | some v =>
        let s3 := s2.strike v x.recent
        let s4 := s3.event Code.CROSSING_PARITY 0 v.loc (relDetail 0xFFFF 0 (s3.strikesOf v) 0)
        .next (if 2 ≤ s4.strikesOf v then s4.firmware (.fence v.loc 10) else s4).drain
      | none => .next (s2.event Code.CROSSING_PARITY 0 locPackage (relDetail 0xFFFF 0 0 0))

/-! What ends of itself. -/

/-- FORCED_ABORT_COMPLETE (R175). -/
def execForcedAbortComplete (k : SlotKey) (s : State) : Host.Outcome State Fault Refusal := .next (s.abortCompletes k.val).drain

/-- PAGE_ZEROING_DONE (R314): the next page of a pitch is zero under its key, and joins. -/
def execPageZeroingDone (p : Pitch) (s : State) : Host.Outcome State Fault Refusal := .next (s.pageJoins p.val)

/-- SLAB_ZEROING_DONE (R330): the next slab of a pitch on a die is zero, and joins. -/
def execSlabZeroingDone (p : Pitch) (die : Die) (s : State) : Host.Outcome State Fault Refusal := .next (s.slabJoins p.val die.val)

/-- ENGINE_THERMAL_TRIP (R413): a diode of an engine, unfiltered, above 110 °C. -/
def execEngineThermalTrip (e : Engine) (diode : Fin 4) (value : BitVec 32) (recent : Nat) (s : State) (emptied : Caught := []) :
    Host.Outcome State Fault Refusal :=
  if !s.running ∨ (s.power.tripped.any fun t => decide (t.1 = e.val)) ∨ value.toInt ≤ (256 * s.fld Reg.LNT_THERM_TRIP : Nat) then .next s
  else .next (((s.engineTrip e.val (4 * e.val + diode.val) value.toNat recent).emptyCrossings (.engine e.val) emptied).setAlert.logLantern [3, e.val]).drain

/-- DOZE_EXIT_DONE (R418, R332): the camps are powered afresh, their 144 cycle counters from 0 (R33), HBM leaves self-refresh,
what was held goes on. -/
def execDozeExitDone (s : State) : Host.Outcome State Fault Refusal :=
  if s.powerState ≠ 2 ∨ !s.power.waking then .next s
  else
    let s1 := s.freshCamps
    let s2 := ({ s1 with power := { s1.power with waking := false }, rems := sclear (cycleKey 0) (cycleKey 144) s1.rems }).enterState 0
    .next (s2.releaseHeld.replyWaits .power 0 fun _ => toBytes 4 0).drain

/-- SECURITY_BLOCK_POWER_UP (R26): in STANDBY, while work needs the security block and the flash controller (log 93). -/
def execSecurityBlockPowerUp (s : State) : Host.Outcome State Fault Refusal :=
  if s.phase ≤ 1 ∧ !s.boot.unpowered ∧ s.standbyWork then .next s.standbyPower else .next s

/-- SECURITY_BLOCK_POWER_DOWN (R26): in STANDBY, the work that needed them has ended: nothing is left to write, and the powered blocks have
taken every event record. -/
def execSecurityBlockPowerDown (s : State) : Host.Outcome State Fault Refusal :=
  if s.powerState = 3 ∧ s.phase ≤ 1 ∧ s.sec.powered ∧ s.sec.log.buffered = [] ∧ s.sec.log.ahead = [] ∧ s.sec.log.later = [] then
    .next { s with sec := { s.sec with powered := false, flashOn := false, evSeen := s.evs.nextSeq } }
  else .next s

/-! Live hand-off (R504-R507). -/

/-- The runtime that holds the mailbox acts on what was put off (R505). -/
def State.runPutOff (s : State) : State :=
  s.boot.putOff.foldl State.fwRun { s with boot := { s.boot with putOff := [] } }

/-- The mailbox returns to Dzisia pair 0, unless a pair is still held. -/
def State.mailboxBack (s : State) : State := if s.power.restarting = [] then s.setFld Reg.MBX_STATUS_SERVER 0 else s

/-- HANDOFF_SWITCH (R504 step 5): every command in execution has replied; both pairs switch to the new bank. -/
def execHandoffSwitch (s : State) : Host.Outcome State Fault Refusal :=
  let quiet := s.host.sessions.all fun x => x.2.waiting.isNone || s.host.waits.any fun w => decide (w.session = x.1 ∧ w.on = .handoff)
  if s.boot.hand = 1 ∧ quiet then .next { s with boot := { s.boot with hand := 2 } } else .next s

/-- HANDOFF_COMPLETE (R504 steps 6 and 7, R505, R507). -/
def execHandoffComplete (s : State) : Host.Outcome State Fault Refusal :=
  if s.boot.hand ≠ 2 then .next s
  else
    let k := s.boot.handSlot
    let old := s.fld Reg.STU_STATUS_SLOT
    let w := s.host.waits.find? fun w => decide (w.on = .handoff)
    let s1 := (s.extend 2 (s.imageDigest k)).extend 5 (s.compBytes k 3)
    let s2 := ((s1.setFld Reg.STU_STATUS_SLOT k).setFld Reg.STU_STATUS_ACTIVE k).slotState k 4
    let s3 := if old = k then s2 else s2.slotState old 2
    let s4 : State := { s3 with boot := { s3.boot with hand := 0 } }
    let s5 := (s4.mailboxBack.runPutOff).event Code.HANDOFF_DONE 0 (locHarbour 0x08) (s4.imageDetail 0 k)
    let s6 := s5.replyWaits .handoff 0 fun _ => [0]
    let s7 := if s.boot.handRaise then
        s6.raiseFloor (imgSvn (s6.manifest k)) k ((w.map (·.session)).getD 0) ((w.map (·.tod)).getD 0)
      else s6
    .next s7.drain

/-- A hand-off fails (R506): both pairs run the old bank again. -/
def State.handoffFails (s : State) : State :=
  let k := s.boot.handSlot
  let s1 := s.extend 2 (s.imageDigest (s.fld Reg.STU_STATUS_SLOT))
  let s2 : State := { s1 with boot := { s1.boot with hand := 0 } }
  let s3 := (s2.mailboxBack.runPutOff).event Code.HANDOFF_FAILED 0 (locHarbour 0x08) (s2.imageDetail 0 k)
  s3.replyWaits .handoff Code.HANDOFF_FAILED fun _ => []

/-- HANDOFF_TIMEOUT (R506): 2 ms have passed, or the new runtime disagrees in lockstep. -/
def execHandoffTimeout (s : State) : Host.Outcome State Fault Refusal :=
  if s.boot.hand = 0 then .next s else .next s.handoffFails.drain

/-! Restart of a Dzisia pair (R423). -/

/-- DZISIA_RESTART (R423): a missed kick or a lockstep disagreement; `recent` counts the pair's restarts before it within 2^32 cycles. During
a hand-off it ends the hand-off (R506, log 89). -/
def execDzisiaRestart (pair : Fin 2) (lockstep : Bool) (recent : Nat) (s : State) : Host.Outcome State Fault Refusal :=
  let p := pair.val
  if !s.running ∨ s.power.restarting.any fun x => decide (x.1 = p) then .next s
  else if s.boot.hand ≠ 0 then .next s.handoffFails.drain
  else
    let n := sget 0 s.power.restarts p
    let fourth := decide (3 ≤ min recent n)
    let old := s.fld Reg.STU_STATUS_SLOT
    let other := fourth && (s.fwSlot (1 - old)).state == 2
    let s1 := (s.setFld Reg.MBX_STATUS_SERVER 1).loseReplies
    let s2 := s1.withPower { s1.power with
      restarting := s1.power.restarting ++ [(p, fourth && !other)], restarts := sset 0 s1.power.restarts p (n + 1) }
    let s3 := ((s2.bump Ctr.LNT_DZ_RESTART 0 locLantern).event Code.DZISIA_RESTART 0 locLantern
      (pwrDetail 0 0 (p + 2 * ofBool lockstep) 0)).stick Reg.LNT_STATUS_RESTART_STICKY
    let s4 := s3.logLantern [5, p]
    .next (if other then
        (((s4.setFld Reg.STU_STATUS_SLOT (1 - old)).slotState (1 - old) 4).slotState old 2).extend 2 (s4.imageDigest (1 - old))
      else s4)

/-- DZISIA_RESTART_DONE (R423): the pair runs again; the mailbox returns once none is held. -/
def execDzisiaRestartDone (pair : Fin 2) (s : State) : Host.Outcome State Fault Refusal :=
  if (s.power.restarting.any fun x => decide (x = (pair.val, false))) ∧ s.running then
    .next (s.withPower { s.power with restarting := s.power.restarting.filter fun x => decide (x.1 ≠ pair.val) }).mailboxBack.drain
  else .next s

end Sys2Proof.Machine
end

