-- ==== Sys2Proof/Machine/Dispatch.lean ====
section
/-! DEFINITION. One arm per command, each one call of that command's own meaning. -/
namespace Sys2Proof.Machine

open Sys2Proof

/-- The effect of one command on everything but the queue of waiting commands. -/
def exec (i : Instr) (s : State) : Host.Outcome State Fault Refusal :=
  match i with
  | .openSession r body => Sys2Proof.Machine.execOpenSession r body s
  | .close r => Sys2Proof.Machine.execClose r s
  | .ping r body => Sys2Proof.Machine.execPing r body s
  | .unlistedOpcodeRequest r opcode => Sys2Proof.Machine.execUnlistedOpcodeRequest r opcode s
  | .memRead r addr len lines => Sys2Proof.Machine.execMemRead r addr len s lines
  | .memWrite r addr data => Sys2Proof.Machine.execMemWrite r addr data s
  | .winOpen r addr len access peer => Sys2Proof.Machine.execWinOpen r addr len access peer s
  | .winClose r rkey => Sys2Proof.Machine.execWinClose r rkey s
  | .jobStart r addr => Sys2Proof.Machine.execJobStart r addr s
  | .jobSeed r seed nonce => Sys2Proof.Machine.execJobSeed r seed nonce s
  | .jobEnd r force => Sys2Proof.Machine.execJobEnd r force s
  | .jobStatus r => Sys2Proof.Machine.execJobStatus r s
  | .streamStart r camp slot record => Sys2Proof.Machine.execStreamStart r camp slot record s
  | .streamResume r camp slot skip => Sys2Proof.Machine.execStreamResume r camp slot skip s
  | .streamAbort r camp slot => Sys2Proof.Machine.execStreamAbort r camp slot s
  | .streamStatus r camp slot => Sys2Proof.Machine.execStreamStatus r camp slot s
  | .stashFree r mbatch => Sys2Proof.Machine.execStashFree r mbatch s
  | .tallyRead r camp first count => Sys2Proof.Machine.execTallyRead r camp first count s
  | .tallySet r camp tally count limit => Sys2Proof.Machine.execTallySet r camp tally count limit s
  | .guySet r guy camp => Sys2Proof.Machine.execGuySet r guy camp s
  | .fence r loc => Sys2Proof.Machine.execFence r loc s
  | .unfence r loc => Sys2Proof.Machine.execUnfence r loc s
  | .unitState r loc => Sys2Proof.Machine.execUnitState r loc s
  | .commitStatus r => Sys2Proof.Machine.execCommitStatus r s
  | .commitSettle r step attempt commit => Sys2Proof.Machine.execCommitSettle r step attempt commit s
  | .regRead r addrs => Sys2Proof.Machine.execRegRead r addrs s
  | .regWrite r pairs => Sys2Proof.Machine.execRegWrite r pairs s
  | .registerWrite a addr value => Sys2Proof.Machine.execRegisterWrite a addr value s
  | .eventRead r index => Sys2Proof.Machine.execEventRead r index s
  | .telemRead r selector argument => Sys2Proof.Machine.execTelemRead r selector argument s
  | .portCmd r port action => Sys2Proof.Machine.execPortCmd r port action s
  | .powerState r target => Sys2Proof.Machine.execPowerState r target s
  | .hbmTest r enter settings => Sys2Proof.Machine.execHbmTest r enter settings s
  | .logRead r seq => Sys2Proof.Machine.execLogRead r seq s
  | .logCheckpoint r => Sys2Proof.Machine.execLogCheckpoint r s
  | .attest r nonce => Sys2Proof.Machine.execAttest r nonce s
  | .fwStage r slot offset data => Sys2Proof.Machine.execFwStage r slot offset data s
  | .fwVerify r slot readable => Sys2Proof.Machine.execFwVerify r slot readable s
  | .fwActivate r slot raise => Sys2Proof.Machine.execFwActivate r slot raise s
  | .fwStatus r => Sys2Proof.Machine.execFwStatus r s
  | .assign a p => Sys2Proof.Machine.execAssign a p s
  | .apply a p => Sys2Proof.Machine.execApply a p s
  | .seal a p => Sys2Proof.Machine.execSeal a p s
  | .release a p => Sys2Proof.Machine.execRelease a p s
  | .forceRelease a p => Sys2Proof.Machine.execForceRelease a p s
  | .ownerTransfer a => Sys2Proof.Machine.execOwnerTransfer a s
  | .debugUnlock a => Sys2Proof.Machine.execDebugUnlock a s
  | .debugLock a => Sys2Proof.Machine.execDebugLock a s
  | .secTenantKeyWrite a p key => Sys2Proof.Machine.execSecTenantKeyWrite a p key s
  | .secFab0KeyWrite a key => Sys2Proof.Machine.execSecFab0KeyWrite a key s
  | .satBitClear a addr value => Sys2Proof.Machine.execSatBitClear a addr value s
  | .guyCfgWrite a guy value => Sys2Proof.Machine.execGuyCfgWrite a guy value s
  | .hbmTgGo a n pattern checkOnly => Sys2Proof.Machine.execHbmTgGo a n pattern checkOnly s
  | .lntWdogKick a pair => Sys2Proof.Machine.execLntWdogKick a pair s
  | .hostLinkDown port => Sys2Proof.Machine.execHostLinkDown port s
  | .hostLinkUp port lanes => Sys2Proof.Machine.execHostLinkUp port lanes s
  | .lldpTransmit => Sys2Proof.Machine.execLldpTransmit s
  | .lldpReceive port tlvs frame => Sys2Proof.Machine.execLldpReceive port tlvs s frame
  | .icmpv6Echo port source body frame => Sys2Proof.Machine.execIcmpv6Echo port source body s frame
  | .neighbourDiscovery port m frame => Sys2Proof.Machine.execNeighbourDiscovery port m s frame
  | .rdmaWrite p data => Sys2Proof.Machine.execRdmaWrite p data s
  | .rdmaRead p len => Sys2Proof.Machine.execRdmaRead p len s
  | .roceUnsupportedOperation p => Sys2Proof.Machine.execRoceUnsupportedOperation p s
  | .sessionIdleTimeout n => Sys2Proof.Machine.execSessionIdleTimeout n s
  | .lanternClaim r opcode => Sys2Proof.Machine.execLanternClaim r opcode s
  | .plSig core rs1 rs2 => Sys2Proof.Machine.execPlSig core rs1 rs2 s
  | .plWait core rd rs1 rs2 => Sys2Proof.Machine.execPlWait core rd rs1 rs2 s
  | .plTrywait core rd rs1 rs2 => Sys2Proof.Machine.execPlTrywait core rd rs1 rs2 s
  | .plTake core rs1 rs2 => Sys2Proof.Machine.execPlTake core rs1 rs2 s
  | .plTread core rd rs1 => Sys2Proof.Machine.execPlTread core rd rs1 s
  | .plBar core rd rs1 => Sys2Proof.Machine.execPlBar core rd rs1 s
  | .plWfence core rd rs1 => Sys2Proof.Machine.execPlWfence core rd rs1 s
  | .plStart core rd rs1 rs2 => Sys2Proof.Machine.execPlStart core rd rs1 rs2 s
  | .plSstat core rd rs1 => Sys2Proof.Machine.execPlSstat core rd rs1 s
  | .plBf16 core rd rs1 => Sys2Proof.Machine.execPlBf16 core rd rs1 s
  | .plE2m1 core rd rs1 rs2 => Sys2Proof.Machine.execPlE2m1 core rd rs1 rs2 s
  | .plSpd core rd high rs1 rs2 => Sys2Proof.Machine.execPlSpd core rd high rs1 rs2 s
  | .xpegIllegalInstruction core word => Sys2Proof.Machine.execXpegIllegalInstruction core word s
  | .pegBlockTimeout core waitLog cycles => Sys2Proof.Machine.execPegBlockTimeout core s waitLog cycles
  | .pegBlockInterrupt core => Sys2Proof.Machine.execPegBlockInterrupt core s
  | .tallyLimitStore core addr value => Sys2Proof.Machine.execTallyLimitStore core addr value s
  | .streamTakeRecord k => Sys2Proof.Machine.execStreamTakeRecord k s
  | .matmul k => Sys2Proof.Machine.execMatmul k s
  | .quantise k => Sys2Proof.Machine.execQuantise k s
  | .convert k => Sys2Proof.Machine.execConvert k s
  | .vprog k => Sys2Proof.Machine.execVprog k s
  | .dmaCopy k => Sys2Proof.Machine.execDmaCopy k s
  | .dmaReduce k => Sys2Proof.Machine.execDmaReduce k s
  | .gather k => Sys2Proof.Machine.execGather k s
  | .signal k => Sys2Proof.Machine.execSignal k s
  | .wait k => Sys2Proof.Machine.execWait k s
  | .take k => Sys2Proof.Machine.execTake k s
  | .barrier k => Sys2Proof.Machine.execBarrier k s
  | .stashPut k => Sys2Proof.Machine.execStashPut k s
  | .stashGet k => Sys2Proof.Machine.execStashGet k s
  | .digest k => Sys2Proof.Machine.execDigest k s
  | .commit k => Sys2Proof.Machine.execCommit k s
  | .fencePoint k => Sys2Proof.Machine.execFencePoint k s
  | .nop k => Sys2Proof.Machine.execNop k s
  | .endStream k => Sys2Proof.Machine.execEndStream k s
  | .descriptorComplete k chain n => Sys2Proof.Machine.execDescriptorComplete k chain n s
  | .descWatchdog k chain n => Sys2Proof.Machine.execDescWatchdog k chain n s
  | .streamWaitTimeout k => Sys2Proof.Machine.execStreamWaitTimeout k s
  | .forcedAbortComplete k => Sys2Proof.Machine.execForcedAbortComplete k s
  | .stashPutAcknowledged k n => Sys2Proof.Machine.execStashPutAcknowledged k n s
  | .chainListDone k => Sys2Proof.Machine.execChainListDone k s
  | .gsAddRetry k chain n => Sys2Proof.Machine.execGsAddRetry k chain n s
  | .panelReady e plot ofB p j keep cyc => Sys2Proof.Machine.execPanelReady e plot ofB p j keep cyc s
  | .amaxPrepassDone e k chain n => Sys2Proof.Machine.execAmaxPrepassDone e k chain n s
  | .blockEnd e plot check cyc => Sys2Proof.Machine.execBlockEnd e plot check cyc s
  | .drainBankDone e conv cyc => Sys2Proof.Machine.execDrainBankDone e conv cyc s
  | .writeAcknowledged k chain n => Sys2Proof.Machine.execWriteAcknowledged k chain n s
  | .arrayPark e => Sys2Proof.Machine.execArrayPark e s
  | .arrayUnpark e => Sys2Proof.Machine.execArrayUnpark e s
  | .rampDownDone e => Sys2Proof.Machine.execRampDownDone e s
  | .feedStall e stall cycles recent cyc => Sys2Proof.Machine.execFeedStall e stall cycles recent s cyc
  | .drainStall e cycles recent cyc => Sys2Proof.Machine.execDrainStall e cycles recent s cyc
  | .engineWatchdog e k chain n cycles cyc => Sys2Proof.Machine.execEngineWatchdog e k chain n cycles s cyc
  | .marginOk e => Sys2Proof.Machine.execMarginOk e s
  | .marginDenied e => Sys2Proof.Machine.execMarginDenied e s
  | .marginRelease e => Sys2Proof.Machine.execMarginRelease e s
  | .remoteSignal pkt tagOk => Sys2Proof.Machine.execRemoteSignal pkt tagOk s
  | .parkedSignalApply => Sys2Proof.Machine.execParkedSignalApply s
  | .signalAhead n => Sys2Proof.Machine.execSignalAhead n s
  | .guylineRelease guy slack => Sys2Proof.Machine.execGuylineRelease guy slack s
  | .fabricArrive pkt tagOk slack => Sys2Proof.Machine.execFabricArrive pkt tagOk slack s
  | .fabricRelease pkt tagOk slack => Sys2Proof.Machine.execFabricRelease pkt tagOk slack s
  | .fabricArriveResend guy => Sys2Proof.Machine.execFabricArriveResend guy s
  | .longWaiter peg n => Sys2Proof.Machine.execLongWaiter peg n s
  | .voteReady pkt tagOk => Sys2Proof.Machine.execVoteReady pkt tagOk s
  | .voteAbort pkt tagOk => Sys2Proof.Machine.execVoteAbort pkt tagOk s
  | .decideCommit pkt tagOk => Sys2Proof.Machine.execDecideCommit pkt tagOk s
  | .decideAbort pkt tagOk => Sys2Proof.Machine.execDecideAbort pkt tagOk s
  | .decideAck pkt tagOk => Sys2Proof.Machine.execDecideAck pkt tagOk s
  | .query pkt tagOk => Sys2Proof.Machine.execQuery pkt tagOk s
  | .stateReply pkt tagOk => Sys2Proof.Machine.execStateReply pkt tagOk s
  | .voteTimeout p => Sys2Proof.Machine.execVoteTimeout p s
  | .decideResend p => Sys2Proof.Machine.execDecideResend p s
  | .decisionWaitTimeout p => Sys2Proof.Machine.execDecisionWaitTimeout p s
  | .collReady pkt tagOk => Sys2Proof.Machine.execCollReady pkt tagOk s
  | .collDone pkt tagOk => Sys2Proof.Machine.execCollDone pkt tagOk s
  | .collAbort pkt tagOk => Sys2Proof.Machine.execCollAbort pkt tagOk s
  | .collPull pkt tagOk => Sys2Proof.Machine.execCollPull pkt tagOk s
  | .remoteRead pkt tagOk => Sys2Proof.Machine.execRemoteRead pkt tagOk s
  | .remoteWrite pkt tagOk => Sys2Proof.Machine.execRemoteWrite pkt tagOk s
  | .remoteAdd pkt tagOk => Sys2Proof.Machine.execRemoteAdd pkt tagOk s
  | .remoteAddReduce pkt tagOk => Sys2Proof.Machine.execRemoteAddReduce pkt tagOk s
  | .remoteAmo pkt tagOk => Sys2Proof.Machine.execRemoteAmo pkt tagOk s
  | .remoteCompletion pkt tagOk => Sys2Proof.Machine.execRemoteCompletion pkt tagOk s
  | .packetForward pkt tag => Sys2Proof.Machine.execPacketForward pkt s tag
  | .fabricRequestTimeout tag => Sys2Proof.Machine.execFabricRequestTimeout tag s
  | .pairEntryIdle pitch src => Sys2Proof.Machine.execPairEntryIdle pitch src s
  | .fabricBusyResend tag => Sys2Proof.Machine.execFabricBusyResend tag s
  | .dataFlitReceive port crcOk seq ack cls vl cred fecUnc => Sys2Proof.Machine.execDataFlitReceive port crcOk seq ack cls vl cred fecUnc s
  | .nakReceive port crcOk ack cred => Sys2Proof.Machine.execNakReceive port crcOk ack cred s
  | .idleFlitTimer port => Sys2Proof.Machine.execIdleFlitTimer port s
  | .replayTimeout port => Sys2Proof.Machine.execReplayTimeout port s
  | .linkRetrainDone port good => Sys2Proof.Machine.execLinkRetrainDone port good s
  | .linkRetrainTimeout port finished good => Sys2Proof.Machine.execLinkRetrainTimeout port finished good s
  | .downPortRetry port => Sys2Proof.Machine.execDownPortRetry port s
  | .hbmAccess pitch line op err who => Sys2Proof.Machine.execHbmAccess pitch line op err s who
  | .memoryAdd pitch line type mask addend reduce err who => Sys2Proof.Machine.execMemoryAdd pitch line type mask addend reduce s err who
  | .shelfAccess pitch line op err who => Sys2Proof.Machine.execShelfAccess pitch line op err s who
  | .hbmRefresh stack => Sys2Proof.Machine.execHbmRefresh stack s
  | .hbmScrub n err => Sys2Proof.Machine.execHbmScrub n err s
  | .shelfScrub die err => Sys2Proof.Machine.execShelfScrub die err s
  | .hbmAccessTimeout pitch line who => Sys2Proof.Machine.execHbmAccessTimeout pitch line s who
  | .hbmRetrainDone n => Sys2Proof.Machine.execHbmRetrainDone n s
  | .hbmRetrainFail n => Sys2Proof.Machine.execHbmRetrainFail n s
  | .reformZeroingDone => Sys2Proof.Machine.execReformZeroingDone s
  | .shelfReformDone die => Sys2Proof.Machine.execShelfReformDone die s
  | .pageZeroingDone p => Sys2Proof.Machine.execPageZeroingDone p s
  | .slabZeroingDone p die => Sys2Proof.Machine.execSlabZeroingDone p die s
  | .pageMoveDone => Sys2Proof.Machine.execPageMoveDone s
  | .pageMoveTimeout => Sys2Proof.Machine.execPageMoveTimeout s
  | .retireRetry page => Sys2Proof.Machine.execRetireRetry page s
  | .tgRunDone n words turned => Sys2Proof.Machine.execTgRunDone n words turned s
  | .flowOkFall => Sys2Proof.Machine.execFlowOkFall s
  | .flowOkRise => Sys2Proof.Machine.execFlowOkRise s
  | .coolantStop => Sys2Proof.Machine.execCoolantStop s
  | .coolantIslandGate => Sys2Proof.Machine.execCoolantIslandGate s
  | .coolantResumed => Sys2Proof.Machine.execCoolantResumed s
  | .engineThermalTrip e diode value recent emptied => Sys2Proof.Machine.execEngineThermalTrip e diode value recent s emptied
  | .thermalReturn e => Sys2Proof.Machine.execThermalReturn e s
  | .packageThermalTrip point value => Sys2Proof.Machine.execPackageThermalTrip point value s
  | .thermalStepDown e held policyNew => Sys2Proof.Machine.execThermalStepDown e held policyNew s
  | .thermalStepUp e => Sys2Proof.Machine.execThermalStepUp e s
  | .voltageAdjust e drop held policyNew => Sys2Proof.Machine.execVoltageAdjust e drop held policyNew s
  | .fastPathLimit mw => Sys2Proof.Machine.execFastPathLimit mw s
  | .fastPathRelease => Sys2Proof.Machine.execFastPathRelease s
  | .moduleLimitSample mw mv => Sys2Proof.Machine.execModuleLimitSample mw mv s
  | .energySample watts camps use => Sys2Proof.Machine.execEnergySample watts camps use s
  | .sensorSample point reading => Sys2Proof.Machine.execSensorSample point reading s
  | .coolantMonitorRead readings => Sys2Proof.Machine.execCoolantMonitorRead readings s
  | .governorWindow c acts idle runs policyNew => Sys2Proof.Machine.execGovernorWindow c acts idle runs policyNew s
  | .pitchRebalance p => Sys2Proof.Machine.execPitchRebalance p s
  | .idleEntry => Sys2Proof.Machine.execIdleEntry s
  | .idleWake => Sys2Proof.Machine.execIdleWake s
  | .dzisiaRestart pair lockstep recent => Sys2Proof.Machine.execDzisiaRestart pair lockstep recent s
  | .dzisiaRestartRetry pair => Sys2Proof.Machine.execDzisiaRestartRetry pair s
  | .lanternRestart digestOk => Sys2Proof.Machine.execLanternRestart digestOk s
  | .securityBlockPowerUp => Sys2Proof.Machine.execSecurityBlockPowerUp s
  | .securityBlockPowerDown => Sys2Proof.Machine.execSecurityBlockPowerDown s
  | .pwrEnFall => Sys2Proof.Machine.execPwrEnFall s
  | .pwrEnRise => Sys2Proof.Machine.execPwrEnRise s
  | .presentNRise => Sys2Proof.Machine.execPresentNRise s
  | .inputUndervoltage mv => Sys2Proof.Machine.execInputUndervoltage mv s
  | .inputOvervoltage mv => Sys2Proof.Machine.execInputOvervoltage mv s
  | .inputOvercurrent => Sys2Proof.Machine.execInputOvercurrent s
  | .inputRestored => Sys2Proof.Machine.execInputRestored s
  | .lanternPowerUp pwrEn flowOk recordOk => Sys2Proof.Machine.execLanternPowerUp pwrEn flowOk recordOk s
  | .startHoldPassed slotId => Sys2Proof.Machine.execStartHoldPassed slotId s
  | .railsDone => Sys2Proof.Machine.execRailsDone s
  | .railTimeout => Sys2Proof.Machine.execRailTimeout s
  | .securityPhaseDone outcome => Sys2Proof.Machine.execSecurityPhaseDone outcome s
  | .bootRomDone lockstep readableA readableB => Sys2Proof.Machine.execBootRomDone lockstep readableA readableB s
  | .stage1Done outcome => Sys2Proof.Machine.execStage1Done outcome s
  | .trainingDone t => Sys2Proof.Machine.execTrainingDone t s
  | .startTimeout => Sys2Proof.Machine.execStartTimeout s
  | .startRetry => Sys2Proof.Machine.execStartRetry s
  | .handoffSwitch => Sys2Proof.Machine.execHandoffSwitch s
  | .handoffComplete => Sys2Proof.Machine.execHandoffComplete s
  | .handoffTimeout => Sys2Proof.Machine.execHandoffTimeout s
  | .fenceAcknowledged loc emptied => Sys2Proof.Machine.execFenceAcknowledged loc s emptied
  | .fenceTimeout loc emptied => Sys2Proof.Machine.execFenceTimeout loc s emptied
  | .heartbeatTick c => Sys2Proof.Machine.execHeartbeatTick c s
  | .heartbeatRead emptied => Sys2Proof.Machine.execHeartbeatRead s emptied
  | .selftestPeriodic e overdue => Sys2Proof.Machine.execSelftestPeriodic e overdue s
  | .selftestDone t => Sys2Proof.Machine.execSelftestDone t s
  | .guestSlotsDrained c => Sys2Proof.Machine.execGuestSlotsDrained c s
  | .crossingParityRefusal x => Sys2Proof.Machine.execCrossingParityRefusal x s
  | .logFlush accepted => Sys2Proof.Machine.execLogFlush accepted s
  | .logAheadDone accepted => Sys2Proof.Machine.execLogAheadDone accepted s
  | .rampUpDone e => Sys2Proof.Machine.execRampUpDone e s
  | .idleFlitReceive port crcOk ack cred => Sys2Proof.Machine.execIdleFlitReceive port crcOk ack cred s
  | .dozeExitDone => Sys2Proof.Machine.execDozeExitDone s
  | .dzisiaRestartDone pair => Sys2Proof.Machine.execDzisiaRestartDone pair s
  | .lanternSummary => Sys2Proof.Machine.execLanternSummary s
  | .powerRemoved => Sys2Proof.Machine.execPowerRemoved s

end Sys2Proof.Machine
end

