-- ==== Sys2Proof/Safety.lean ====
section
/-! DEFINITION. What claims are stated in: the forms that every operation keeps, what a step may do, reachability. -/
namespace Sys2Proof.Safety

open Sys2Proof Sys2Proof.Machine

/-- Memory's canonical form: addresses strictly rising, no byte listed that an unlisted address reads as (log 3). -/
abbrev memoryWf (s : State) : Prop := swf 0#8 s.mem = true

/-- The register fields' canonical form: keys strictly rising, no field listed that stands at its reset value. -/
abbrev registersWf (s : State) : Prop := swf 0 s.ctl = true

/-- The machine goes on, to a state with a property. -/
def answers (o : Host.Outcome State Fault Refusal) (post : State → Prop) : Prop := ∃ t, o = .next t ∧ post t

/-- A state that a run from reset reaches when commands join the end of its queue as they come. -/
inductive Reachable : State → Prop where
  | reset : Reachable State.reset
  | arrive (s : State) (c : Instr) : Reachable s → Reachable { s with pending := s.pending ++ [c] }
  | step (s t : State) : Reachable s → Machine.step s = .next t → Reachable t

/-! What a step leaves alone. -/

/-- Every register field outside some keys keeps its value. -/
def ctlKept (s t : State) (keys : List Nat) : Prop := ∀ k, k ∉ keys → sget 0 t.ctl k = sget 0 s.ctl k

/-- Every byte of memory outside a run of `n` bytes at `a` reads as before. -/
def memKept (s t : State) (a n : Nat) : Prop := ∀ x, x < a ∨ a + n ≤ x → t.byte x = s.byte x

/-- The newest record of a pitch's ring, and the number the next event takes. -/
def raised (s t : State) (code pitch location detail : Nat) : Prop := t.evs = s.evs.add code (Code.severity code) pitch location detail

/-! Mailbox requests in turn (R371-R376, R379). -/

/-- A request that nothing stands before: its port is up, its frame, UDP port, form, tag and counter are good, its session is open, the
mailbox is served, its SEQ is the next of its session, and no session holds another request. -/
structure Takes (s : State) (r : Req) (x : Session) : Prop where
  up : s.hostIsUp r.port.val = true
  frame : r.frame = .plain
  size : frameOverhead + r.bytes ≤ 9216
  dport : r.dport.toNat = dzmpPort
  form : dzmpForm r true = true
  body : r.bodyOk = true
  tag : r.tagOk = true
  isOpen : s.session r.session.toNat = some x
  fresh : x.fresh r.ctr.toNat = true
  ctr : r.ctr.toNat ≤ ctrLimit
  out : (if s.lanternServes then x.ctrProxy else x.ctrOut) < ctrLimit
  served : s.fld Reg.MBX_STATUS_SERVER ≠ 1
  started : s.starting = false
  next : x.next = r.seq.toNat
  run : x.run = r.seq.toNat
  early : x.early = []
  waiting : x.waiting = none
  alone : ∀ e ∈ s.host.sessions, e.2.held = []
  new : ∀ d ∈ x.done, d.seq ≠ r.seq.toNat

/-- A request that nothing stands before, served by Dzisia pair 0. -/
structure InTurn (s : State) (r : Req) (x : Session) : Prop extends Takes s r x where
  server : s.fld Reg.MBX_STATUS_SERVER = 0

/-- A request that nothing stands before, served by the Lantern's ROM in Bivouac mode (R500). -/
structure InBivouac (s : State) (r : Req) (x : Session) : Prop extends Takes s r x where
  server : s.fld Reg.MBX_STATUS_SERVER = 3
  phase : s.phase = 8

/-- A command that its session's role may send and that no earlier change, full logbook buffer or DOZE (R379, R383, R387, R447) holds back. -/
structure Permits (s : State) (x : Session) (c : Cmd) : Prop where
  listed : s.opcodeRefusal x.role (opcodeOf c) = 0
  ahead : logsAhead (opcodeOf c) = true → s.changing = false
  now : logsNow (opcodeOf c) = true → s.logFull = false
  awake : ∀ a, c = .jobStart a → s.powerState ≠ 2

/-- The request as its session holds it, with how many requests came before it. -/
def heldReq (s : State) (r : Req) (c : Cmd) : HeldReq :=
  { seq := r.seq.toNat, tod := r.tod.toNat, cmd := c, ok := r.bodyOk, came := s.fld Reg.MBX_REQ }

/-- The request being executed, and its session as it has accepted it. -/
def callerOf (s : State) (r : Req) (x : Session) (c : Cmd) : Caller :=
  { n := r.session.toNat, x := (x.took r).accept (heldReq s r c), seq := r.seq.toNat, op := opcodeOf c, tod := r.tod.toNat }

/-- The state in which a request in turn is executed: the datagram and the request counted, the session waiting for the reply. -/
def served (s : State) (r : Req) (x : Session) (c : Cmd) : State :=
  let s1 := (s.countRx r).setSession r.session.toNat (x.took r)
  let s2 := (s1.setSession r.session.toNat ((x.took r).accept (heldReq s r c))).accum Reg.MBX_REQ 1
  s2.setSession r.session.toNat (((x.took r).accept (heldReq s r c)).begun (heldReq s r c))

/-- The reply of a request leaves. -/
def answered (u : State) (r : Req) (c : Cmd) (status : Nat) (body : Bytes) : State :=
  u.reply r.session.toNat r.seq.toNat (opcodeOf c) status body

/-- The reply of a request is put off, and an ACK leaves. -/
def acked (u : State) (r : Req) (c : Cmd) : State := u.answerSession r.session.toNat typeAck r.seq.toNat (opcodeOf c) 0 0 []

/-- The request's reply waits for something. -/
def deferred (u : State) (r : Req) (c : Cmd) : Option WaitOn → State
  | none => u
  | some w => u.deferReply r.session.toNat r.seq.toNat (opcodeOf c) r.tod.toNat w

/-- The request is the one that its session executes in a state, its answer's counter is not spent and its port is up. -/
def executing (u : State) (r : Req) (c : Cmd) : Prop :=
  ∃ y, u.session r.session.toNat = some y ∧ y.waiting = some (r.seq.toNat, opcodeOf c)
    ∧ (if u.lanternServes then y.ctrProxy else y.ctrOut) < ctrLimit ∧ u.hostIsUp y.port = true

/-! Peg cores and tallies (R271-R280). -/

/-- A core's register holds a value after an instruction; x0 reads zero. -/
def wrote (u : State) (core rd v : Nat) : Prop := (u.peg core).reg rd = if rd = 0 then 0 else v % 2 ^ 64

/-- One tally's word is `w`, and every word kept under another key is as before. -/
def tallyBecomes (s u : State) (c t : Nat) (w : Tally) : Prop :=
  u.tally c t = w ∧ ∀ d v, s.tallyKey d v ≠ s.tallyKey c t → u.tally d v = s.tally d v

/-- Nobody waits at a tally. -/
def noWaiter (s : State) (c t : Nat) : Prop := ∀ w ∈ s.sync.waits, ¬ (w.camp = c ∧ w.tally = t)

/-- Cores, tallies and their maps in the order that every operation keeps. -/
structure PegOrder (s : State) (core : Nat) : Prop where
  pegs : rising s.pegs = true
  regs : rising (s.peg core).regs = true
  tallies : rising s.sync.tallies = true

/-! Descriptors (R164-R172, R243-R246, R284). -/

/-- The descriptor next in a slot's list as it issues; `x` is the slot at it, with its leg bookkeeping and its fetches done. -/
def issuing (s : State) (k : Nat) (x : StreamSlot) (r : StartRec) (w : Nat) : Issue :=
  { k := k, pitch := s.slotPitch k, camp := slotCamp k, idx := x.frame.next, leg := x.leg, inLeg := dLeg w && r.legLen != 0, w := w
    bank := s.fld Reg.CMT_STATUS_BANK (s.slotPitch k), map := s.slotMap k, mbatch := r.mbatch }

/-- A slot that may issue the descriptor `w` of type `t` next in its list: it runs, its camp's sequencer runs and, but for a FENCE_POINT, fences nothing, the
slot and its window have room, nothing in flight holds it back, it stands at no order point that is not reached, it decodes, a chain list may hold it,
and its tallies have room in the touched table. -/
structure Issuing (s : State) (k t : Nat) (x : StreamSlot) (r : StartRec) (w : Nat) : Prop where
  slot : x = s.atNext k
  run : x.run = some r
  entry : x.frame.entry x.frame.next = some (x.frame.next, 0, w)
  running : x.state = 1
  camp : s.campRuns (slotCamp k) = true
  room : x.allFlights.length < 32
  window : x.frame.flights.length + x.frame.behind.length < 32
  free : x.frame.flights.any holdsBack = false
  list : x.frame.count ≠ some x.frame.next
  whole : s.fld Reg.FEN_STATE_CAMP_STATE (slotCamp k) = 0 ∨ t = tFencePoint
  type : dType w = t
  order : dAfter w = true ∨ t ∈ [tFencePoint, tCommit, tEnd] → x.alone = true
  decodes : decodeFault w x.frame.next (s.slotMap k).camps (dLeg w && r.legLen != 0) = none
  chain : x.chain = none ∨ t ∉ noChainTypes
  touch : s.touchFault k w = none
  slots : rising s.slots = true

/-- The slot has gone past the descriptor, which is in flight behind the others; every other slot is as before. -/
def joined (s u : State) (k : Nat) (x : StreamSlot) (w left : Nat) (begun done : Bool) : Prop :=
  (∃ f, (u.slot k).frame.flights = x.frame.flights ++ [f] ∧ f.uid = s.issued ∧ f.idx = x.frame.next ∧ f.leg = x.leg ∧ f.word = w
      ∧ f.left = left ∧ f.begun = begun ∧ f.done = done ∧ f.code = 0)
    ∧ (u.slot k).frame.next = x.frame.next + 1 ∧ (u.slot k).queue = x.queue ∧ (u.slot k).run = x.run ∧ u.issued = s.issued + 1
    ∧ ∀ j, j ≠ k → u.slot j = s.slot j

/-- Every descriptor in flight has a number of its own, below the next one. -/
def Numbered (s : State) : Prop :=
  (s.slots.flatMap fun e => e.2.allFlights.map (·.uid)).Nodup ∧ ∀ e ∈ s.slots, ∀ f ∈ e.2.allFlights, f.uid < s.issued

/-- A byte outside everything that a write of `n` bytes at a pitch address stores. -/
def spared (s : State) (m : PageMap) (a n l : Nat) : Prop :=
  ∀ q ∈ linePieces a n, l < s.redirected ((translate m q.1).getD 0) ∨ s.redirected ((translate m q.1).getD 0) + q.2 ≤ l

/-- A flight at a place of a slot's list, which its number names. -/
structure InFlight (s : State) (k : Nat) (chain : Bool) (n : Nat) (f : Flight) : Prop where
  at_ : s.flightAt k chain n = some f
  numbered : Numbered s
  slots : rising s.slots = true
  awake : s.campsGated = false

/-- A slot's balance at a tally after an amount, unless the tally is shared. -/
def balanced (s u : State) (k c t : Nat) (d : Int) : Prop :=
  s.tallyShared c t = false → sget 0 (u.slot k).touched (c * 1024 + t) = sget 0 (s.slot k).touched (c * 1024 + t) + d

/-- No product has work to deal to a camp's engines, and none of them keeps a block for itself. -/
def noDeal (s : State) (c : Nat) : Prop :=
  s.eng.products = [] ∧ ∀ e, e / 8 = c → (s.engine e).queue = [] ∧ (s.engine e).denied = []

/-- No session holds a request that a row could let run. -/
def noHeld (s : State) : Prop := ∀ e ∈ s.host.sessions, e.2.held = []

/-- The fields that a logbook entry writes. -/
def logFields : List Nat := [Reg.SEC_LOG_SEQ_SEQ.key 0 0, Reg.SEC_LOG_OLDEST_SEQ.key 0 0]

/-- Memory, jobs, streams, cores, tallies and what the fabric carries stay. -/
def workKept (s u : State) : Prop :=
  u.mem = s.mem ∧ u.jobs = s.jobs ∧ u.slots = s.slots ∧ u.pegs = s.pegs ∧ u.sync = s.sync ∧ u.fab = s.fab

/-- A start attempt has failed for a reason, and its rails are down: another attempt waits, or Bivouac mode follows the third (R498). -/
structure StartFailed (s u : State) (r : Nat) : Prop where
  reason : u.fld Reg.STU_STATUS_REASON = r
  history : u.fld Reg.STU_HISTORY_REASONS = (s.fld Reg.STU_HISTORY_REASONS * 256 + r) % 2 ^ 24
  failed : u.fld Reg.STU_FAILED = s.fld Reg.STU_FAILED + 1
  fails : u.fld Reg.STU_STATUS_FAILS = s.fld Reg.STU_STATUS_FAILS
  phase : u.phase = if 3 ≤ s.fld Reg.STU_STATUS_FAILS then 8 else 1
  server : u.fld Reg.MBX_STATUS_SERVER = if 3 ≤ s.fld Reg.STU_STATUS_FAILS then 3 else 2
  state : u.powerState = 3
  marker : u.boot.marker = false
  mem : u.mem = []
  slots : u.slots = []
  pegs : u.pegs = []
  jobs : u.jobs = []

/-- A hold before a start attempt (R492), or Bivouac mode after three failures. -/
def holds (s u : State) : Prop :=
  u.phase = (if 3 ≤ s.fld Reg.STU_STATUS_FAILS then 8 else 1) ∧ u.powerState = 3
    ∧ u.fld Reg.MBX_STATUS_SERVER = (if 3 ≤ s.fld Reg.STU_STATUS_FAILS then 3 else 2)

/-- The rails are down: what lived on them is gone, and flash and fuses keep what they held. -/
def railsGone (s u : State) : Prop :=
  u.mem = [] ∧ u.slots = [] ∧ u.pegs = [] ∧ u.jobs = [] ∧ u.sync = .initial ∧ u.fab = .initial ∧ u.ras.flash = s.ras.flash ∧ u.sec.ownerKey = s.sec.ownerKey
    ∧ u.powerState = 3

/-- The canonical form of a state: memory and registers, and every map by number in rising order of its keys. -/
structure Canonical (s : State) : Prop where
  mem : memoryWf s
  ctl : registersWf s
  slots : rising s.slots = true
  touched : ∀ e ∈ s.slots, rising e.2.touched = true ∧ rising e.2.resumeTouched = true
  pegs : rising s.pegs = true
  cores : ∀ e ∈ s.pegs, rising e.2.regs = true ∧ rising e.2.outstanding = true
  jobs : rising s.jobs = true
  commits : rising s.commits = true
  rems : rising s.rems = true
  rings : rising s.evs.rings = true
  engines : rising s.eng.engs = true
  sync : rising s.sync.tallies = true ∧ rising s.sync.guys = true ∧ rising s.sync.wseq = true ∧ rising s.sync.settled = true ∧ rising s.sync.beyond = true
  memories : rising s.ras.owners = true ∧ rising s.ras.slabOwners = true ∧ rising s.ras.pcs = true ∧ rising s.ras.bankUe = true
    ∧ rising s.ras.shelfScrub = true ∧ rising s.ras.pageKeys = true
  fabric : rising s.fab.ivs = true ∧ rising s.fab.pairs = true ∧ rising s.fab.floors = true ∧ rising s.fab.ports = true ∧ rising s.fab.collCount = true
  links : ∀ e ∈ s.fab.ports, rising e.2.serving = true ∧ rising e.2.deficit = true ∧ rising e.2.credit = true ∧ rising e.2.owed = true
  host : rising s.host.sessions = true ∧ rising s.host.windows = true
  pitches : rising s.sec.pitches = true
  power : rising s.power.trips = true ∧ rising s.power.steps = true ∧ rising s.power.volts = true ∧ rising s.power.sensors = true
    ∧ rising s.power.bubbles = true ∧ rising s.power.runBubbles = true ∧ rising s.power.demand = true
    ∧ rising s.power.lastDemand = true ∧ rising s.power.budgets = true ∧ rising s.power.ledgers = true ∧ rising s.power.restarts = true
  units : rising s.rel.records = true ∧ rising s.rel.strikes = true ∧ rising s.rel.causes = true
  flash : rising s.boot.slotA.bytes = true ∧ rising s.boot.slotB.bytes = true

end Sys2Proof.Safety
end

