-- ==== Sys2Proof/Certificates/Slice0/Obligations.lean ====
section
/-! DEFINITION. The statements about the model, for the provers. -/

open Sys2Proof Sys2Proof.Machine Sys2Proof.Safety

/-- For every command and every session: a request in turn whose session's role is not among the roles of its opcode in R383
is answered MBX_NOT_PERMITTED, and one of an opcode that R383 does not list is answered MBX_OPCODE_INVALID, each with an
empty body, from the state in which the request was counted; nothing else changes. An unlisted opcode is refused whoever
sends it. In Bivouac mode a command that R383 does not mark for it is answered MBX_NOT_AVAILABLE, likewise. -/
def Obligations.RoleRefusalsOfTheMailbox : Prop :=
  (∀ s r x c, InTurn s r x → (∀ op, c ≠ Cmd.unlisted op) → (∀ a, c = Cmd.jobStart a → s.powerState ≠ 2) → x.role ∉ opcodeRoles (opcodeOf c) →
    s.mailbox r c = answered (served s r x c) r c Code.MBX_NOT_PERMITTED [])
  ∧ (∀ s r x op, InTurn s r x → op ∉ listedOpcodes →
    exec (.unlistedOpcodeRequest r op) s = .next (answered (served s r x (.unlisted op)) r (.unlisted op) Code.MBX_OPCODE_INVALID []))
  ∧ (∀ s r x addr len lines, InTurn s r x → x.role = 2 →
    exec (.memRead r addr len lines) s =
      .next (answered (served s r x (.memRead addr len lines)) r (.memRead addr len lines) Code.MBX_NOT_PERMITTED []))
  ∧ (∀ s r x c, InBivouac s r x → (∀ op, c ≠ Cmd.unlisted op) → (∀ a, c = Cmd.jobStart a → s.powerState ≠ 2) → x.role ∈ opcodeRoles (opcodeOf c) →
    bivouacOp (opcodeOf c) = false → s.mailbox r c = answered (served s r x c) r c Code.MBX_NOT_AVAILABLE [])

/-- The reply of the request that a session executes leaves as one REPLY datagram to where the session's latest request came
from, with the session's next counter, status and body; the session no longer waits, its next SEQ may be executed, and the
reply is the first of those kept for duplicates, of which at most 64 are kept. HE_TX_BYTES of that port alone changes among
the registers; memory, every other register, every other session and every other part of the state are as before. -/
def Obligations.ReplyIsSentOnceAndKept : Prop :=
  ∀ u r c status body y, u.fld Reg.MBX_STATUS_SERVER = 0 → u.session r.session.toNat = some y → y.waiting = some (r.seq.toNat, opcodeOf c) →
    y.ctrOut < ctrLimit → u.hostIsUp y.port = true →
    ∃ t z, answered u r c status body = t ∧ t.session r.session.toNat = some z
      ∧ z = { y with waiting := none, run := (y.run + 1) % 2 ^ 32, ctrOut := y.ctrOut + 1
                     done := ({ seq := r.seq.toNat, opcode := opcodeOf c, status := status, body := body } :: y.done).take 64 }
      ∧ t.out = .dgram y.port y.addr y.udp typeReply false r.session.toNat r.seq.toNat (opcodeOf c) status 0 (y.ctrOut + 1) body :: u.out
      ∧ (∀ n, n ≠ r.session.toNat → t.session n = u.session n)
      ∧ ctlKept u t [Reg.HE_TX_BYTES.key (36 + y.port) 0] ∧ (∀ a, t.byte a = u.byte a)
      ∧ t = { u with host := { u.host with sessions := t.host.sessions }, out := t.out, ctl := t.ctl }

/-- An OPEN whose checks pass opens a session of the role and pitch it asks for, whose first SEQ is INIT_SEQ, and answers
with status 0. A CLOSE in turn is answered with status 0 and its session is no longer open, nor has any window. A PING in
turn is answered with its own body. A session that ends for idleness is no longer open, its windows are closed, and
MBX_SESSION_ENDED is raised; registers and memory are as before. The premise that session numbers rise is the invariant of
CanonicalFormIsKept. -/
def Obligations.SessionCommandsComplete : Prop :=
  (∀ s r body, s.hostIsUp r.port.val = true → r.frame = .plain → frameOverhead + r.bytes ≤ 9216 → r.dport.toNat = dzmpPort → dzmpForm r false = true →
    r.session = 0 → s.fld Reg.MBX_STATUS_SERVER ≠ 1 → ((s.countRx r).plain r typeAck 0 0 []).openRefusal r body = 0 →
    ∃ t n y b, exec (.openSession r body) s = .next t ∧ t.session n = some y ∧ y.role = body.role ∧ y.pitch = body.pitch ∧ y.cred = body.cred
      ∧ y.next = body.initSeq.toNat ∧ y.run = body.initSeq.toNat ∧ y.held = [] ∧ y.done = [] ∧ y.ctrTop = 0
      ∧ y.port = r.port.val ∧ y.addr = r.source.toNat ∧ y.udp = r.udp.toNat ∧ b.take 4 = toBytes 4 n ∧ t.out.head? = some (.dgram r.port.val r.source.toNat r.udp.toNat typeReply s.lanternServes 0 r.seq.toNat 1 0 0 0 b) ∧ t.mem = s.mem)
  ∧ (∀ s r x, InTurn s r x → rising s.host.sessions = true → x.role ≤ 2 →
    ∃ t, exec (.close r) s = .next t ∧ t = (answered (served s r x .close) r .close 0 []).endSession r.session.toNat
      ∧ t.session r.session.toNat = none ∧ ∀ w ∈ t.host.windows, w.2.session ≠ r.session.toNat)
  ∧ (∀ s r x body, InTurn s r x → x.role ≤ 2 → exec (.ping r body) s = .next (answered (served s r x (.ping body)) r (.ping body) 0 body))
  ∧ (∀ s n x, s.session n = some x → rising s.host.sessions = true →
    ∃ t, exec (.sessionIdleTimeout n) s = .next t ∧ t.session n = none ∧ (∀ w ∈ t.host.windows, w.2.session ≠ n)
      ∧ (∀ m, m ≠ n → t.session m = s.session m) ∧ raised s t Code.MBX_SESSION_ENDED x.pitch (locMbx x.port) (mbxDetail n 0 0 x.addr)
      ∧ t = { s with host := t.host, evs := t.evs })

/-- For a Warden or a Tenant in turn. MEM_READ of 1 to 4,032 readable bytes answers with the bytes; with lines that meet
memory errors, with the first code met, or else with the bytes as they then read. MEM_WRITE of data that may be written
stores it, and answers with an empty body; a 4-byte write of a reachable tally's upper half sets that tally's LIMIT and no
byte of memory. WIN_OPEN of whole 4,096-byte pages with a good access code, while fewer than 256 windows are open, adds one
window of the session over that range and answers with its queue pair and rkey. WIN_CLOSE of one of the session's windows
removes it and keeps every other. -/
def Obligations.MemoryAndWindowCommandsComplete : Prop :=
  (∀ s r x field len, InTurn s r x → x.role ≤ 1 → fieldOk field = true → 0 < len → len ≤ 4032 →
    let u := served s r x (.memRead field len [])
    ∀ bs, u.readAt x.pitch (u.mapOf x.pitch) (u.fieldAddr x.pitch field) len = .ok bs →
      exec (.memRead r field len []) s = .next (answered u r (.memRead field len []) 0 bs))
  ∧ (∀ s r x field len lines, InTurn s r x → x.role ≤ 1 → fieldOk field = true → 0 < len → len ≤ 4032 → lines ≠ [] →
    let c := Cmd.memRead field len lines
    let u := served s r x c
    let a := u.fieldAddr x.pitch field
    let m := u.mapOf x.pitch
    ∀ bs, u.readAt x.pitch m a len = .ok bs →
    let v := State.readLines x.pitch m ((linePieces a len).zipIdx.map fun y => (y.1, lines.getD y.2 (some .clean))) u
    executing v.2 r c →
    (v.1 ≠ 0 → exec (.memRead r field len lines) s = .next (answered v.2 r c v.1 []))
    ∧ (v.1 = 0 → ∀ cs, v.2.readAt x.pitch m a len = .ok cs → exec (.memRead r field len lines) s = .next (answered v.2 r c 0 cs)))
  ∧ (∀ s r x field data, InTurn s r x → x.role ≤ 1 → fieldOk field = true → data ≠ [] → data.length ≤ 4032 →
    let c := Cmd.memWrite field data
    let u := served s r x c
    let m := u.mapOf x.pitch
    (data.length = 4 → ∀ camp off, (translate m (u.fieldAddr x.pitch field)).map region ≠ some (.tally camp off)) →
    let ps := linePieces (u.fieldAddr x.pitch field) data.length
    u.writeGate x.pitch m none ps = (0, 0) → exec (.memWrite r field data) s = .next (answered (u.storePieces m ps data) r c 0 []))
  ∧ (∀ s r x field data camp off, InTurn s r x → rising s.sync.tallies = true → x.role ≤ 1 → fieldOk field = true → data.length = 4 →
    let c := Cmd.memWrite field data
    let u := served s r x c
    (translate (u.mapOf x.pitch) (u.fieldAddr x.pitch field)).map region = some (.tally camp off) → off % 8 = 4 → off < 2 ^ 13 →
    u.tallyReachable camp = true → u.limitOk camp (off / 8) (ofBytes data) = true →
    ∃ t, exec (.memWrite r field data) s = .next t ∧ t.tally camp (off / 8) = { limit := ofBytes data, count := (u.tally camp (off / 8)).count }
      ∧ t = answered (u.setTally camp (off / 8) { u.tally camp (off / 8) with limit := ofBytes data }) r c 0 [] ∧ ∀ a, t.byte a = s.byte a)
  ∧ (∀ s r x field len access peer, InTurn s r x → x.role ≤ 1 → fieldOk field = true → 0 < access → access ≤ 3 →
    let c := Cmd.winOpen field len access peer
    let u := served s r x c
    u.fieldAddr x.pitch field % 4096 = 0 → len % 4096 = 0 → 0 < len → len ≤ 2 ^ 40 → s.host.windows.length < 256 →
    ∃ t qp rkey, exec (.winOpen r field len access peer) s = .next t
      ∧ sget noWindow t.host.windows rkey = { qp := qp, device := 0, base := u.fieldAddr x.pitch field, length := len, access := access, peer := peer
                                              session := r.session.toNat, pitch := x.pitch, quiet := false }
      ∧ (∀ k, k ≠ rkey → sget noWindow t.host.windows k = sget noWindow s.host.windows k)
      ∧ t.out.head? = some (.dgram r.port.val r.source.toNat r.udp.toNat typeReply false r.session.toNat r.seq.toNat 0x0103 0 0 (x.ctrOut + 1)
          (toBytes 4 qp ++ toBytes 4 rkey)))
  ∧ (∀ s r x rkey, InTurn s r x → x.role ≤ 1 → rising s.host.windows = true → (sget noWindow s.host.windows rkey).session = r.session.toNat →
    ∃ t, exec (.winClose r rkey) s = .next t ∧ sget noWindow t.host.windows rkey = noWindow
      ∧ (∀ k, k ≠ rkey → sget noWindow t.host.windows k = sget noWindow s.host.windows k)
      ∧ t.out.head? = some (.dgram r.port.val r.source.toNat r.udp.toNat typeReply false r.session.toNat r.seq.toNat 0x0104 0 0 (x.ctrOut + 1) []))

/-- For a request in turn that its role may send. JOB_START of a good parameter block in a pitch without a job starts the
job: its number, participants, G and LAD_SITE_BASE are the block's, and the reply counts the tensors placed on die 0, die 1
and in HBM. JOB_SEED in a pitch whose job has no seed, and whose fabric key was never installed, puts the change behind its
KEY_EVENT entries and is acknowledged; no key changes yet. JOB_END of a running job with FORCE or with no slot busy leaves
the job ending or ended. JOB_STATUS answers with the job's number, the commit step and the states of the pitch's slots. -/
def Obligations.JobCommandsComplete : Prop :=
  (∀ s r x field, InTurn s r x → x.role = 1 → s.powerState ≠ 2 → s.logFull = false →
    let c := Cmd.jobStart field
    let u := served s r x c
    ∀ b, (u.job x.pitch).num = 0 → u.readJob x.pitch field = .ok b →
    let place := placeTensors (b.tensors.map fun t => tensorBytes t.2) (bits b.head 211 206 * 2 ^ 26) (bits b.head 217 212 * 2 ^ 26)
    (place = [] ∨ u.writeGate x.pitch (u.mapOf x.pitch) none (linePieces b.placeAt place.length) = (0, 0)) → bits b.head 143 128 ≠ 0 →
    ∃ t, exec (.jobStart r field) s = .next t ∧ (t.job x.pitch).num = bits b.head 143 128 ∧ (t.job x.pitch).parts = b.parts
      ∧ (t.job x.pitch).gsize = bits b.head 189 177 ∧ (t.job x.pitch).siteBase = bits b.head 511 464 ∧ (∀ q, q ≠ x.pitch → t.job q = s.job q)
      ∧ t.out.head? = some (.dgram r.port.val r.source.toNat r.udp.toNat typeReply false r.session.toNat r.seq.toNat 0x0201 0 0 (x.ctrOut + 1)
          ([0, 1, 2].flatMap fun d => toBytes 4 (place.filter (· = d)).length)))
  ∧ (∀ s r x seed nonce, InTurn s r x → x.role = 1 → s.changing = false → s.logFull = false → s.sec.log.refuses = false →
    s.seedRefused x.pitch seed nonce = false →
    ∃ t, exec (.jobSeed r seed nonce) s = .next t ∧ t.awaits (.seed x.pitch seed nonce (s.job x.pitch).num) = true ∧ t.sec.pitches = s.sec.pitches
      ∧ t.out.head? = some (.dgram r.port.val r.source.toNat r.udp.toNat typeAck false r.session.toNat r.seq.toNat 0x0202 0 0 (x.ctrOut + 1) []))
  ∧ (∀ s r x force, InTurn s r x → x.role ≤ 1 → rising s.jobs = true → s.changing = false → s.logFull = false → (s.job x.pitch).num ≠ 0 →
    (s.job x.pitch).ending = false → (force = true ∨ s.slotsBusy x.pitch = false) →
    ∃ t, exec (.jobEnd r force) s = .next t ∧ ((t.job x.pitch).ending = true ∨ (t.job x.pitch).num = 0))
  ∧ (∀ s r x, InTurn s r x → x.role ≤ 1 →
    let u := served s r x .jobStatus
    exec (.jobStatus r) s = .next (answered u r .jobStatus 0 (toBytes 2 (s.job x.pitch).num ++ toBytes 4 (s.cmtStep x.pitch)
      ++ (s.campsOf x.pitch).flatMap fun c => (List.range 4).map fun i => (s.slot (s.slotFor c i)).state)))

/-- For a Tenant in turn (for STREAM_ABORT the Warden too) and a camp of its pitch while the module is ACTIVE. STREAM_START
appends a good record to the slot's queue where fewer than four wait, answers MBX_QUEUE_FULL where four do, and
STREAM_SETTING_INVALID for a record that R166 refuses; but for the queue no slot changes. STREAM_RESUME of a halted slot in
service makes it go on and answers 0. STREAM_ABORT of a halted slot makes it idle with its queue kept, and of a running or
blocked one starts the forced abort. STREAM_STATUS answers with the status, the oldest index and the halt registers.
STASH_FREE frees the entries asked for and answers with how many there were. -/
def Obligations.StreamCommandsComplete : Prop :=
  (∀ s r x (camp : Camp) (slot : Slot) record, InTurn s r x → x.role = 1 → s.powerState = 0 → (s.mapOf x.pitch).camps.testBit camp.val = true →
    (s.job x.pitch).ending = false →
    let c := Cmd.streamStart camp slot record
    let u := served s r x c
    let k := s.slotFor camp slot
    (s.startRecOk (s.slotPitch k) record = true → (s.slot k).queue.length < 4 →
      exec (.streamStart r camp slot record) s =
        .next (answered (u.setSlot k { u.slot k with queue := (s.slot k).queue ++ [startRecOf record] }) r c 0 []))
    ∧ (s.startRecOk (s.slotPitch k) record = true → 4 ≤ (s.slot k).queue.length →
      exec (.streamStart r camp slot record) s = .next (answered u r c Code.MBX_QUEUE_FULL []))
    ∧ (s.startRecOk (s.slotPitch k) record = false →
      ∃ t, exec (.streamStart r camp slot record) s = .next t ∧ t.slots = s.slots
        ∧ t.out.head? = some (.dgram r.port.val r.source.toNat r.udp.toNat typeReply false r.session.toNat r.seq.toNat 0x0301 Code.STREAM_SETTING_INVALID 0
            (x.ctrOut + 1) [])))
  ∧ (∀ s r x (camp : Camp) (slot : Slot) skip, InTurn s r x → x.role = 1 → s.powerState = 0 → (s.mapOf x.pitch).camps.testBit camp.val = true →
    (s.slot (s.slotFor camp slot)).state = 4 → s.campFenced (slotCamp (s.slotFor camp slot)) = false →
    let c := Cmd.streamResume camp slot skip
    exec (.streamResume r camp slot skip) s = .next (answered ((served s r x c).resumeSlot (s.slotFor camp slot) skip) r c 0 []))
  ∧ (∀ s r x (camp : Camp) (slot : Slot), InTurn s r x → x.role ≤ 1 → s.powerState = 0 →
    (x.role = 1 → (s.mapOf x.pitch).camps.testBit camp.val = true) →
    let c := Cmd.streamAbort camp slot
    let u := served s r x c
    let k := s.slotFor camp slot
    ((s.slot k).state = 4 → exec (.streamAbort r camp slot) s =
      .next (answered (u.setSlot k { StreamSlot.idle with queue := (s.slot k).queue, home := (s.slot k).home }) r c 0 []))
    ∧ ((s.slot k).state ≠ 4 → (s.slot k).state ≠ 0 → (s.slot k).state ≠ 5 → (u.forceAbort k).host = u.host → (u.forceAbort k).fld Reg.MBX_STATUS_SERVER = 0 →
      exec (.streamAbort r camp slot) s = .next (acked (deferred (u.forceAbort k) r c (some (.slot k))) r c)))
  ∧ (∀ s r x (camp : Camp) (slot : Slot), InTurn s r x → x.role = 1 → s.powerState = 0 → (s.mapOf x.pitch).camps.testBit camp.val = true →
    let c := Cmd.streamStatus camp slot
    let u := served s r x c
    exec (.streamStatus r camp slot) s = .next (answered u r c 0 (toBytes 4 (u.strStatus (s.slotFor camp slot))
      ++ toBytes 4 (s.slot (s.slotFor camp slot)).oldest
      ++ toBytes 8 (u.fld Reg.STR_HALT_INDEX (4 * camp + slot) ||| u.fld Reg.STR_HALT_CODE (4 * camp + slot) <<< 48))))
  ∧ (∀ s r x mbatch, InTurn s r x → x.role = 1 →
    let c := Cmd.stashFree mbatch
    let u := served s r x c
  
  
    exec (.stashFree r mbatch) s = .next (answered (u.stashFree x.pitch mbatch) r c 0 (toBytes 4 (u.stashCount x.pitch mbatch))))

/-- For a Tenant in turn while the module is ACTIVE and a camp of its pitch whose tallies can be reached. TALLY_READ of 1 to
500 tallies of the camp answers with their words. TALLY_SET of a tally at which nobody waits sets COUNT, LIMIT or both
without a limit check, and no other tally changes; TAL_HAND counts it and a TALLY_SET entry joins the logbook. GUY_SET of one
camp that takes part sets that camp's latch of the current round. Memory is as before. -/
def Obligations.TallyAndGuylineCommandsComplete : Prop :=
  (∀ s r x (camp : Camp) first count, InTurn s r x → x.role = 1 → s.powerState = 0 → (s.mapOf x.pitch).camps.testBit camp.val = true →
    0 < count → count ≤ 500 → first + count ≤ 1024 → s.tallyReachable camp = true →
    let c := Cmd.tallyRead camp first count
    exec (.tallyRead r camp first count) s =
      .next (answered (served s r x c) r c 0 ((List.range count).flatMap fun i => toBytes 8 (s.tally camp (first + i)).word)))
  ∧ (∀ s r x (camp : Camp) (t : Fin 1024) count limit, InTurn s r x → x.role = 1 → rising s.sync.tallies = true → s.powerState = 0 →
    s.logFull = false → (s.mapOf x.pitch).camps.testBit camp.val = true → s.tallyReachable camp = true →
    (∀ w ∈ s.sync.waits, ¬ (w.camp = camp.val ∧ w.tally = t.val)) →
    ∃ u, exec (.tallySet r camp t count limit) s = .next u
      ∧ (u.tally camp t).count = (count.map (·.toNat)).getD (s.tally camp t).count
      ∧ (u.tally camp t).limit = (limit.map (·.toNat)).getD (s.tally camp t).limit
      ∧ (∀ d v, s.tallyKey d v ≠ s.tallyKey camp t → u.tally d v = s.tally d v) ∧ u.mem = s.mem ∧ u.slots = s.slots ∧ u.pegs = s.pegs)
  ∧ (∀ s r x (g : Guyline) (camp : Camp), InTurn s r x → x.role = 1 → s.powerState = 0 → s.logFull = false →
    (s.mapOf x.pitch).guys.testBit g.val = true → (s.mapOf x.pitch).camps.testBit camp.val = true →
    (s.fld Reg.GUY_CFG_CAMP_MASK g).testBit camp.val = true →
    ∃ u, exec (.guySet r g (some camp)) s = .next u ∧ ((u.guy g).latches (s.guy g).gen).testBit camp.val = true ∧ (u.guy g).gen = (s.guy g).gen
      ∧ (u.guy g).releases = (s.guy g).releases ∧ (∀ h, h ≠ g.val → u.guy h = s.guy h) ∧ u.mem = s.mem)

/-- For a request in turn that its role may send. FENCE of a location word that names no unit is answered with its refusal;
of a unit already FENCED, with the latch as R472 reads it; of a lane, engine or camp that is in service or FENCING outside a
fenced camp, it leaves the latch FENCING and the reply waits; of a returning one it leaves it FENCED and answers 2; of a die
in service it leaves all eight camps FENCING; of a pseudo-channel, a Shelf bank or a port it takes the unit down and answers
2. UNFENCE of a lane, engine or camp in service is answered with the latch; of a fenced one, a lane only outside a fenced
camp, it sets RETURNING, and the reply waits; of one FENCING or RETURNING it is answered MBX_STATE_CONFLICT; of a die it is
answered by its camps' latches in the same way, and the fenced ones return; of a memory unit or port, FENCE_UNIT_INVALID.
UNIT_STATE answers with the latch and the record as it stood. COMMIT_STATUS answers with CMT_STATUS. COMMIT_SETTLE of the
step and attempt that the pitch is READY or IN_DOUBT in, undecided, applies the host's decision and answers with STATE; any
other is answered MBX_STATE_CONFLICT. -/
def Obligations.UnitAndCommitCommandsComplete : Prop :=
  (∀ s r x (loc : BitVec 32) code, InTurn s r x → x.role = 0 → s.logFull = false → unitOf loc.toNat = .error code →
    exec (.fence r loc) s = .next (answered (served s r x (.fence loc)) r (.fence loc) code []))
  ∧ (∀ s r x (loc : BitVec 32) u, InTurn s r x → x.role = 0 → s.logFull = false → unitOf loc.toNat = .ok u → s.latch u = 2 →
    (∀ w ∈ s.rel.testing, FUnit.engine w.1 ≠ u) →
    let v := (served s r x (.fence loc)).readUnit u
    exec (.fence r loc) s = .next (answered v.2.2 r (.fence loc) 0 (toBytes 4 2)))
  ∧ (∀ s r x (loc : BitVec 32) u, InTurn s r x → x.role = 0 → s.powerState = 0 → s.logFull = false → unitOf loc.toNat = .ok u →
    ((∃ e l, u = .lane e l) ∨ (∃ e, u = .engine e) ∨ ∃ c, u = .camp c) → s.latch u ≤ 1 → s.parentStopped u = false →
    ∃ t, exec (.fence r loc) s = .next t ∧ t.latch u = 1 ∧ t.mem = s.mem ∧ t.slots = s.slots
      ∧ t.out.head? = some (.dgram r.port.val r.source.toNat r.udp.toNat typeAck false r.session.toNat r.seq.toNat 0x0501 0 0 (x.ctrOut + 1) []))
  ∧ (∀ s r x (loc : BitVec 32) u, InTurn s r x → x.role = 0 → s.logFull = false → unitOf loc.toNat = .ok u →
    ((∃ e l, u = .lane e l) ∨ (∃ e, u = .engine e) ∨ ∃ c, u = .camp c) → s.latch u = 3 →
    let c := Cmd.fence loc
    let v := ((served s r x c).endReturn u).logFence (callerOf s r x c) u.loc 0 2
    executing v r c → exec (.fence r loc) s = .next (answered v r c 0 (toBytes 4 2)))
  ∧ (∀ s r x (loc : BitVec 32) d, InTurn s r x → x.role = 0 → s.powerState = 0 → s.logFull = false → unitOf loc.toNat = .ok (.die d) →
    (∀ i, i < 8 → s.fld Reg.FEN_STATE_CAMP_STATE (8 * d + i) = 0) →
    ∃ t, exec (.fence r loc) s = .next t ∧ (∀ i, i < 8 → t.fld Reg.FEN_STATE_CAMP_STATE (8 * d + i) = 1) ∧ t.mem = s.mem ∧ t.slots = s.slots)
  ∧ (∀ s r x (loc : BitVec 32) u, InTurn s r x → x.role = 0 → s.logFull = false → unitOf loc.toNat = .ok u → s.latch u ≠ 2 →
    let c := Cmd.fence loc
    let w := served s r x c
    let done (v : State) : Prop := executing (v.logFence (callerOf s r x c) loc.toNat 0 2) r c →
      exec (.fence r loc) s = .next (answered (v.logFence (callerOf s r x c) loc.toNat 0 2) r c 0 (toBytes 4 2))
    (∀ n, u = .pc n → done (w.channelDead n)) ∧ (∀ d b, u = .bank d b → done (w.bankFence d b)) ∧ (∀ n, u = .port n → done (w.holdPort n))
      ∧ ∀ n, u = .host n → done (w.holdPort (36 + n)))
  ∧ (∀ s r x (loc : BitVec 32) u, InTurn s r x → x.role = 0 → s.logFull = false → unitOf loc.toNat = .ok u →
    ((∃ e l, u = .lane e l) ∨ (∃ e, u = .engine e) ∨ ∃ c, u = .camp c) →
    let c := Cmd.unfence loc
    let v := (served s r x c).readUnit u
    (s.latch u = 0 → exec (.unfence r loc) s = .next (answered v.2.2 r c 0 (toBytes 4 0)))
    ∧ (s.latch u = 1 ∨ s.latch u = 3 → exec (.unfence r loc) s = .next (answered (served s r x c) r c Code.MBX_STATE_CONFLICT [])))
  ∧ (∀ s r x (loc : BitVec 32) u, InTurn s r x → x.role = 0 → s.powerState = 0 → s.logFull = false → unitOf loc.toNat = .ok u →
    ((∃ e l, u = .lane e l) ∨ (∃ e, u = .engine e) ∨ ∃ c, u = .camp c) → s.latch u = 2 →
    (∀ e l, u = .lane e l → s.campFenced (e / 8) = false) →
    ∃ t, exec (.unfence r loc) s = .next t ∧ t.latch u = 3 ∧ t.mem = s.mem ∧ t.slots = s.slots
      ∧ (∀ e, u = .engine e → ∃ back, (e, back) ∈ t.rel.testing)
      ∧ t.out.head? = some (.dgram r.port.val r.source.toNat r.udp.toNat typeAck false r.session.toNat r.seq.toNat 0x0502 0 0 (x.ctrOut + 1) []))
  ∧ (∀ s r x (loc : BitVec 32) d, InTurn s r x → x.role = 0 → s.powerState = 0 → s.logFull = false → unitOf loc.toNat = .ok (.die d) →
    let c := Cmd.unfence loc
    let w := served s r x c
    let latch (i : Nat) : Nat := s.fld Reg.FEN_STATE_CAMP_STATE (8 * d + i)
    ((∃ i, i < 8 ∧ latch i % 2 = 1) → exec (.unfence r loc) s = .next (answered w r c Code.MBX_STATE_CONFLICT []))
    ∧ ((∀ i, i < 8 → latch i = 0) → exec (.unfence r loc) s = .next (answered (w.readUnit (.die d)).2.2 r c 0 (toBytes 4 0)))
    ∧ ((∀ i, i < 8 → latch i % 2 = 0) → (∃ i, i < 8 ∧ latch i = 2) →
      ∃ t, exec (.unfence r loc) s = .next t ∧ (∀ i, i < 8 → t.fld Reg.FEN_STATE_CAMP_STATE (8 * d + i) = if latch i = 2 then 3 else latch i)
        ∧ t.mem = s.mem ∧ t.slots = s.slots))
  ∧ (∀ s r x (loc : BitVec 32) u, InTurn s r x → x.role = 0 → s.logFull = false → unitOf loc.toNat = .ok u →
    ((∃ n, u = .pc n) ∨ (∃ d b, u = .bank d b) ∨ (∃ n, u = .port n) ∨ ∃ n, u = .host n) →
    exec (.unfence r loc) s = .next (answered (served s r x (.unfence loc)) r (.unfence loc) Code.FENCE_UNIT_INVALID []))
  ∧ (∀ s r x (loc : BitVec 32) u, InTurn s r x → x.role ≤ 1 → unitOf loc.toNat = .ok u →
    let c := Cmd.unitState loc
    let w := served s r x c
    let v := w.readUnit u
    (x.role = 0 ∨ s.ownUnit (callerOf s r x c) u = true →
      exec (.unitState r loc) s = .next (answered v.2.2 r c 0 (toBytes 4 (s.latch u) ++ toBytes 4 (s.unitRecord u))))
    ∧ (x.role = 1 → s.ownUnit (callerOf s r x c) u = false → exec (.unitState r loc) s = .next (answered w r c Code.MBX_NOT_PERMITTED [])))
  ∧ (∀ s r x, InTurn s r x → x.role = 1 →
    let u := served s r x .commitStatus
    exec (.commitStatus r) s = .next (answered u r .commitStatus 0 (toBytes 8 (u.regWord Reg.CMT_STATUS_STEP x.pitch))))
  ∧ (∀ s r x step attempt commit, InTurn s r x → x.role = 1 → s.logFull = false →
    let c := Cmd.commitSettle step attempt commit
    let u := served s r x c
    let open_ := (s.cmtState x.pitch = 3 ∨ s.cmtState x.pitch = 2 ∧ (s.commitRec x.pitch).vote = 1) ∧ (s.commitRec x.pitch).decided = 0
      ∧ s.cmtStep x.pitch = step ∧ s.cmtAttempt x.pitch = attempt
    let v := if commit then u.applyCommit x.pitch 6 else u.applyAbort x.pitch 6 s.devId
    let w := v.log 0x0044 1 x.pitch r.session.toNat r.tod.toNat [step, attempt, ofBool commit]
    (open_ → executing w r c → exec (.commitSettle r step attempt commit) s = .next (answered w r c 0 (toBytes 4 (v.cmtState x.pitch))))
    ∧ (¬ open_ → exec (.commitSettle r step attempt commit) s = .next (answered u r c Code.MBX_STATE_CONFLICT [])))

/-- REG_READ of 1 to 64 addresses, none a counter of blocked cycles, answers with their values and the mask of refusals and
changes nothing. A REG_WRITE that every pair passes is answered 0 with their effects. REGISTER_WRITE by the Tenant of a camp
to STR_CFG of one of its slots sets PRIO and WAIT_LOG2 and no other slot's. A SAT bit cleared by the Tenant zeroes it and its
counter (for DTM_LOSS). GUY_CFG_WRITE by the Warden, for a guyline whose pitch is unsealed and runs no job, sets its fields
and resets its record. HBM_TG_GO by the Warden, of a live idle pseudo-channel while HBM is in test, sets GO with its
settings. EVENT_READ answers with the records from the index on, at most 126, the next index and whether older ones were
overwritten. TELEM_READ of the start record answers it; an unlisted selector is refused. -/
def Obligations.RegisterCommandsComplete : Prop :=
  (∀ s r x addrs, InTurn s r x → x.role ≤ 2 → addrs ≠ [] → addrs.length ≤ 64 → (∀ a ∈ addrs, runsOn a = false) →
    let c := Cmd.regRead addrs
    let u := served s r x c
    let rs := addrs.map (u.readOne (callerOf s r x c).x)
    exec (.regRead r addrs) s = .next (answered u r c 0 (rs.flatMap (fun v => toBytes 8 v.1)
      ++ toBytes 8 ((rs.map (·.2)).foldr (fun b n => b + 2 * n) 0))))
  ∧ (∀ s r x pairs v, InTurn s r x → x.role ≤ 1 → s.changing = false → s.logFull = false → pairs ≠ [] → pairs.length ≤ 32 →
    let c := Cmd.regWrite pairs
    State.writePairs (callerOf s r x c) pairs (served s r x c) = (0, none, v) → v.changing = false → executing v r c →
    exec (.regWrite r pairs) s = .next (answered v r c 0 []))
  ∧ (∀ s (a : Actor) x (k : Fin 64) value, a.session ≠ 0 → s.session a.session = some x → x.role = 1 → s.campPitch (k / 4) = x.pitch →
    s.changing = false → s.logFull = false → registersWf s →
    ∃ t, exec (.registerWrite a (Reg.STR_CFG_PRIO.addr k 0) value) s = .next t
      ∧ t.fld Reg.STR_CFG_PRIO k = bits value 9 8 ∧ t.fld Reg.STR_CFG_WAIT_LOG2 k = bits value 4 0
      ∧ (∀ j : Fin 64, j ≠ k → t.fld Reg.STR_CFG_PRIO j = s.fld Reg.STR_CFG_PRIO j ∧ t.fld Reg.STR_CFG_WAIT_LOG2 j = s.fld Reg.STR_CFG_WAIT_LOG2 j)
      ∧ t.mem = s.mem ∧ t.slots = s.slots)
  ∧ (∀ s (a : Actor) x (e : Engine) value, a.session ≠ 0 → s.session a.session = some x → x.role = 1 → s.campPitch (e / 8) = x.pitch →
    s.changing = false → s.logFull = false → registersWf s → value.testBit 0 = true →
    ∃ t, exec (.satBitClear a (Reg.DTM_STAT_SAT_LOSS_SAT.addr e 0) value) s = .next t
      ∧ t.fld Reg.DTM_LOSS e = 0 ∧ t.fld Reg.DTM_STAT_SAT_LOSS_SAT e = 0 ∧ (∀ f : Engine, f ≠ e → t.fld Reg.DTM_LOSS f = s.fld Reg.DTM_LOSS f)
      ∧ t.mem = s.mem)
  ∧ (∀ s (a : Actor) x (g : Guyline) (value : BitVec 32), a.session ≠ 0 → s.session a.session = some x → x.role = 0 → s.changing = false →
    s.logFull = false → s.sealed (s.ownerOf 7 g) = false → (s.job (s.ownerOf 7 g)).num = 0 → registersWf s → rising s.sync.guys = true →
    ∃ t, exec (.guyCfgWrite a g value) s = .next t
      ∧ t.fld Reg.GUY_CFG_PITCH g = bits value.toNat 7 0 ∧ t.fld Reg.GUY_CFG_CAMP_MASK g = bits value.toNat 23 8
      ∧ t.fld Reg.GUY_CFG_LOCAL_N g = bits value.toNat 27 24 ∧ t.fld Reg.GUY_CFG_FABRIC g = bits value.toNat 28 28
      ∧ t.guy g = .reset ∧ (∀ h, h ≠ g.val → t.guy h = s.guy h) ∧ t.mem = s.mem)
  ∧ (∀ s (a : Actor) x (n : PseudoCh) (pattern : Fin 4) only, a.session ≠ 0 → s.session a.session = some x → x.role = 0 → s.changing = false →
    s.logFull = false → registersWf s → s.fld Reg.HBM_MAP_STATE = 2 → s.pcLive n = true → s.fld Reg.HBM_TG_CFG_GO n = 0 →
    ∃ t, exec (.hbmTgGo a n pattern only) s = .next t ∧ t.fld Reg.HBM_TG_CFG_GO n = 1 ∧ t.fld Reg.HBM_TG_CFG_PATTERN n = pattern.val
      ∧ t.fld Reg.HBM_TG_CFG_CHECK_ONLY n = ofBool only ∧ t.fld Reg.HBM_TG_FIRST_VALID n = 0 ∧ t.mem = s.mem)
  ∧ (∀ s r x (index : BitVec 64), InTurn s r x → x.role ≤ 2 →
    let ring := sget Ring.empty s.evs.rings (if x.role = 1 then x.pitch else 0)
    let first := max index.toNat ring.first
    let recs := (ring.recs.drop (first - ring.first)).take 126
    exec (.eventRead r index) s = .next (answered (served s r x (.eventRead index)) r (.eventRead index) 0
      (recs.flatMap Event.bytes ++ toBytes 8 (first + recs.length) ++ toBytes 1 (ofBool (index.toNat < ring.first)))))
  ∧ (∀ s r x sel arg, InTurn s r x → x.role ≤ 2 →
    let c := Cmd.telemRead sel arg
    let u := served s r x c
    (7 ≤ sel → exec (.telemRead r sel arg) s = .next (answered u r c Code.MBX_FORMAT_INVALID []))
    ∧ (sel = 6 → exec (.telemRead r sel arg) s = .next (answered u r c 0 (toBytes 4 (u.regWord Reg.STU_STATUS_PHASE 0)
        ++ toBytes 4 (u.fld Reg.STU_HISTORY_REASONS) ++ toBytes 8 (u.fld Reg.STU_STARTS))))
    ∧ (sel = 3 → x.role = 2 → exec (.telemRead r sel arg) s = .next (answered u r c 0 (toBytes 8 (s.fld Reg.LNT_ENERGY)))))

/-- For the Warden in turn, in service. PORT_CMD that holds down a Tideway port clears its ENABLE and answers with the port's
status word. POWER_STATE of the state that the module is in answers with it and changes nothing; of DOZE from ACTIVE, while
no job runs, enters DOZE, raises POWER_STATE_CHANGED and answers 2. HBM_TEST that enters the test state while no tenant owns
a page sets HBM_MAP.STATE to 2 and answers with HBM_MAP; one that asks to leave while HBM is not in test changes nothing. -/
def Obligations.PortPowerAndTestCommandsComplete : Prop :=
  (∀ s r x (port : TwPort), InTurn s r x → x.role = 0 → s.fld Reg.TWY_PORT_STATUS_STATE port = 0 → registersWf s →
    let c := Cmd.portCmd (port.castLE (by decide)) 1
    let u := (served s r x c).setFld Reg.TWY_PORT_CFG_ENABLE 0 port
    exec (.portCmd r (port.castLE (by decide)) 1) s = .next (answered u r c 0 (toBytes 4 (u.regWord Reg.TWY_PORT_STATUS_STATE port)))
      ∧ u.fld Reg.TWY_PORT_CFG_ENABLE port = 0)
  ∧ (∀ s r x, InTurn s r x → x.role = 0 → s.powerState = 0 →
    let c := Cmd.powerState 0
    exec (.powerState r 0) s = .next (answered (served s r x c) r c 0 (toBytes 4 0)))
  ∧ (∀ s r x, InTurn s r x → x.role = 0 → s.powerState = 0 → s.phase = 0 → s.anyJob = false →
    ∃ t, exec (.powerState r 2) s = .next t ∧ t.powerState = 2 ∧ t.mem = s.mem
      ∧ t.out.head? = some (.dgram r.port.val r.source.toNat r.udp.toNat typeReply false r.session.toNat r.seq.toNat 0x0606 0 0 (x.ctrOut + 1) (toBytes 4 2)))
  ∧ (∀ s r x, InTurn s r x → x.role = 0 → s.phase = 0 → s.fld Reg.HBM_MAP_STATE = 0 → (∀ e ∈ s.ras.owners, ¬ (1 ≤ e.2 ∧ e.2 ≤ 8)) →
    ∃ t, exec (.hbmTest r true []) s = .next t ∧ t.fld Reg.HBM_MAP_STATE = 2 ∧ t.mem = s.mem ∧ t.slots = s.slots)
  ∧ (∀ s r x, InTurn s r x → (x.role = 0 ∨ x.role = 2) → s.fld Reg.HBM_MAP_STATE = 0 →
    let c := Cmd.hbmTest false []
    exec (.hbmTest r false []) s = .next (answered (served s r x c) r c 0 (toBytes 8 ((served s r x c).regWord Reg.HBM_MAP_STATE 0))))

/-- LOG_READ answers with at most fifteen retained entries from the number asked for on, each as the session may read it, the
number after the last and whether older ones were overwritten. LOG_CHECKPOINT by the Warden while flash takes writes makes a
CHECKPOINT entry, whose reply waits for flash. ATTEST answers with the report, its signature and the certificate, and, as
LOG_READ does, changes nothing but the power of the security block. -/
def Obligations.LogbookAndAttestationCommandsComplete : Prop :=
  (∀ s r x (seq : BitVec 64), InTurn s r x → x.role ≤ 2 →
    let c := Cmd.logRead seq
    let u := served s r x c
    let oldest := s.fld Reg.SEC_LOG_OLDEST_SEQ
    let es := (logFrom s.sec.log.base (max seq.toNat oldest) s.sec.log.entries).take 15
    exec (.logRead r seq) s = .next (answered u.standbyPower r c 0 (es.flatMap (fun e => u.entryBytes (callerOf s r x c).x e.1 e.2)
      ++ toBytes 8 (max seq.toNat oldest + es.length) ++ toBytes 1 (ofBool (seq.toNat < oldest)))))
  ∧ (∀ s r x, InTurn s r x → x.role = 0 → s.changing = false → s.sec.log.refuses = false → s.sec.log.entries.length + 2 ≤ logCap → s.logSeq % 256 ≠ 0 →
    ∃ t e, exec (.logCheckpoint r) s = .next t ∧ t.sec.log.entries = e :: s.sec.log.entries ∧ e.kind = logCheckpoint ∧ e.seq = s.logSeq
      ∧ e.actor = 0 ∧ e.session = r.session.toNat 
      ∧ t.sec.log.ahead = s.sec.log.ahead ++
        [({ seq := s.logSeq, change := .checkpoint, reply := some (r.session.toNat, r.seq.toNat, 0x0702) } : Ahead)] ∧ t.mem = s.mem)
  ∧ (∀ s r x nonce, InTurn s r x → x.role ≤ 2 →
    let c := Cmd.attest nonce
    let u := served s r x c
    let head := u.reportHead (callerOf s r x c).x nonce
    exec (.attest r nonce) s = .next (answered u.standbyPower r c 0 (head ++ identitySign (ascii "PL480ATT") head ++ certificate)))

/-- For the Warden in turn, in service or in Bivouac mode. FW_STAGE of at most 4,032 bytes at a multiple of 64 within the
slot stages them, byte for byte, sets its STATE to 1 and keeps the other slot; into the slot that the runtime runs from it is
answered FW_SLOT_BUSY, and past 64 MiB MBX_FORMAT_INVALID. FW_VERIFY of a slot leaves the state that the checks of R491 give
it, makes a FIRMWARE entry and answers 0, or the code and sub-cause of the first check that fails. FW_ACTIVATE of a verified
slot that does not run, with nothing in its way, waits for its FIRMWARE entry; of any other slot it is answered
FW_NOT_VERIFIED. FW_STATUS answers with both slots' records, the active slot and the floor. -/
def Obligations.FirmwareCommandsComplete : Prop :=
  (∀ s r x (k : Fin 2) off data, InTurn s r x ∨ InBivouac s r x → x.role = 0 → s.logFull = false → (s.phase = 8 ∨ s.fld Reg.STU_STATUS_SLOT ≠ k.val) →
    data ≠ [] → data.length ≤ 4032 → off % 64 = 0 → off + data.length ≤ 2 ^ 26 → rising (s.fwSlot k).bytes = true →
    ∃ t b, exec (.fwStage r k off data) s = .next t ∧ (t.fwSlot k).state = 1 ∧ t.fwSlot (1 - k.val) = s.fwSlot (1 - k.val)
      ∧ (∀ i, i < data.length → t.slotByte k (off + i) = data.getD i 0 % 256) ∧ (∀ i, i < off ∨ off + data.length ≤ i → t.slotByte k i = s.slotByte k i)
      ∧ t.out.head? = some (.dgram r.port.val r.source.toNat r.udp.toNat typeReply b r.session.toNat r.seq.toNat 0x0801 0 0
          ((if b then x.ctrProxy else x.ctrOut) + 1) []) ∧ t.mem = s.mem)
  ∧ (∀ s r x (k : Fin 2) off data, InTurn s r x → x.role = 0 → s.logFull = false → data ≠ [] → data.length ≤ 4032 →
    let c := Cmd.fwStage k off data
    (off % 64 ≠ 0 ∨ 2 ^ 26 < off + data.length → exec (.fwStage r k off data) s = .next (answered (served s r x c) r c Code.MBX_FORMAT_INVALID []))
    ∧ (off % 64 = 0 → off + data.length ≤ 2 ^ 26 → s.phase ≠ 8 → s.fld Reg.STU_STATUS_SLOT = k.val →
      exec (.fwStage r k off data) s = .next (answered (served s r x c) r c Code.FW_SLOT_BUSY [])))
  ∧ (∀ s r x (k : Fin 2) readable, InTurn s r x ∨ InBivouac s r x → x.role = 0 → s.logFull = false →
    let c := Cmd.fwVerify k readable
    let u := (served s r x c).checkSlot k readable
    let v := u.2.log 0x0050 0 0 r.session.toNat r.tod.toNat (u.2.firmwareBody 1 k)
    exec (.fwVerify r k readable) s = .next (answered v r c ((u.1.map imageCode).getD 0) u.1.toList)
      ∧ (v.fwSlot k).state = (if u.1 = none then 2 else if u.1 = some 5 then 5 else 3) ∧ v.fwSlot (1 - k.val) = s.fwSlot (1 - k.val) ∧ v.mem = s.mem)
  ∧ (∀ s r x (k : Fin 2) raise, InTurn s r x ∨ InBivouac s r x → x.role = 0 → s.changing = false → (s.phase = 8 ∨ s.handBlocked = false) →
    (s.fwSlot k).state = 2 → (s.phase = 8 ∨ s.fld Reg.STU_STATUS_SLOT ≠ k.val) → s.sec.log.refuses = false →
    ∃ t b, exec (.fwActivate r k raise) s = .next t ∧ t.awaits (.activate k raise) = true ∧ t.boot = s.boot ∧ t.mem = s.mem
      ∧ t.out.head? = some (.dgram r.port.val r.source.toNat r.udp.toNat typeAck b r.session.toNat r.seq.toNat 0x0803 0 0
          ((if b then x.ctrProxy else x.ctrOut) + 1) []))
  ∧ (∀ s r x (k : Fin 2) raise, InTurn s r x ∨ InBivouac s r x → x.role = 0 → s.changing = false → (s.phase = 8 ∨ s.handBlocked = false) →
    ((s.fwSlot k).state ≠ 2 ∨ s.phase ≠ 8 ∧ s.fld Reg.STU_STATUS_SLOT = k.val) →
    let c := Cmd.fwActivate k raise
    exec (.fwActivate r k raise) s = .next (answered (served s r x c) r c Code.FW_NOT_VERIFIED []))
  ∧ (∀ s r x, InTurn s r x ∨ InBivouac s r x → (x.role = 0 ∨ x.role = 2) →
    let u := (served s r x .fwStatus).standbyPower
    exec (.fwStatus r) s = .next (answered u r .fwStatus 0 (s.slotRecord 0 ++ s.slotRecord 1
      ++ toBytes 8 (s.fld Reg.STU_STATUS_ACTIVE ||| s.fld Reg.SEC_FUSE_FLOOR <<< 8))))

/-- An ACTION that an open session asks for while no change waits, the logbook has room and flash takes writes, and that no
rule of R433 refuses, sets ACTION and puts its change behind its log-ahead entry; the pitch itself changes only once the
entry is in flash. FORCE_RELEASE waits behind its FUSE_BURN entry. An ACTION that the rules refuse for the role or the
pitch's state leaves every pitch and the logbook as they are. -/
def Obligations.PitchActionsComplete : Prop :=
  (∀ s (a : Actor) x (p : Fin 8), a.session ≠ 0 → s.session a.session = some x → x.role ≤ 1 → (x.role = 1 → x.pitch = p.val + 1) →
    s.changing = false → s.logFull = false → s.sec.log.refuses = false →
    ∀ row ∈ [(1, Instr.assign a p, Change.assign (p.val + 1)), (2, .apply a p, .apply (p.val + 1)), (3, .seal a p, .seal (p.val + 1)),
        (4, .release a p, .release (p.val + 1)), (5, .forceRelease a p, .forceRelease (p.val + 1))],
      s.actionRefusal (p.val + 1) row.1 x.role = 0 →
      ∃ t, exec row.2.1 s = .next t ∧ t.awaits row.2.2 = true
        ∧ t.fld Reg.SEC_PITCH_CTL_ACTION (p.val + 1) = row.1 ∧ t.fld Reg.SEC_PITCH_CTL_STATE (p.val + 1) = s.fld Reg.SEC_PITCH_CTL_STATE (p.val + 1)
        ∧ t.sec.pitches = s.sec.pitches ∧ t.mem = s.mem ∧ t.jobs = s.jobs ∧ t.slots = s.slots)
  ∧ (∀ s (a : Actor) x (p : Fin 8), a.session ≠ 0 → s.session a.session = some x → x.role = 2 →
    exec (.assign a p) s = .next s ∧ exec (.apply a p) s = .next s ∧ exec (.seal a p) s = .next s ∧ exec (.release a p) s = .next s
      ∧ exec (.forceRelease a p) s = .next s)

/-- By the Warden, while no change waits, the logbook has room and flash takes writes. OWNER_TRANSFER that R431 does not
refuse sets ACTION of SEC_OWNER_CTL and waits behind its OWNER_TRANSFER and FUSE_BURN entries; the owner key has not changed
yet. DEBUG_UNLOCK that R440 does not refuse waits behind its FUSE_BURN entry; DEBUG_LOCK while an unlock stands waits behind
its entry. SEC_TENANT_KEY_WRITE to an unassigned pitch sets its key. SEC_FAB0_KEY_WRITE of a key never installed waits behind
its KEY_EVENT entry. -/
def Obligations.OwnershipDebugAndKeyCommandsComplete : Prop :=
  (∀ s (a : Actor) x, a.session ≠ 0 → s.session a.session = some x → x.role = 0 → s.changing = false → s.logFull = false →
    s.sec.log.refuses = false →
    (s.transferRefusal 0 = 0 → ∃ t, exec (.ownerTransfer a) s = .next t ∧ t.awaits .ownerTransfer = true ∧ t.fld Reg.SEC_OWNER_CTL_ACTION = 1
      ∧ t.sec.ownerKey = s.sec.ownerKey ∧ t.sec.pitches = s.sec.pitches ∧ t.mem = s.mem)
    ∧ (s.unlockRefusal 0 = 0 → s.sec.unlocked = none → ∃ t, exec (.debugUnlock a) s = .next t
      ∧ t.awaits (.unlock (s.fld Reg.SEC_DEBUG_CTL_STEWARD)) = true ∧ t.sec.unlocked = none ∧ t.mem = s.mem)
    ∧ (s.sec.unlocked.isSome = true → ∃ t, exec (.debugLock a) s = .next t ∧ t.awaits .lock = true ∧ t.sec.unlocked = s.sec.unlocked ∧ t.mem = s.mem))
  ∧ (∀ s (a : Actor) x (p : Fin 8) (key : BitVec 456), a.session ≠ 0 → s.session a.session = some x → x.role = 0 → s.changing = false →
    s.logFull = false → s.fld Reg.SEC_PITCH_CTL_STATE (p.val + 1) = 0 → registersWf s →
    ∃ t, exec (.secTenantKeyWrite a p key) s = .next t ∧ t.fld Reg.SEC_TENANT_KEY_KEY (p.val + 1) = key.toNat
      ∧ (∀ q, q ≠ p.val + 1 → q < 9 → t.fld Reg.SEC_TENANT_KEY_KEY q = s.fld Reg.SEC_TENANT_KEY_KEY q) ∧ t.sec.pitches = s.sec.pitches ∧ t.mem = s.mem)
  ∧ (∀ s (a : Actor) x (key : BitVec 256), a.session ≠ 0 → s.session a.session = some x → x.role = 0 → s.changing = false → s.logFull = false →
    s.sec.log.refuses = false → registersWf s → s.sec.fabDigests.contains (fabricDigest key.toNat) = false →
    ∃ t, exec (.secFab0KeyWrite a key) s = .next t ∧ t.awaits (.fab0Key key.toNat) = true ∧ t.sec.pitches = s.sec.pitches
      ∧ t.sec.fabDigests = s.sec.fabDigests ∧ t.mem = s.mem)

/-- A host port that goes down reads STATE down with no lane, raises HOST_LINK_DOWN when it was up, and keeps every session.
A powered port that is not held comes up on its lanes. LLDP: a port that is up sends its TLVs, and keeps those that it
receives. An echo request is answered with its own body to its source. A solicitation of an address of the port is answered;
an advertisement is learnt; a router's prefix gives an address. A frame with a VLAN tag or a bad check sequence is discarded
and counted in HE_FCS; an IPv6 fragment and an IPv4 packet are discarded. A watchdog kick changes nothing that the model
holds. Memory is as before. -/
def Obligations.HostPortRowsComplete : Prop :=
  (∀ s (port : HePort), s.fld Reg.HE_STATUS_STATE (36 + port.val) = 2 → registersWf s →
    ∃ t, exec (.hostLinkDown port) s = .next t ∧ t.fld Reg.HE_STATUS_STATE (36 + port.val) = 0 ∧ t.fld Reg.HE_STATUS_LANES_OK (36 + port.val) = 0
      ∧ raised s t Code.HOST_LINK_DOWN 0 (locHost port.val) 0 ∧ t = { s with ctl := t.ctl, evs := t.evs }
      ∧ ctlKept s t [Reg.HE_STATUS_STATE.key (36 + port.val) 0, Reg.HE_STATUS_LANES_OK.key (36 + port.val) 0])
  ∧ (∀ s (port : HePort) (lanes : Fin 16), s.portPowered port.val = true → (s.hostPort port.val).held = false → lanes.val ≠ 0 →
    s.fld Reg.HE_STATUS_STATE (36 + port.val) ≠ 2 →
    ∃ t, exec (.hostLinkUp port lanes) s = .next t ∧ t.fld Reg.HE_STATUS_STATE (36 + port.val) = 2
      ∧ t.fld Reg.HE_STATUS_LANES_OK (36 + port.val) = lanes.val ∧ t.host.sessions = s.host.sessions ∧ t.mem = s.mem)
  ∧ (∀ s, s.hostIsUp 0 = true → s.hostIsUp 1 = false →
    ∃ t, exec .lldpTransmit s = .next t ∧ t.out = .frame 0 0x88CC 0x0180C200000E (s.lldpBody 0) :: s.out
      ∧ t = { s with ctl := t.ctl, out := t.out } ∧ ctlKept s t [Reg.HE_TX_BYTES.key 36 0])
  ∧ (∀ s (port : HePort) tlvs, s.hostIsUp port.val = true → bareFrame + tlvs.length ≤ 9216 →
    ∃ t, exec (.lldpReceive port tlvs .plain) s = .next t ∧ (t.hostPort port.val).lldp = tlvs ∧ t.host.sessions = s.host.sessions ∧ t.mem = s.mem
      ∧ ctlKept s t [Reg.HE_RX_BYTES.key (36 + port.val) 0])
  ∧ (∀ s (port : HePort) source body, s.hostIsUp port.val = true → ipFrame + 8 + body.length ≤ 9216 →
    ∃ t, exec (.icmpv6Echo port source body .plain) s = .next t ∧ t.out = .frame port.val 129 source.toNat body :: s.out
      ∧ t = { s with ctl := t.ctl, out := t.out }
      ∧ ctlKept s t [Reg.HE_RX_BYTES.key (36 + port.val) 0, Reg.HE_TX_BYTES.key (36 + port.val) 0])
  ∧ (∀ s (port : HePort), s.hostIsUp port.val = true →
    (∀ source target : BitVec 128, target.toNat ∈ (s.hostPort port.val).addresses →
      ∃ t b, exec (.neighbourDiscovery port (.solicit source target) .plain) s = .next t ∧ t.out = .frame port.val 136 source.toNat b :: s.out ∧ t.host = s.host)
    ∧ (∀ (target : BitVec 128) (mac : BitVec 48), ∃ t, exec (.neighbourDiscovery port (.advertise target mac) .plain) s = .next t
      ∧ (target.toNat, mac.toNat) ∈ (t.hostPort port.val).neighbours ∧ t.out = s.out)
    ∧ (∀ pfx : BitVec 64, ∃ t, exec (.neighbourDiscovery port (.router pfx) .plain) s = .next t
      ∧ (pfx.toNat <<< 64 ||| interfaceId port.val) ∈ (t.hostPort port.val).addresses ∧ t.out = s.out))
  ∧ (∀ s (port : HePort) (p : Rdma) f tlvs source body m data len, s.hostIsUp port.val = true → s.fld Reg.HE_FCS (36 + port.val) + 1 < ctrMax →
    registersWf s →
    ∀ row ∈ [Instr.lldpReceive port tlvs f, .icmpv6Echo port source body f, .neighbourDiscovery port m f, .rdmaWrite { p with port := port, frame := f } data,
        .rdmaRead { p with port := port, frame := f } len, .roceUnsupportedOperation { p with port := port, frame := f }],
      ((f = .vlan ∨ f = .badCheck) → ∃ t, exec row s = .next t ∧ t = { s with ctl := t.ctl }
        ∧ t.fld Reg.HE_FCS (36 + port.val) = s.fld Reg.HE_FCS (36 + port.val) + 1 ∧ ctlKept s t [Reg.HE_FCS.key (36 + port.val) 0])
      ∧ ((f = .fragment ∨ f = .ipv4) → exec row s = .next s))
  ∧ (∀ s a pair, exec (.lntWdogKick a pair) s = .next s)

/-- An RDMA_WRITE that its window admits, of bytes that may be written, stores them and is acknowledged; an RDMA_READ that
its window admits is answered with the bytes and changes no memory. An operation other than these is answered with a
remote-operation NAK. An access that no window admits leaves memory as it is, is counted in ROCE_REFUSED and answered with a
remote-access NAK. -/
def Obligations.RoceRowsComplete : Prop :=
  (∀ s (p : Rdma) data, s.hostIsUp p.port.val = true → p.frame = .plain → (sget noWindow s.host.windows p.rkey).admits p data.length 1 = true →
    let w := sget noWindow s.host.windows p.rkey
    let u := (s.gotFrame p.port.val (roceBytes data.length 16)).congestion p
    let ps := linePieces p.addr data.length
    u.writeGate w.pitch (u.mapOf w.pitch) none ps = (0, 0) →
    exec (.rdmaWrite p data) s = .next ((u.storePieces (u.mapOf w.pitch) ps data).sendRoce p roceAck 86 []))
  ∧ (∀ s (p : Rdma) len bs, s.hostIsUp p.port.val = true → p.frame = .plain → (sget noWindow s.host.windows p.rkey).admits p len 0 = true →
  
    let w := sget noWindow s.host.windows p.rkey
    let u := (s.gotFrame p.port.val (roceBytes 0 16)).congestion p
    u.readAt w.pitch (u.mapOf w.pitch) p.addr len = .ok bs →
    ∃ t, exec (.rdmaRead p len) s = .next t ∧ t.out.head? = some (.roce p.port.val p.source.toNat p.qp roceAck bs)
      ∧ t = { s with ctl := t.ctl, out := t.out }
      ∧ ctlKept s t [Reg.HE_RX_BYTES.key (36 + p.port.val) 0, Reg.HE_TX_BYTES.key (36 + p.port.val) 0])
  ∧ (∀ s (p : Rdma), s.hostIsUp p.port.val = true → p.frame = .plain →
    ∃ t, exec (.roceUnsupportedOperation p) s = .next t ∧ t.out.head? = some (.roce p.port.val p.source.toNat p.qp roceOpNak [])
      ∧ t = { s with ctl := t.ctl, out := t.out }
      ∧ ctlKept s t [Reg.HE_RX_BYTES.key (36 + p.port.val) 0, Reg.HE_TX_BYTES.key (36 + p.port.val) 0])
  ∧ (∀ s (p : Rdma) data, s.hostIsUp p.port.val = true → p.frame = .plain → (sget noWindow s.host.windows p.rkey).admits p data.length 1 = false →
    p.congested = false →
    ∃ t, exec (.rdmaWrite p data) s = .next t ∧ t.mem = s.mem ∧ t.out.head? = some (.roce p.port.val p.source.toNat p.qp roceNak [])
      ∧ (s.fld Reg.ROCE_REFUSED (36 + p.port.val) < ctrMax - 1 →
        t.fld Reg.ROCE_REFUSED (36 + p.port.val) = s.fld Reg.ROCE_REFUSED (36 + p.port.val) + 1))

/-- A well-formed, authenticated request with a fresh counter that Dzisia pair 0 has not claimed is answered with one BUSY
from the Lantern, under the Lantern's own counter of the session, with a wait of 100 ms, or 200 ms while a hand-off runs; the
session accepts its counter and holds no request more, and MBX_PROXY_BUSY counts it. Sessions other than that one, memory and
every part of the state but the mailbox, registers, events and outputs are as before. -/
def Obligations.LanternAnswersBusy : Prop :=
  ∀ s r x opcode, s.hostIsUp r.port.val = true → s.fld Reg.MBX_STATUS_SERVER < 2 → r.frame = .plain → frameOverhead + r.bytes ≤ 9216 → r.dport.toNat = dzmpPort →
    dzmpForm r true = true → s.session r.session.toNat = some x → x.fresh r.ctr.toNat = true → r.tagOk = true → r.ctr.toNat ≤ ctrLimit → x.ctrProxy < ctrLimit →
    ∃ t y, exec (.lanternClaim r opcode) s = .next t ∧ t.session r.session.toNat = some y ∧ y.held = x.held ∧ y.next = x.next
      ∧ y.ctrTop = max x.ctrTop r.ctr.toNat ∧ y.ctrProxy = x.ctrProxy + 1 ∧ y.ctrOut = x.ctrOut
      ∧ t.out = .dgram r.port.val r.source.toNat r.udp.toNat typeBusy true r.session.toNat r.seq.toNat opcode Code.MBX_BUSY
          (if s.boot.hand ≠ 0 then 200 else 100) (x.ctrProxy + 1) [] :: s.out
      ∧ (∀ n, n ≠ r.session.toNat → t.session n = s.session n) ∧ t = { s with host := t.host, ctl := t.ctl, evs := t.evs, out := t.out }

/-- For a core that can execute, and an operand that names a reachable tally at which nobody waits. PL_SIG raises COUNT by
its amount, within LIMIT; for another device it sends the amount as a signal and counts one more outstanding. PL_WAIT
subtracts at once and retires with 0 where COUNT suffices, and else blocks in the tally's queue with no tally changed.
PL_TRYWAIT subtracts and gives 0, or gives 1 and changes no tally. PL_TAKE subtracts. PL_TREAD gives COUNT. TAL_OPS of the
tally's camp alone changes among the registers, and memory, slots and every other tally are as before. PegOrder is part of
the invariant of CanonicalFormIsKept. -/
def Obligations.XpegTallyInstructionsComplete : Prop :=
  ∀ s (core : PegCore) (rd : Fin 32) (rs1 rs2 : BitVec 64) c t, s.pegRuns core = true → PegOrder s core → s.pegTally core rs1 = some (c, t) →
    s.tallyReachable c = true → noWaiter s c t →
    let amount := bits rs2.toNat 31 0
    let y := s.tally c t
    (0 < amount → y.count + amount ≤ y.limit → s.pegStores core = false →
      ∃ u, exec (.plSig core rs1 rs2) s = .next u ∧ tallyBecomes s u c t { y with count := y.count + amount }
        ∧ u = { s with sync := { s.sync with tallies := u.sync.tallies }, ctl := u.ctl } ∧ ctlKept s u [Reg.TAL_OPS.key c 0])
    ∧ (amount = 0 → s.pegStores core = false → exec (.plSig core rs1 rs2) s = .next s)
    ∧ (0 < amount → amount ≤ y.count → amount ≤ y.limit →
      ∃ u, exec (.plWait core rd rs1 rs2) s = .next u ∧ tallyBecomes s u c t { y with count := y.count - amount } ∧ wrote u core rd 0
        ∧ (u.peg core).block = none ∧ u.sync.waits = s.sync.waits ∧ u.mem = s.mem ∧ u.slots = s.slots ∧ ctlKept s u [Reg.TAL_OPS.key c 0])
    ∧ (y.count < amount → amount ≤ y.limit →
      ∃ u, exec (.plWait core rd rs1 rs2) s = .next u ∧ (u.peg core).block = some (.wait rd c t amount) ∧ u.sync.tallies = s.sync.tallies
        ∧ u.sync.waits = s.sync.waits ++ [{ camp := c, tally := t, agent := .peg core, amount := amount }] ∧ u.mem = s.mem ∧ u.slots = s.slots
        ∧ ctlKept s u [Reg.TAL_OPS.key c 0])
    ∧ (0 < amount → amount ≤ y.count →
      ∃ u, exec (.plTrywait core rd rs1 rs2) s = .next u ∧ tallyBecomes s u c t { y with count := y.count - amount } ∧ wrote u core rd 0
        ∧ u = { s with sync := { s.sync with tallies := u.sync.tallies }, pegs := u.pegs, ctl := u.ctl } ∧ ctlKept s u [Reg.TAL_OPS.key c 0])
    ∧ (y.count < amount →
      ∃ u, exec (.plTrywait core rd rs1 rs2) s = .next u ∧ wrote u core rd 1 ∧ u = { s with pegs := u.pegs, ctl := u.ctl }
        ∧ ctlKept s u [Reg.TAL_OPS.key c 0])
    ∧ (0 < amount → amount ≤ y.count →
      ∃ u, exec (.plTake core rs1 rs2) s = .next u ∧ tallyBecomes s u c t { y with count := y.count - amount }
        ∧ u = { s with sync := { s.sync with tallies := u.sync.tallies }, ctl := u.ctl } ∧ ctlKept s u [Reg.TAL_OPS.key c 0])
    ∧ (∃ u, exec (.plTread core rd rs1) s = .next u ∧ wrote u core rd y.count ∧ u = { s with pegs := u.pegs, ctl := u.ctl }
        ∧ ctlKept s u [Reg.TAL_OPS.key c 0])

/-- PL_SIG to another device with a non-zero amount sends one signal of the core's pitch and job, and the core counts one
more outstanding there. A tally operand that the pitch does not map makes the instruction raise ADDRESS_RESERVED and take an
access exception, with no tally changed; so do a signal beyond LIMIT, with TALLY_OVERFLOW, and a take below zero, with
TALLY_UNDERFLOW; and any operation on a tally that cannot be reached, with TALLY_UNREACHABLE, as a store access fault. A word
in Xpeg's opcodes that R272 does not list is an illegal instruction: the core traps with the word. A LIMIT store that
satisfies R278 sets LIMIT alone. -/
def Obligations.XpegSignalsOtherDevicesAndTraps : Prop :=
  (∀ s (core : PegCore) (rs1 rs2 : BitVec 64), s.pegRuns core = true → rs1.getLsbD 60 = true → bits rs2.toNat 31 0 ≠ 0 →
    let p := s.pegPitch core
    exec (.plSig core rs1 rs2) s = .next ((s.setPeg core ((s.peg core).count (bits rs1.toNat 59 48) true)).request
      { blankPacket with kind := kindSignal, pitch := p, job := (s.job p).num, dst := bits rs1.toNat 59 48, addr := bits rs1.toNat 47 0,
                         body := toBytes 4 (bits rs2.toNat 31 0) } (.peg core)))
  ∧ (∀ s (core : PegCore) (rd : Fin 32) (rs1 rs2 : BitVec 64), s.pegRuns core = true → rs1.getLsbD 60 = false → s.pegTally core rs1 = none →
    ∀ row ∈ [(Instr.plSig core rs1 rs2, causeStore), (.plWait core rd rs1 rs2, causeStore), (.plTrywait core rd rs1 rs2, causeStore),
        (.plTake core rs1 rs2, causeStore), (.plTread core rd rs1, causeLoad)],
      ∃ u, exec row.1 s = .next u ∧ (u.peg core).trap = row.2 ∧ (u.peg core).trapValue = bits rs1.toNat 47 0
        ∧ (u.peg core).regs = (s.peg core).regs ∧ u = { s with pegs := u.pegs, evs := u.evs }
        ∧ u.evs = (s.memEvent (s.pegPitch core) Code.ADDRESS_RESERVED (bits rs1.toNat 47 0)).evs)
  ∧ (∀ s (core : PegCore) (rs1 rs2 : BitVec 64) c t, s.pegRuns core = true → s.pegTally core rs1 = some (c, t) → s.tallyReachable c = true →
    let amount := bits rs2.toNat 31 0
    (s.tally c t).limit < (s.tally c t).count + amount → 0 < amount → s.pegStores core = false →
    ∃ u, exec (.plSig core rs1 rs2) s = .next u ∧ (u.peg core).trap = causeStore ∧ u.sync = s.sync ∧ u.mem = s.mem
      ∧ u.evs = (s.tallyFault Code.TALLY_OVERFLOW c t amount (pegIssuer core) (core / 4) 0).evs)
  ∧ (∀ s (core : PegCore) (rs1 rs2 : BitVec 64) c t, s.pegRuns core = true → s.pegTally core rs1 = some (c, t) → s.tallyReachable c = true →
    let amount := bits rs2.toNat 31 0
    (s.tally c t).count < amount →
    ∃ u, exec (.plTake core rs1 rs2) s = .next u ∧ (u.peg core).trap = causeStore ∧ u.sync = s.sync ∧ u.mem = s.mem
      ∧ u.evs = (s.tallyFault Code.TALLY_UNDERFLOW c t amount (pegIssuer core) (core / 4) 0).evs)
  ∧ (∀ s (core : PegCore) (rd : Fin 32) (rs1 rs2 : BitVec 64) c t, s.pegRuns core = true → s.pegTally core rs1 = some (c, t) → s.tallyReachable c = false →
    s.pegStores core = false →
    let amount := bits rs2.toNat 31 0
    0 < amount →
    ∀ row ∈ [(Instr.plSig core rs1 rs2, amount), (.plWait core rd rs1 rs2, amount), (.plTrywait core rd rs1 rs2, amount), (.plTake core rs1 rs2, amount),
        (.plTread core rd rs1, 0)],
      ∃ u, exec row.1 s = .next u ∧ (u.peg core).trap = causeStore ∧ (u.peg core).regs = (s.peg core).regs ∧ (u.peg core).block = none ∧ u.sync = s.sync
        ∧ u.mem = s.mem ∧ u.evs = (s.tallyFault Code.TALLY_UNREACHABLE c t row.2 (pegIssuer core) (core / 4) 0).evs)
  ∧ (∀ s (core : PegCore) (word : BitVec 32), s.pegRuns core = true → xpegOpcode word.toNat = true → xpegListed word.toNat = false → word.toNat ≠ 0 →
    ∃ u, exec (.xpegIllegalInstruction core word) s = .next u ∧ (u.peg core).trap = causeIllegal ∧ (u.peg core).trapValue = word.toNat
      ∧ (u.peg core).regs = (s.peg core).regs ∧ u = { s with pegs := u.pegs })
  ∧ (∀ s (core : PegCore) (addr : BitVec 48) (value : BitVec 32) c off, s.pegRuns core = true → rising s.sync.tallies = true →
    (translate (s.mapOf (s.pegPitch core)) addr.toNat).map region = some (.tally c off) → off % 8 = 4 → off < 2 ^ 13 → s.tallyReachable c = true →
    s.limitOk c (off / 8) value.toNat = true →
    ∃ u, exec (.tallyLimitStore core addr value) s = .next u ∧ tallyBecomes s u c (off / 8) { s.tally c (off / 8) with limit := value.toNat }
      ∧ u = { s with sync := { s.sync with tallies := u.sync.tallies } })

/-- PL_BAR of a core without a pending arrival at the guyline, which the guyline takes, records the pending arrival and
blocks until the round's release; with a pending arrival it blocks for that one and arrives no second time; an arrival that
the guyline refuses traps. PL_WFENCE with nothing outstanding toward its target retires at once, with 1 when something there
ended in error and 0 else; else it blocks. A blocked instruction, whichever it is, retires with 1 at the limit that xpegwait
sets, values below 20 acting as 20, and leaves what it waited for; before that it stays blocked; one that an interrupt ends
does not retire: no register changes. A pending arrival stays in both. -/
def Obligations.XpegBarriersAndFencesComplete : Prop :=
  (∀ s (core : PegCore) (rd : Fin 32) (rs1 : BitVec 64) round s1, s.pegRuns core = true →
    (∀ a ∈ (s.peg core).arrivals, a.1 ≠ bits rs1.toNat 4 0) → s.arrive (bits rs1.toNat 4 0) (.peg core) (rs1.getLsbD 8) = (0, round, s1) →
    ∃ u, exec (.plBar core rd rs1) s = .next u ∧ (u.peg core).block = some (.bar rd (bits rs1.toNat 4 0))
      ∧ (u.peg core).arrivals = (s.peg core).arrivals ++ [(bits rs1.toNat 4 0, round)] ∧ u.sync.guys = s1.sync.guys
      ∧ u.sync.guyWaits = s.sync.guyWaits ++ [{ guy := bits rs1.toNat 4 0, agent := .peg core, round := round }] ∧ u.mem = s.mem ∧ u.slots = s.slots)
  ∧ (∀ s (core : PegCore) (rd : Fin 32) (rs1 : BitVec 64) code round s1, s.pegRuns core = true →
    (∀ a ∈ (s.peg core).arrivals, a.1 ≠ bits rs1.toNat 4 0) → s.arrive (bits rs1.toNat 4 0) (.peg core) (rs1.getLsbD 8) = (code, round, s1) → code ≠ 0 →
    ∃ u, exec (.plBar core rd rs1) s = .next u ∧ (u.peg core).trap = causeStore ∧ (u.peg core).block = none ∧ (u.peg core).arrivals = (s.peg core).arrivals
      ∧ u.sync = s1.sync ∧ u.mem = s.mem)
  ∧ (∀ s (core : PegCore) (rd : Fin 32) (rs1 : BitVec 64) round, s.pegRuns core = true →
    (s.peg core).arrivals.find? (fun x => decide (x.1 = bits rs1.toNat 4 0)) = some (bits rs1.toNat 4 0, round) →
    ∃ u, exec (.plBar core rd rs1) s = .next u ∧ (u.peg core).block = some (.bar rd (bits rs1.toNat 4 0))
      ∧ (u.peg core).arrivals = (s.peg core).arrivals ∧ u.sync.guys = s.sync.guys
      ∧ u.sync.guyWaits = s.sync.guyWaits ++ [{ guy := bits rs1.toNat 4 0, agent := .peg core, round := round }])
  ∧ (∀ s (core : PegCore) (rd : Fin 32) (rs1 : BitVec 64), s.pegRuns core = true → PegOrder s core →
    let target := if rs1.getLsbD 12 then 4096 else bits rs1.toNat 11 0
    (sget 0 (s.peg core).outstanding target = 0 →
      ∃ u, exec (.plWfence core rd rs1) s = .next u ∧ wrote u core rd (ofBool (decide (target ∈ (s.peg core).failed))) ∧ (u.peg core).block = none
        ∧ target ∉ (u.peg core).failed ∧ u = { s with pegs := u.pegs })
    ∧ (sget 0 (s.peg core).outstanding target ≠ 0 →
      ∃ u, exec (.plWfence core rd rs1) s = .next u ∧ (u.peg core).block = some (.wfence rd target) ∧ u = { s with pegs := u.pegs }))
  ∧ (∀ s (core : PegCore) b (wl : BitVec 5) (cycles : BitVec 32), s.campsGated = false → (s.peg core).block = some b → PegOrder s core →
    let rd := match b with
      | .wait rd .. => rd
      | .bar rd _ => rd
      | .wfence rd _ => rd
    (cycles.toNat < 2 ^ max 20 wl.toNat → ∃ u, exec (.pegBlockTimeout core wl cycles) s = .next u ∧ u = { s with pegs := u.pegs } ∧ (u.peg core).waitLog = wl.toNat
      ∧ (u.peg core).block = some b)
    ∧ (2 ^ max 20 wl.toNat ≤ cycles.toNat → ∃ u, exec (.pegBlockTimeout core wl cycles) s = .next u ∧ wrote u core rd 1 ∧ (u.peg core).block = none ∧ (u.peg core).arrivals = (s.peg core).arrivals
      ∧ (∀ w ∈ u.sync.guyWaits, w.agent ≠ .peg core) ∧ u.mem = s.mem)
    ∧ ∃ u, exec (.pegBlockInterrupt core) s = .next u ∧ (u.peg core).regs = (s.peg core).regs ∧ (u.peg core).block = none
      ∧ (u.peg core).arrivals = (s.peg core).arrivals ∧ (∀ w ∈ u.sync.guyWaits, w.agent ≠ .peg core) ∧ u.mem = s.mem)

/-- PL_START of a readable record gives 0 and appends it to the slot's queue, 1 where four wait, 2 where R166 refuses it, 3
for a camp of another pitch. PL_SSTAT of a camp of the pitch gives the slot's status and oldest index; of another camp it
gives a free value (the manual fixes none). PL_BF16 gives the BF16 of an FP32 value; PL_E2M1 the E2M1 code of a quotient that
is a number, and a free code of one that is not; PL_SPD half of the Spindrift output of the pitch's key, and an illegal
instruction without a key. -/
def Obligations.XpegStreamAndNumberInstructionsComplete : Prop :=
  (∀ s (core : PegCore) (rd : Fin 32) (rs1 rs2 : BitVec 64) w, s.pegRuns core = true → PegOrder s core →
    s.readNum (s.pegPitch core) (s.mapOf (s.pegPitch core)) (bits rs1.toNat 47 0) 32 = .ok w →
    let c := slotOperand rs2.toNat / 4
    let k := s.slotFor c (slotOperand rs2.toNat % 4)
    let mine := (s.mapOf (s.pegPitch core)).camps.testBit c
    (mine = true → s.startRecOk (s.slotPitch k) w = true → (s.slot k).queue.length < 4 →
      ∃ u, exec (.plStart core rd rs1 rs2) s = .next u ∧ wrote u core rd 0
        ∧ u = { s.setSlot k { s.slot k with queue := (s.slot k).queue ++ [startRecOf w] } with pegs := u.pegs })
    ∧ (mine = true → s.startRecOk (s.slotPitch k) w = true → 4 ≤ (s.slot k).queue.length →
      ∃ u, exec (.plStart core rd rs1 rs2) s = .next u ∧ wrote u core rd 1 ∧ u = { s with pegs := u.pegs })
    ∧ (mine = true → s.startRecOk (s.slotPitch k) w = false →
      ∃ u, exec (.plStart core rd rs1 rs2) s = .next u ∧ wrote u core rd 2 ∧ u = { s with pegs := u.pegs, evs := u.evs })
    ∧ (mine = false → ∃ u, exec (.plStart core rd rs1 rs2) s = .next u ∧ wrote u core rd 3 ∧ u = { s with pegs := u.pegs }))
  ∧ (∀ s (core : PegCore) (rd : Fin 32) (rs1 rs2 : BitVec 64), s.pegRuns core = true → PegOrder s core →
    let k := s.slotFor (slotOperand rs1.toNat / 4) (slotOperand rs1.toNat % 4)
    ((s.mapOf (s.pegPitch core)).camps.testBit (slotOperand rs1.toNat / 4) = true →
      ∃ u, exec (.plSstat core rd rs1) s = .next u ∧ wrote u core rd (s.strStatus k ||| (s.slot k).oldest <<< 32) ∧ u = { s with pegs := u.pegs })
    ∧ ((s.mapOf (s.pegPitch core)).camps.testBit (slotOperand rs1.toNat / 4) = false →
      ∃ u v, exec (.plSstat core rd rs1) s = .next u ∧ wrote u core rd v ∧ u = { s with pegs := u.pegs, fresh := s.fresh + 1 })
    ∧ (∃ u, exec (.plBf16 core rd rs1) s = .next u ∧ wrote u core rd (convert fp32 bf16 (bits rs1.toNat 31 0)) ∧ u = { s with pegs := u.pegs })
    ∧ (∀ q, e2m1Quotient (fp32.decode (bits rs1.toNat 31 0)) (fp32.decode (bits rs2.toNat 31 0)) = some q →
      ∃ u, exec (.plE2m1 core rd rs1 rs2) s = .next u ∧ wrote u core rd q ∧ u = { s with pegs := u.pegs })
    ∧ (∀ key high, (s.pitchRec (s.pegPitch core)).spdKey = some key →
      ∃ u, exec (.plSpd core rd high rs1 rs2) s = .next u ∧ u = { s with pegs := u.pegs }
        ∧ wrote u core rd (if high then bits (spindrift key 0x0100 (rs1.toNat + rs2.toNat * 2 ^ 64)) 127 64
            else bits (spindrift key 0x0100 (rs1.toNat + rs2.toNat * 2 ^ 64)) 63 0))
    ∧ (∀ high, (s.pitchRec (s.pegPitch core)).spdKey = none →
      ∃ u, exec (.plSpd core rd high rs1 rs2) s = .next u ∧ (u.peg core).trap = causeIllegal ∧ (u.peg core).regs = (s.peg core).regs))

/-- An idle slot whose camp's sequencer runs takes its oldest start record: the slot runs, its list begins at LIST_BASE index
0. A NOP that may issue joins the flights with its work done. So does a FENCE_POINT, also while its camp is fencing; what it
records it records when it completes. END with no tally left at a balance returns the slot to idle with its queue, counts one
descriptor, and adds 1 to the END tally where END_EN is set. No other slot, register or byte of memory changes. Issuing lists
when a descriptor may issue. -/
def Obligations.StreamControlDescriptorsComplete : Prop :=
  (∀ s (k : SlotKey) r rest, rising s.slots = true → (s.slot k).state = 0 → (s.slot k).queue = r :: rest → s.campRuns (slotCamp k) = true →
    s.fld Reg.FEN_STATE_CAMP_STATE (slotCamp k) = 0 →
    ∃ u, exec (.streamTakeRecord k) s = .next u ∧ u = { s with slots := u.slots } ∧ (∀ j, j ≠ k.val → u.slot j = s.slot j)
      ∧ (u.slot k).state = 1 ∧ (u.slot k).queue = rest ∧ (u.slot k).run = some r ∧ (u.slot k).main.base = r.list ∧ (u.slot k).main.next = 0
      ∧ (u.slot k).main.flights = [] ∧ (u.slot k).chain = none ∧ (u.slot k).touched = [] ∧ (u.slot k).home = (s.slot k).home)
  ∧ (∀ s (k : SlotKey) x r w, Issuing s k tNop x r w →
    ∃ u, exec (.nop k) s = .next u ∧ joined s u k x w 0 true true ∧ (u.slot k).state = 1 ∧ u = { s with slots := u.slots, issued := u.issued })
  ∧ (∀ s (k : SlotKey) x r w, Issuing s k tFencePoint x r w →
    ∃ u, exec (.fencePoint k) s = .next u ∧ joined s u k x w 0 true true ∧ (u.slot k).resume = (s.slot k).resume
      ∧ (u.slot k).resumeTouched = (s.slot k).resumeTouched ∧ (u.slot k).state = 1 ∧ u = { s with slots := u.slots, issued := u.issued })
  ∧ (∀ s (k : SlotKey) x r w, Issuing s k tEnd x r w → registersWf s → residue x.touched = none → r.endEn = false →
    ∃ u, exec (.endStream k) s = .next u ∧ u = { s with slots := u.slots, ctl := u.ctl }
      ∧ u.slot k = { StreamSlot.idle with queue := x.queue, home := x.home } ∧ (∀ j, j ≠ k.val → u.slot j = s.slot j)
      ∧ ctlKept s u [Reg.STR_DESC_DONE.key (s.slotHome k) 0]
      ∧ u.fld Reg.STR_DESC_DONE (s.slotHome k) = (s.fld Reg.STR_DESC_DONE (s.slotHome k) + 1) % 2 ^ Reg.STR_DESC_DONE.width)
  ∧ (∀ s (k : SlotKey) x r w, Issuing s k tEnd x r w → rising s.sync.tallies = true → residue x.touched = none → r.endEn = true →
    s.tallyReachable r.endCamp = true → noWaiter s r.endCamp r.endTally → (s.tally r.endCamp r.endTally).count < (s.tally r.endCamp r.endTally).limit →
    ∃ u, exec (.endStream k) s = .next u
      ∧ tallyBecomes s u r.endCamp r.endTally { s.tally r.endCamp r.endTally with count := (s.tally r.endCamp r.endTally).count + 1 }
      ∧ u.slot k = { StreamSlot.idle with queue := x.queue, home := x.home } ∧ (∀ j, j ≠ k.val → u.slot j = s.slot j)
      ∧ u = { s with slots := u.slots, ctl := u.ctl, sync := { s.sync with tallies := u.sync.tallies } }
      ∧ ctlKept s u [Reg.STR_DESC_DONE.key (s.slotHome k) 0, Reg.TAL_OPS.key r.endCamp 0])

/-- SIGNAL issues in order: where an earlier descriptor of the stream has not completed it joins the flights unperformed, and
nothing else changes. With none it performs at once: a local one raises COUNT by AMOUNT within LIMIT, its slot's balance
rises by it, and TAL_OPS of the camp counts it; one of another device leaves as one SIGNAL packet of the pitch's job. TAKE
subtracts AMOUNT from a COUNT that suffices, and its slot's balance falls by it. An amount of 0 changes no tally. Memory,
every other slot and every other tally are as before. Numbered is the invariant of FlightNumbersStayUnique. -/
def Obligations.SignalsAndTakesComplete : Prop :=
  (∀ s (k : SlotKey) x r w, Issuing s k tSignal x r w → x.alone = false →
    ∃ u, exec (.signal k) s = .next u ∧ joined s u k x w 0 false false ∧ (u.slot k).state = 1 ∧ u = { s with slots := u.slots, issued := u.issued })
  ∧ (∀ s (k : SlotKey) x r w, Issuing s k tSignal x r w → Numbered s → x.alone = true → yAmount w = 0 →
    ∃ u, exec (.signal k) s = .next u ∧ joined s u k x w 0 true true ∧ u = { s with slots := u.slots, issued := u.issued })
  ∧ (∀ s (k : SlotKey) x r w, Issuing s k tSignal x r w → Numbered s → rising s.sync.tallies = true → x.alone = true → yAmount w ≠ 0 → bit w 76 = false →
    s.tallyReachable (yCamp w) = true → noWaiter s (yCamp w) (yTally w) →
    let y := s.tally (yCamp w) (yTally w)
    y.count + yAmount w ≤ y.limit →
    ∃ u, exec (.signal k) s = .next u ∧ joined s u k x w 0 true true ∧ tallyBecomes s u (yCamp w) (yTally w) { y with count := y.count + yAmount w }
      ∧ balanced s u k (yCamp w) (yTally w) (yAmount w)
      ∧ u = { s with slots := u.slots, issued := u.issued, sync := { s.sync with tallies := u.sync.tallies }, ctl := u.ctl }
      ∧ ctlKept s u [Reg.TAL_OPS.key (yCamp w) 0])
  ∧ (∀ s (k : SlotKey) x r w, Issuing s k tSignal x r w → Numbered s → x.alone = true → yAmount w ≠ 0 → bit w 76 = true →
    let p := s.slotPitch k
    exec (.signal k) s = .next ((((((s.setSlot k x).fly (issuing s k x r w) 0 false false).setFlight s.issued fun g =>
        { g with begun := true, done := true, left := 1 }).request
      { blankPacket with kind := kindSignal, pitch := p, job := (s.job p).num, dst := bits w 75 64, addr := tallyAddr (yCamp w) (yTally w)
                         body := toBytes 4 (yAmount w) } (.flight s.issued 0))).refill k))
  ∧ (∀ s (k : SlotKey) x r w, Issuing s k tTake x r w → yAmount w = 0 →
    ∃ u, exec (.take k) s = .next u ∧ joined s u k x w 0 true true ∧ u = { s with slots := u.slots, issued := u.issued })
  ∧ (∀ s (k : SlotKey) x r w, Issuing s k tTake x r w → rising s.sync.tallies = true → yAmount w ≠ 0 → s.tallyReachable (yCamp w) = true →
    let y := s.tally (yCamp w) (yTally w)
    yAmount w ≤ y.count →
    ∃ u, exec (.take k) s = .next u ∧ joined s u k x w 0 true true ∧ tallyBecomes s u (yCamp w) (yTally w) { y with count := y.count - yAmount w }
      ∧ balanced s u k (yCamp w) (yTally w) (-(yAmount w : Int)) ∧ (u.slot k).state = 1
      ∧ u = { s with slots := u.slots, issued := u.issued, sync := { s.sync with tallies := u.sync.tallies }, ctl := u.ctl }
      ∧ ctlKept s u [Reg.TAL_OPS.key (yCamp w) 0])

/-- A WAIT at whose tally nobody waits and whose COUNT suffices subtracts AMOUNT at once: its descriptor is satisfied, the
slot runs on and its balance falls. Where COUNT does not suffice, or where another wait stands before it that cannot be
served, it joins the end of the tally's queue, subtracts nothing, and the slot is blocked. A WAIT of 0 changes no tally. A
BARRIER arrives at its guyline, which records it, and blocks the slot until the release of the round that the arrival counted
toward. Memory, every other slot and every other tally are as before. -/
def Obligations.WaitsAndBarriersComplete : Prop :=
  (∀ s (k : SlotKey) x r w, Issuing s k tWait x r w → yAmount w = 0 →
    ∃ u, exec (.wait k) s = .next u ∧ joined s u k x w 0 true true ∧ (u.slot k).state = 1 ∧ u = { s with slots := u.slots, issued := u.issued })
  ∧ (∀ s (k : SlotKey) x r w, Issuing s k tWait x r w → rising s.sync.tallies = true → yAmount w ≠ 0 → s.tallyReachable (yCamp w) = true →
    noWaiter s (yCamp w) (yTally w) →
    let y := s.tally (yCamp w) (yTally w)
    (yAmount w ≤ y.count → yAmount w ≤ y.limit →
      ∃ u, exec (.wait k) s = .next u ∧ joined s u k x w 0 true true ∧ (u.slot k).state = 1
        ∧ tallyBecomes s u (yCamp w) (yTally w) { y with count := y.count - yAmount w } ∧ balanced s u k (yCamp w) (yTally w) (-(yAmount w : Int))
        ∧ u = { s with slots := u.slots, issued := u.issued, ctl := u.ctl, fresh := s.fresh + 1
                       sync := { s.sync with tallies := u.sync.tallies, longWaits := u.sync.longWaits } }
        ∧ ctlKept s u [Reg.TAL_OPS.key (yCamp w) 0, Reg.STR_BLOCKED_CYC.key (s.slotHome k) 0])
    ∧ (y.count < yAmount w → yAmount w ≤ y.limit →
      ∃ u, exec (.wait k) s = .next u ∧ joined s u k x w 0 true false ∧ (u.slot k).state = 2
        ∧ u = { s with slots := u.slots, issued := u.issued, ctl := u.ctl
                       sync := { s.sync with waits := s.sync.waits ++ [{ camp := yCamp w, tally := yTally w, agent := .slot k, amount := yAmount w }] } }
        ∧ ctlKept s u [Reg.TAL_OPS.key (yCamp w) 0]))
  ∧ (∀ s (k : SlotKey) x r w w0, Issuing s k tWait x r w → yAmount w ≠ 0 → s.tallyReachable (yCamp w) = true →
    s.sync.waits.find? (fun v => decide (v.camp = yCamp w ∧ v.tally = yTally w)) = some w0 → (s.tally (yCamp w) (yTally w)).count < w0.amount →
    yAmount w ≤ (s.tally (yCamp w) (yTally w)).limit →
    ∃ u, exec (.wait k) s = .next u ∧ joined s u k x w 0 true false ∧ (u.slot k).state = 2
      ∧ u = { s with slots := u.slots, issued := u.issued, ctl := u.ctl
                     sync := { s.sync with waits := s.sync.waits ++ [{ camp := yCamp w, tally := yTally w, agent := .slot k, amount := yAmount w }] } }
      ∧ ctlKept s u [Reg.TAL_OPS.key (yCamp w) 0])
  ∧ (∀ s (k : SlotKey) x r w round s2, Issuing s k tBarrier x r w → (s.setSlot k x).arrive (bits w 68 64) (.slot k) (bit w 69) = (0, round, s2) →
    ∃ u, exec (.barrier k) s = .next u ∧ joined s u k x w 0 true false ∧ (u.slot k).state = 2
      ∧ u = { s with slots := u.slots, issued := u.issued
                     sync := { s.sync with guys := s2.sync.guys, guyWaits := s.sync.guyWaits ++ [{ guy := bits w 68 64, agent := .slot k, round := round }] } })

/-- A copy between local arrays that do not meet reads every row of its leg and writes it at the destination; a reduction
adds the elements of each row at the destination's adders; an indexed gather writes the rows that its table names; DIGEST
writes the 64 bytes of the tree digest or of the beacon. Each joins the flights with its work done, and every byte outside
the destination stays. A copy that moves nothing changes nothing else. A copy or reduction with another device issues as the
READ, WRITE or ADD packets that cut its rows at 256-byte boundaries. A collective, and an indexed gather from another device,
issue as the shared operations issueColl and gatherPlain say. -/
def Obligations.MovingDescriptorsComplete : Prop :=
  (∀ s (k : SlotKey) x r w, Issuing s k tDmaCopy x r w →
    let i := issuing s k x r w
    let s1 := s.setSlot k x
    let src := s1.issueAddr i 64 + (s1.legRange i (mvRows w)).1 * mvSrcPitch w
    let dst := s1.issueAddr i 128 + (s1.legRange i (mvRows w)).1 * mvDstPitch w
    let rows := (s1.legRange i (mvRows w)).2
    (rows = 0 ∨ mvRowBytes w = 0 →
      ∃ u, exec (.dmaCopy k) s = .next u ∧ joined s u k x w 0 true true ∧ u = { s with slots := u.slots, issued := u.issued })
    ∧ (rows ≠ 0 → mvRowBytes w ≠ 0 → slotRemote w 64 = true →
      exec (.dmaCopy k) s = .next ((s1.flyPackets i (mvRows w)
        (remoteReads (slotDev w 64) src dst (mvSrcPitch w) (mvDstPitch w) (mvRowBytes w) rows)).refill k))
    ∧ (∀ data, rows ≠ 0 → mvRowBytes w ≠ 0 → slotRemote w 64 = false → s1.readRows i.pitch i.map src (mvSrcPitch w) (mvRowBytes w) rows = .ok data →
      (slotRemote w 128 = true →
        exec (.dmaCopy k) s = .next ((s1.flyPackets i (mvRows w) (remoteWrites (slotDev w 128) dst (mvDstPitch w) 0 data)).refill k))
      ∧ ∀ s3, slotRemote w 128 = false → rowsMeet src (mvSrcPitch w) dst (mvDstPitch w) (mvRowBytes w) rows = false →
        s1.writeRows i.pitch i.map (some i.camp) (mvDstPitch w) dst data = .ok s3 →
        ∃ u, exec (.dmaCopy k) s = .next u ∧ joined s u k x w 0 true true ∧ u.mem = s3.mem ∧ u.evs = s.evs ∧ u.sync = s.sync
          ∧ ∀ l, (∀ n, n < rows → spared s i.map (dst + n * mvDstPitch w) (mvRowBytes w) l) → u.byte l = s.byte l))
  ∧ (∀ s (k : SlotKey) x r w, Issuing s k tDmaReduce x r w →
    let i := issuing s k x r w
    let s1 := s.setSlot k x
    let op := bits w 419 416
    let src := s1.issueAddr i 64 + (s1.legRange i (mvRows w)).1 * mvSrcPitch w
    let dst := s1.issueAddr i 128 + (s1.legRange i (mvRows w)).1 * mvDstPitch w
    let rows := (s1.legRange i (mvRows w)).2
    (∀ data s3, bits w 421 420 = 0 → rows ≠ 0 → mvRowBytes w ≠ 0 → slotRemote w 64 = false → slotRemote w 128 = false →
      s1.readRows i.pitch i.map src (mvSrcPitch w) (mvRowBytes w) rows = .ok data → s1.addRows i.pitch i.map op (mvDstPitch w) dst data = .ok s3 →
      ∃ u, exec (.dmaReduce k) s = .next u ∧ joined s u k x w 0 true true ∧ u.mem = s3.mem ∧ u.sync = s.sync
        ∧ ∀ l, (∀ n, n < rows → spared s i.map (dst + n * mvDstPitch w) (mvRowBytes w / (reduceSizes op).1 * (reduceSizes op).2) l) →
          u.byte l = s.byte l)
    ∧ (∀ data, bits w 421 420 = 0 → rows ≠ 0 → mvRowBytes w ≠ 0 → slotRemote w 64 = false → slotRemote w 128 = true →
      s1.readRows i.pitch i.map src (mvSrcPitch w) (mvRowBytes w) rows = .ok data →
      exec (.dmaReduce k) s = .next ((s1.flyPackets i (mvRows w) (remoteAdds (slotDev w 128) op dst (mvDstPitch w) 0 data)).refill k))
    ∧ (∀ s3, bits w 421 420 ≠ 0 → s1.issueColl i 0 = some s3 → exec (.dmaReduce k) s = .next (s3.refill k)))
  ∧ (∀ s (k : SlotKey) x r w, Issuing s k tGather x r w →
    let i := issuing s k x r w
    let s1 := s.setSlot k x
    (∀ tbl rows s2, bits w 417 416 = 0 → slotRemote w 64 = false → s1.readAt i.pitch i.map (s1.issueAddr i 192) (4 * mvRows w) = .ok tbl →
      s1.gatherRows i (s1.issueAddr i 64) (chunkNums 4 tbl) = .ok rows →
      s1.writeRows i.pitch i.map (some i.camp) (mvDstPitch w) (s1.issueAddr i 128) rows = .ok s2 →
      ∃ u, exec (.gather k) s = .next u ∧ joined s u k x w 0 true true ∧ u.mem = s2.mem ∧ u.sync = s.sync
        ∧ u.evs = (s.gatherNotice i (chunkNums 4 tbl)).evs
        ∧ ∀ l, (∀ n, n < mvRows w → spared s i.map (s1.issueAddr i 128 + n * mvDstPitch w) (mvRowBytes w) l) → u.byte l = s.byte l)
    ∧ (∀ s3, bits w 417 416 = 0 → slotRemote w 64 = true → s1.gatherPlain i = some s3 → exec (.gather k) s = .next (s3.refill k))
    ∧ (∀ s3, bits w 417 416 ≠ 0 → s1.issueColl i (bits w 417 416) = some s3 → exec (.gather k) s = .next (s3.refill k)))
  ∧ (∀ s (k : SlotKey) x r w bs s2, Issuing s k tDigest x r w →
    let i := issuing s k x r w
    let s1 := s.setSlot k x
    let out := if gMode w = 0 then treeDigest bs else beacon bs
    s1.readAt i.pitch i.map (s1.slotAt i w 64) (gLen w) = .ok bs → s1.writeAt i.pitch i.map (some i.camp) (s1.slotAt i w 128) out = .ok s2 →
    ∃ u, exec (.digest k) s = .next u ∧ joined s u k x w 0 true true ∧ u.mem = s2.mem ∧ u.evs = s.evs ∧ u.sync = s.sync
      ∧ ∀ l, spared s i.map (s1.slotAt i w 128) out.length l → u.byte l = s.byte l)

/-- A STASH_PUT into a kept entry writes its part, counts it as pending, and raises the entry's PARTS and PENDING; into an
entry that is not kept it writes nothing and raises PARTS. The first put of a block that can be kept takes the entry and its
granules. A STASH_GET of a kept entry with nothing pending writes the part at its destination and, with RELEASE, releases one
put; with a put pending it blocks its slot; of an entry not kept it starts the recompute chain as stashGet says. A STASH_GET
of a key with no entry faults with STASH_ENTRY_ABSENT. -/
def Obligations.StashDescriptorsComplete : Prop :=
  (∀ s (k : SlotKey) x r w e, Issuing s k tStashPut x r w →
    let i := issuing s k x r w
    let s1 := s.setSlot k x
    let v := s.stashEntry i.pitch e
    s1.findEntry i.pitch i.mbatch (bits w 207 192) = some e → bits w 191 160 + bits w 159 128 ≤ bits w 287 256 →
    (∀ n, s1.keySize i.pitch i.mbatch (bits w 207 192) = some n → n = bits w 287 256) →
    (seState v = 2 →
      ∃ u, exec (.stashPut k) s = .next u ∧ joined s u k x w 0 true true
        ∧ u = { s.setEntry i.pitch e (setBits v 207 192 (seParts v + 1)) with slots := u.slots, issued := u.issued })
    ∧ (∀ data s2, seState v ≠ 2 → s1.readAt i.pitch i.map (s1.issueAddr i 64) (bits w 159 128) = .ok data →
      s1.stashWrite i.pitch i.map (s1.stashRuns i.pitch (s1.entryGranules i.pitch v) (bits w 191 160) (bits w 159 128)) data = .ok s2 →
      ∃ u, exec (.stashPut k) s = .next u ∧ joined s u k x w 1 true true ∧ u.sync = s.sync ∧ u.evs = s.evs
        ∧ u.mem = (s2.setEntry i.pitch e (setBits (setBits v 207 192 (seParts v + 1)) 191 176 (sePending v + 1))).mem))
  ∧ (∀ s (k : SlotKey) x r w s3, Issuing s k tStashPut x r w →
    let i := issuing s k x r w
    let s1 := s.setSlot k x
    s1.findEntry i.pitch i.mbatch (bits w 207 192) = none → bits w 191 160 + bits w 159 128 ≤ bits w 287 256 → s1.firstPut i = some s3 →
    exec (.stashPut k) s = .next (s3.refill k))
  ∧ (∀ s (k : SlotKey) x r w e, Issuing s k tStashGet x r w → Numbered s →
    let i := issuing s k x r w
    let s1 := (s.setSlot k x).fly i 0 false false
    let v := s.stashEntry i.pitch e
    (s.setSlot k x).findEntry i.pitch i.mbatch (bits w 335 320) = some e →
    (sePending v ≠ 0 →
      ∃ u, exec (.stashGet k) s = .next u ∧ joined s u k x w 0 false false ∧ (u.slot k).state = 2 ∧ u = { s with slots := u.slots, issued := u.issued })
    ∧ (∀ data s2, sePending v = 0 → seState v ≠ 2 →
      s1.stashRead i.pitch i.map (s1.stashRuns i.pitch (s1.entryGranules i.pitch v) (bits w 319 288) (bits w 287 256)) = .ok data →
      s1.writeAt i.pitch i.map (some i.camp) (s1.issueAddr i 64) data = .ok s2 →
      ∃ u, exec (.stashGet k) s = .next u ∧ joined s u k x w 0 true true ∧ u.sync = s.sync ∧ u.evs = s.evs
        ∧ u.mem = (if bit w 336 then s2.releasePart i.pitch e else s2).mem)
    ∧ (∀ a s2, sePending v = 0 → s1.stashGet k i s.issued e = some (0, a, s2) → exec (.stashGet k) s = .next (s2.refill k)))
  ∧ (∀ s (k : SlotKey) x r w, Issuing s k tStashGet x r w →
    let i := issuing s k x r w
    (s.setSlot k x).findEntry i.pitch i.mbatch (bits w 335 320) = none →
    exec (.stashGet k) s = .next (((s.setSlot k x).streamFault i Code.STASH_ENTRY_ABSENT (bits w 335 320) 0).refill k))

/-- A MATMUL whose records, use and shape pass their checks and which is no add joins the flights with one part outstanding,
and its product joins the engines and begins. A QUANTISE with an engine in service writes the tiles and coarse scale of its
source; a CONVERT writes its destination; a VPROG of a built-in program that adds nothing makes its writes. Each of the three
joins the flights with its writes made and one part, their acknowledgement, outstanding; every byte outside its writes stays.
Every other form of MATMUL and VPROG (a use of a site, an add, a tenant program) issues as issueMatmul and issueVprog say. -/
def Obligations.ArithmeticDescriptorsComplete : Prop :=
  (∀ s (k : SlotKey) x r w, Issuing s k tMatmul x r w →
    let i := issuing s k x r w
    let s1 := s.setSlot k x
    (∀ pl p q, x.leg = 0 → s1.matmulChecks i = .ok pl → s1.matmulUse i pl = .ok (p, none) → s1.matmulLate i { pl with p := p } = .ok q →
      oAdd q.orec = false → q.todo ≠ [] → (q.k ≠ 0 ∨ q.carryIn = true) → q.uid = s.issued →
      ∃ u, exec (.matmul k) s = .next u ∧ joined s u k x w 1 false false ∧ (u.product s.issued).isSome = true ∧ u.mem = s.mem ∧ u.sync = s.sync
        ∧ u.evs = s.evs)
    ∧ (∀ s3, x.leg = 0 ∨ x.frame.flights.all (fun f => decide (f.idx ≠ x.frame.next)) = true → s1.issueMatmul i = some s3 →
      exec (.matmul k) s = .next (s3.refill k)))
  ∧ (∀ s (k : SlotKey) x r w p s3, Issuing s k tQuantise x r w →
    let i := issuing s k x r w
    let s1 := s.setSlot k x
    s1.enginesFor i.camp w ≠ [] → s1.quantChecks i = .ok p → s1.mayRead i.pitch i.map p.src.runs = .ok () →
    let ws := s1.zWrites i.map p w (s1.zCoarse i.map p w).1
    (s1.zCoarse i.map p w).2.writeAll i.pitch i.map none ws = .ok s3 →
    ∃ u, exec (.quantise k) s = .next u ∧ joined s u k x w 1 true false ∧ u.mem = s3.mem ∧ u.evs = s.evs ∧ u.sync = s.sync
      ∧ ∀ l, (∀ q ∈ ws, spared s i.map q.1 q.2.length l) → u.byte l = s.byte l)
  ∧ (∀ s (k : SlotKey) x r w e es c s3, Issuing s k tConvert x r w →
    let i := issuing s k x r w
    let s1 := s.setSlot k x
    s1.enginesFor i.camp w = e :: es → s1.convert i = .ok c → (s1.countConvert i e c).writeAll i.pitch i.map none c.writes = .ok s3 →
    ∃ u, exec (.convert k) s = .next u ∧ joined s u k x w 1 true false ∧ u.mem = s3.mem ∧ u.sync = s.sync
      ∧ u.evs = (s1.countConvert i e c).evs ∧ ∀ l, (∀ q ∈ c.writes, spared s i.map q.1 q.2.length l) → u.byte l = s.byte l)
  ∧ (∀ s (k : SlotKey) x r w p s3, Issuing s k tVprog x r w →
    let i := issuing s k x r w
    let s1 := s.setSlot k x
    pProg w ∉ [0x07, 0xFF] → s1.vprogChecks i = .ok p → s1.vprogWork i.pitch i.camp i.map w i.leg p = .ok s3 →
    (pProg w = 1 → updateOk p.param (s.job i.pitch).bf16Master = true
      ∧ ((s.job i.pitch).bf16Master = true → (s.pitchRec i.pitch).spdKey.isSome = true)) →
    ∃ u, exec (.vprog k) s = .next u ∧ joined s u k x w 1 true false ∧ u.mem = s3.mem ∧ u.sync = s.sync ∧ (pProg w ≠ 1 → u.evs = s.evs))
  ∧ (∀ s (k : SlotKey) x r w s3, Issuing s k tVprog x r w → (s.setSlot k x).issueVprog (issuing s k x r w) = some s3 →
    exec (.vprog k) s = .next (s3.refill k))

/-- A descriptor that reaches issue and fails a check of R245, with nothing of its stream in flight, raises the code at its
slot with the lowest failing bit position and its index, counts a fault, and halts the slot: STR_STATUS reads HALTED and
STR_HALT gives the code and the index. No other slot, no tally and no byte of memory changes. A slot that is not running
issues nothing: every issue row leaves the state. -/
def Obligations.DescriptorFaultsStopTheSlot : Prop :=
  (∀ s (k : SlotKey) x r w t code pos, x = s.atNext k → x.run = some r → x.chain = none →
    x.frame.entry x.frame.next = some (x.frame.next, 0, w) → x.state = 1 → s.campRuns (slotCamp k) = true → x.main.flights = [] → x.faulted = [] →
    x.aborting = false → s.fld Reg.FEN_STATE_CAMP_STATE (slotCamp k) = 0 → rising s.slots = true → registersWf s →
    x.main.count = none → (dType w = t ∨ dType w ∉ listedTypes) → s.cmtState (s.slotPitch k) ≠ 1 → s.fld Reg.STR_FAULTS (s.slotHome k) + 1 < ctrMax →
    decodeFault w x.frame.next (s.slotMap k).camps (dLeg w && r.legLen != 0) = some (code, pos) → code < 2 ^ 16 →
    ∀ row ∈ [(Instr.nop k, tNop), (.signal k, tSignal), (.wait k, tWait), (.take k, tTake), (.barrier k, tBarrier), (.dmaCopy k, tDmaCopy),
        (.dmaReduce k, tDmaReduce), (.gather k, tGather), (.stashPut k, tStashPut), (.stashGet k, tStashGet), (.digest k, tDigest),
        (.matmul k, tMatmul), (.quantise k, tQuantise), (.convert k, tConvert), (.vprog k, tVprog), (.commit k, tCommit),
        (.fencePoint k, tFencePoint), (.endStream k, tEnd)],
      row.2 = t →
      ∃ u, exec row.1 s = .next u ∧ (u.slot k).state = 4 ∧ u.fld Reg.STR_HALT_INDEX (s.slotHome k) = x.frame.next % 2 ^ Reg.STR_HALT_INDEX.width
        ∧ u.fld Reg.STR_HALT_CODE (s.slotHome k) = code ∧ u.fld Reg.STR_FAULTS (s.slotHome k) = s.fld Reg.STR_FAULTS (s.slotHome k) + 1
        ∧ raised s u code (s.slotPitch k) (locSlot (s.slotHome k)) (descDetail pos 0 (dType w) r.mbatch x.frame.next)
        ∧ (∀ j, j ≠ k.val → u.slot j = s.slot j) ∧ u.sync = s.sync ∧ u.mem = s.mem)
  ∧ (∀ s (k : SlotKey), (s.slot k).state ≠ 1 → (s.slot k).blockedGet = none →
    ∀ i ∈ [Instr.nop k, .signal k, .wait k, .take k, .barrier k, .dmaCopy k, .dmaReduce k, .gather k, .stashPut k, .stashGet k, .digest k, .matmul k,
        .quantise k, .convert k, .vprog k, .commit k, .fencePoint k, .endStream k], exec i s = .next s)

/-- A descriptor whose parts have ended well and whose work is done leaves the flights and is counted; with SIG_EN it adds 1
to its tally and to its slot's balance. A SIGNAL whose turn has come performs first. A FENCE_POINT records its MARK, its
index and the table of balances as the resume point, and then its camp's pending fences are acknowledged. A MATMUL's product
is completed before. A flight that met a code faults with it. The acknowledgement of the writes of a descriptor whose work is
over ends its last part; that of a STASH_PUT ends its part and lowers its entry's PENDING. Memory changes only where the
clause says so, and no other slot changes. -/
def Obligations.DescriptorsComplete : Prop :=
  (∀ s (k : SlotKey) chain (n : Fin 32) f, InFlight s k chain n f → registersWf s → (s.slot k).aborting = false → (s.slot k).state ≠ 3 →
    f.left = 0 → f.code = 0 → f.done = true → (f.begun = true ∨ dType f.word ≠ tSignal) → dType f.word ≠ tFencePoint → s.product f.uid = none → (dType f.word ≠ tVprog ∨ f.keep = []) →
    (dSigEn f.word = false →
      ∃ u, exec (.descriptorComplete k chain n) s = .next u
        ∧ (u.slot k).allFlights = (s.slot k).allFlights.filter (fun g => decide (g.uid ≠ f.uid)) ∧ (u.slot k).state = (s.slot k).state
        ∧ u.fld Reg.STR_DESC_DONE (s.slotHome k) = (s.fld Reg.STR_DESC_DONE (s.slotHome k) + 1) % 2 ^ Reg.STR_DESC_DONE.width
        ∧ ctlKept s u [Reg.STR_DESC_DONE.key (s.slotHome k) 0] ∧ (∀ j, j ≠ k.val → u.slot j = s.slot j) ∧ u.sync = s.sync ∧ u.mem = s.mem ∧ u.evs = s.evs)
    ∧ (let c := dSigCamp f.word
      let t := dSigTally f.word
      dSigEn f.word = true → rising s.sync.tallies = true → s.tallyReachable c = true → noWaiter s c t → (s.tally c t).count < (s.tally c t).limit →
      ∃ u, exec (.descriptorComplete k chain n) s = .next u ∧ tallyBecomes s u c t { s.tally c t with count := (s.tally c t).count + 1 }
        ∧ balanced s u k c t 1 ∧ (u.slot k).allFlights = (s.slot k).allFlights.filter (fun g => decide (g.uid ≠ f.uid))
        ∧ ctlKept s u [Reg.STR_DESC_DONE.key (s.slotHome k) 0, Reg.TAL_OPS.key c 0] ∧ u.mem = s.mem ∧ u.evs = s.evs))
  ∧ (∀ s (k : SlotKey) chain (n : Fin 32) f p, InFlight s k chain n f → (s.slot k).aborting = false → f.left = 0 → f.code = 0 → f.done = true →
    dType f.word = tMatmul → s.product f.uid = some p →
    exec (.descriptorComplete k chain n) s = .next (((s.completeProduct f p).settleCamp p.camp).flightDone k f))
  ∧ (∀ s (k : SlotKey) chain (n : Fin 32) f, InFlight s k chain n f → (s.slot k).aborting = false → f.left = 0 → f.code = 0 → f.done = true →
    dType f.word = tFencePoint → s.product f.uid = none → dSigEn f.word = false →
    exec (.descriptorComplete k chain n) s = .next (((s.closeAdd f true true).flightDone k f).acknowledgeCamp (slotCamp k))
    ∧ ((∀ e, e / 8 = slotCamp k → s.latch (.engine e) ≠ 1 ∧ ∀ l, l < 256 → s.laneLatch e l ≠ 1) → s.latch (.camp (slotCamp k)) ≠ 1 → (s.slot k).state ≠ 3 →
      ∃ u, exec (.descriptorComplete k chain n) s = .next u ∧ (u.slot k).resume = some (bits f.word 95 64, f.idx)
        ∧ (u.slot k).resumeTouched = (s.slot k).touched ∧ (u.slot k).state = (s.slot k).state ∧ (∀ j, j ≠ k.val → u.slot j = s.slot j)
        ∧ ctlKept s u [Reg.STR_DESC_DONE.key (s.slotHome k) 0] ∧ u.sync = s.sync ∧ u.mem = s.mem ∧ u.evs = s.evs))
  ∧ (∀ s (k : SlotKey) f, InFlight s k false 0 f → (s.slot k).aborting = false → f.left = 0 → f.code = 0 → f.begun = false → dType f.word = tSignal →
    bit f.word 76 = false → yAmount f.word ≠ 0 → rising s.sync.tallies = true →
    let c := yCamp f.word
    let t := yTally f.word
    s.tallyReachable c = true → noWaiter s c t → (s.tally c t).count + yAmount f.word ≤ (s.tally c t).limit →
    ∃ u, exec (.descriptorComplete k false 0) s = .next u ∧ tallyBecomes s u c t { s.tally c t with count := (s.tally c t).count + yAmount f.word }
      ∧ balanced s u k c t (yAmount f.word) ∧ u.flightAt k false 0 = some { f with begun := true, done := true } ∧ u.mem = s.mem ∧ u.evs = s.evs
      ∧ ctlKept s u [Reg.TAL_OPS.key c 0])
  ∧ (∀ s (k : SlotKey) chain (n : Fin 32) f, InFlight s k chain n f → (s.slot k).aborting = false → f.left = 0 → f.code ≠ 0 →
    exec (.descriptorComplete k chain n) s
      = .next (((if f.code = Code.COMMIT_ABORT ∨ toldCode ≤ f.code then s else s.endEvent k f).dropFlight k f).flightFaulted k f (f.code % toldCode)))
  ∧ (∀ s (k : SlotKey) chain (n : Fin 32) f, InFlight s k chain n f → f.left = 1 → f.uid ∉ s.eng.held →
    ((dType f.word ∈ [tQuantise, tConvert, tVprog] ∧ s.product f.uid = none)
      ∨ (dType f.word = tMatmul ∧ ∃ p, s.product f.uid = some p ∧ s.productDrained p = true ∧ p.a.prepass = false ∧ p.b.prepass = false)) →
    ∃ u, exec (.writeAcknowledged k chain n) s = .next u ∧ u.flightAt k chain n = some { f with left := 0, done := true }
      ∧ (∀ j, j ≠ k.val → u.slot j = s.slot j) ∧ u = { s with slots := u.slots })
  ∧ (∀ s (k : SlotKey) (n : Fin 32) f e, InFlight s k false n f → dType f.word = tStashPut → f.left ≠ 0 →
    let p := s.slotPitch k
    s.findEntry p (s.slot k).mbatch (bits f.word 207 192) = some e → (∀ j, (s.slot j).blockedGet = none) →
    ∃ u, exec (.stashPutAcknowledged k n) s = .next u ∧ u.flightAt k false n = some (f.part 0) ∧ (∀ j, j ≠ k.val → u.slot j = s.slot j)
      ∧ u = { s.setEntry p e (setBits (s.stashEntry p e) 191 176 (sePending (s.stashEntry p e) - 1)) with slots := u.slots })

/-- A mover descriptor that runs beyond its watchdog, the only one of its stream in flight, ends with DESC_WATCHDOG at its
slot; a slot blocked beyond its limit leaves the queue that it waits in and halts with STREAM_WAIT_TIMEOUT at the descriptor
that it is blocked on. Each raises its event, sets STR_STATUS to HALTED and STR_HALT to the code and the index; memory stays.
A forced abort whose writes and adds have all been answered returns the slot to idle and raises STREAM_FORCED_ABORT once,
with the index recorded; what waited for it is answered. A descriptor among others, a blocked STASH_GET and a held add end as
dropFlight and flightFaulted say. -/
def Obligations.WatchdogsAndLimitsHaltTheSlot : Prop :=
  (∀ s (k : SlotKey) f, InFlight s k false 0 f → registersWf s → dType f.word ∈ [tDmaCopy, tDmaReduce, tGather, tDigest] →
    (s.slot k).chain = none → (s.slot k).main.flights = [f] → (s.slot k).state = 1 → (s.slot k).aborting = false → (s.slot k).faulted = [] →
    s.product f.uid = none → s.cmtState (s.slotPitch k) ≠ 1 → s.fld Reg.STR_FAULTS (s.slotHome k) + 1 < ctrMax →
    ∃ u, exec (.descWatchdog k false 0) s = .next u ∧ (u.slot k).state = 4 ∧ u.fld Reg.STR_HALT_CODE (s.slotHome k) = Code.DESC_WATCHDOG
      ∧ u.fld Reg.STR_HALT_INDEX (s.slotHome k) = f.idx % 2 ^ Reg.STR_HALT_INDEX.width ∧ u.sync = s.sync ∧ u.mem = s.mem
      ∧ raised s u Code.DESC_WATCHDOG (s.slotPitch k) (locSlot (s.slotHome k)) (descDetail 0xFFFF 0 (dType f.word) (s.slot k).mbatch f.idx)
      ∧ (∀ j, j ≠ k.val → u.slot j = s.slot j))
  ∧ (∀ s (k : SlotKey) chain (n : Fin 32) f, InFlight s k chain n f → dType f.word ∈ [tVprog, tDmaCopy, tDmaReduce, tGather, tStashPut, tDigest] →
    (s.slot k).aborting = false →
    exec (.descWatchdog k chain n) s = .next (((s.dropFlight k f).event Code.DESC_WATCHDOG (s.slotPitch k) (locSlot (s.slotHome k))
      (descDetail 0xFFFF 0 (dType f.word) (s.slot k).mbatch f.idx)).flightFaulted k f Code.DESC_WATCHDOG))
  ∧ (∀ s (k : SlotKey) (n : Fin 32) f, InFlight s k false n f → dType f.word = tStashGet → (s.slot k).chain = none → (s.slot k).aborting = false →
    exec (.descWatchdog k false n) s = .next ((((s.unblockSlot k).dropFlight k f).event Code.DESC_WATCHDOG (s.slotPitch k) (locSlot (s.slotHome k))
      (descDetail 0xFFFF 0 (dType f.word) (s.slot k).mbatch f.idx)).flightFaulted k f Code.DESC_WATCHDOG))
  ∧ (∀ s (k : SlotKey) f, s.campsGated = false →
    let out (t : State) := (t.event Code.STREAM_WAIT_TIMEOUT (s.slotPitch k) (locSlot (s.slotHome k))
      (streamDetail 0 0 (s.slot k).mbatch f.idx)).flightFaulted k f Code.STREAM_WAIT_TIMEOUT
    ((s.slot k).state = 2 ∨ (s.slot k).haltWaits = true → (s.slot k).frame.flights.getLast? = some f →
      exec (.streamWaitTimeout k) s = .next (out (s.leaveWaits (.slot k))))
    ∧ ((s.slot k).state ≠ 2 → (s.slot k).haltWaits = false → (s.slot k).allFlights.find? (fun g => decide (g.uid ∈ s.eng.held)) = some f →
      exec (.streamWaitTimeout k) s = .next (out (s.dropFlight k f))))
  ∧ (∀ s (k : SlotKey) f, s.campsGated = false → registersWf s → rising s.slots = true → (s.slot k).state = 2 → (s.slot k).chain = none →
    (s.slot k).main.flights = [f] → (s.slot k).aborting = false → (s.slot k).faulted = [] → s.cmtState (s.slotPitch k) ≠ 1 →
    (∀ w ∈ s.sync.waits, w.agent ≠ .slot k) → s.fld Reg.STR_FAULTS (s.slotHome k) + 1 < ctrMax →
    ∃ u, exec (.streamWaitTimeout k) s = .next u ∧ (u.slot k).state = 4 ∧ u.fld Reg.STR_HALT_CODE (s.slotHome k) = Code.STREAM_WAIT_TIMEOUT
      ∧ u.fld Reg.STR_HALT_INDEX (s.slotHome k) = f.idx % 2 ^ Reg.STR_HALT_INDEX.width ∧ u.sync.tallies = s.sync.tallies
      ∧ u.sync.guys = s.sync.guys ∧ (∀ w ∈ u.sync.guyWaits, w.agent ≠ .slot k) ∧ u.mem = s.mem
      ∧ raised s u Code.STREAM_WAIT_TIMEOUT (s.slotPitch k) (locSlot (s.slotHome k)) (streamDetail 0 0 (s.slot k).mbatch f.idx)
      ∧ (∀ j, j ≠ k.val → u.slot j = s.slot j))
  ∧ (∀ s (k : SlotKey) w f, s.campsGated = false → registersWf s → rising s.slots = true → (s.slot k).state = 2 → (s.slot k).chain = none →
    (s.slot k).main.flights = [f] → (s.slot k).aborting = false → (s.slot k).faulted = [] → s.cmtState (s.slotPitch k) ≠ 1 →
    s.sync.waits = [w] → w.agent = .slot k → s.fld Reg.STR_FAULTS (s.slotHome k) + 1 < ctrMax →
    ∃ u, exec (.streamWaitTimeout k) s = .next u ∧ (u.slot k).state = 4 ∧ u.fld Reg.STR_HALT_CODE (s.slotHome k) = Code.STREAM_WAIT_TIMEOUT
      ∧ u.sync.waits = [] ∧ u.sync.tallies = s.sync.tallies ∧ u.mem = s.mem ∧ (∀ j, j ≠ k.val → u.slot j = s.slot j))
  ∧ (∀ s (k : SlotKey), rising s.slots = true → (s.slot k).abortDone = true → (∀ e ∈ s.host.sessions, e.2.held = []) → (s.job (s.slotPitch k)).ending = false →
    s.fld Reg.SEC_PITCH_CTL_STATE (s.slotPitch k) ≠ 4 →
    exec (.forcedAbortComplete k) s = .next ((s.endAbort k).replyWaits (.slot k) 0 fun _ => [])
    ∧ ((∀ w ∈ s.host.waits, w.on ≠ .slot k) →
      ∃ u, exec (.forcedAbortComplete k) s = .next u ∧ u.slot k = { StreamSlot.idle with home := (s.slot k).home } ∧ u.mem = s.mem ∧ u.sync = s.sync
        ∧ raised s u Code.STREAM_FORCED_ABORT (s.slotPitch k) (locSlot (s.slotHome k)) (streamDetail 0 0 (s.slot k).mbatch (s.slot k).main.next)
        ∧ (∀ j, j ≠ k.val → u.slot j = s.slot j) ∧ u.ctl = s.ctl))

/-- When a chain list has ended, the next block's list begins at its record's base with its count and is counted; after the
last one the STASH_GET's work is done and the slot runs its main list again. A held add whose Groundsheet header now lets it
begin writes the running header and is held no more. A pre-pass that may read its whole sources counts one run for each
operand, writes its results in the site's record, and its product begins with no pre-pass left. -/
def Obligations.ChainsAndHeldAddsGoOn : Prop :=
  (∀ s (k : SlotKey) x ch fr f, s.campsGated = false → rising s.slots = true → x = StreamSlot.normalise 80 (s.slot k) → x.chain = some (ch, fr) →
    fr.flights = [] → fr.count = some fr.next → x.state = 1 → x.main.flights = [f] → ch.get = f.uid → dType f.word = tStashGet → Numbered s →
    let p := s.slotPitch k
    (ch.target ≤ ch.cur + 1 → bit f.word 336 = false →
      ∃ u, exec (.chainListDone k) s = .next u ∧ (u.slot k).chain = none ∧ (u.slot k).main.flights = [{ f with done := true }] ∧ (u.slot k).state = 1
        ∧ u = { s with slots := u.slots } ∧ ∀ j, j ≠ k.val → u.slot j = s.slot j)
    ∧ (∀ w, ch.cur + 1 < ch.target → s.fld Reg.STH_CFG_REKEEP p ≠ 1 → s.chainRec p f.map ch.table (ch.cur + 1) = .ok w →
      s.fld Reg.STH_CHAIN_BLOCKS p + 1 < ctrMax → registersWf s →
      ∃ u fr1, exec (.chainListDone k) s = .next u ∧ (u.slot k).chain = some ({ ch with cur := ch.cur + 1 }, fr1) ∧ fr1.base = bits w 47 0
        ∧ fr1.count = some (bits w 63 48) ∧ fr1.next = 0 ∧ fr1.flights = [] ∧ u.fld Reg.STH_CHAIN_BLOCKS p = s.fld Reg.STH_CHAIN_BLOCKS p + 1
        ∧ u.mem = s.mem ∧ ctlKept s u [Reg.STH_CHAIN_BLOCKS.key p 0] ∧ ∀ j, j ≠ k.val → u.slot j = s.slot j))
  ∧ (∀ s (k : SlotKey) chain (n : Fin 32) f h, InFlight s k chain n f → f.uid ∈ s.eng.held →
    (∀ p, s.product f.uid = some p → gsStart (s.peek p.map p.hdr 32) (s.slot k).mbatch = .run h → p.a.prepass = false → p.b.prepass = false →
      p.todo ≠ [] → (p.k ≠ 0 ∨ p.carryIn = true) →
      ∃ u, exec (.gsAddRetry k chain n) s = .next u ∧ f.uid ∉ u.eng.held ∧ u.mem = (s.gsUpdate p.map p.hdr fun _ => h).mem ∧ u.slots = s.slots
        ∧ u.evs = s.evs)
    ∧ (∀ p, s.product f.uid = some p → gsStart (s.peek p.map p.hdr 32) (s.slot k).mbatch = .hold → exec (.gsAddRetry k chain n) s = .next s)
    ∧ (∀ hdr param recs s2, s.product f.uid = none → f.keep = hdr :: param :: recs → gsStart (s.peek f.map hdr 32) (s.slot k).mbatch = .run h →
      (({ s with eng := { s.eng with held := s.eng.held.filter (· ≠ f.uid) } } : State).gsUpdate f.map hdr fun _ => h).vprogWork (s.slotPitch k) (slotCamp k)
        f.map f.word f.leg { recs := recs, param := param, hdr := hdr, row0 := 0, rows := 0, last := true } = .ok s2 →
      exec (.gsAddRetry k chain n) s = .next (s2.setFlight f.uid fun g => { g with begun := true })))
  ∧ (∀ s (e : Engine) (k : SlotKey) chain (n : Fin 32) f p, s.engGated = false → s.flightAt k chain n = some f → s.product f.uid = some p →
    (p.a.prepass = true ∨ p.b.prepass = true) → p.uid ∉ s.eng.held → e.val / 8 = p.camp → s.engineUp e = true → p.todo ≠ [] → (p.k ≠ 0 ∨ p.carryIn = true) →
    s.mayRead p.pitch p.map ((if p.a.prepass then wholeReads p.a.whole else []) ++ (if p.b.prepass then wholeReads p.b.whole else [])) = .ok () →
    let runs := ofBool p.a.prepass + ofBool p.b.prepass
    registersWf s → s.fld Reg.LAD_PREPASS e + runs < ctrMax →
    ∃ u, exec (.amaxPrepassDone e k chain n) s = .next u ∧ u.fld Reg.LAD_PREPASS e = s.fld Reg.LAD_PREPASS e + runs
      ∧ (u.product p.uid).map (fun q => (q.a.prepass, q.b.prepass)) = some (false, false) ∧ u.slots = s.slots ∧ u.evs = s.evs
      ∧ u.mem = (if mSite p.word = 0 then s
          else s.siteStore p.pitch p.map (mSite p.word) (s.prepassRecord p (s.peek p.map (s.siteAddr p.pitch (mSite p.word)) 256))).mem)

/-- A frozen array with blocks parks: it ramps down with all 16 lane groups on and counts a park; then it is parked with
none. Unparked, or with blocks waiting after a ramp-down, it ramps up from one group; ramped up it runs with 16. One with
nothing to run is idle. The margin reached is recorded; a denied one counts, raises MARGIN_DENIED and leaves the waiting
Runnel blocks to the array; one with no Runnel work is given up. Memory and every slot stay as they are. -/
def Obligations.ArraysRampAndParkAndHoldTheMargin : Prop :=
  (∀ s (e : Engine), s.engGated = false → registersWf s →
    (s.engState e ∈ [2, 3] → (s.engine e).plots ≠ [] → s.fld Reg.BRK_PARKS e + 1 < ctrMax →
      ∃ u, exec (.arrayPark e) s = .next u ∧ u.engState e = 4 ∧ u.fld Reg.BRK_STATUS_GROUPS_ON e = 16
        ∧ u.fld Reg.BRK_PARKS e = s.fld Reg.BRK_PARKS e + 1 ∧ u = { s with ctl := u.ctl }
        ∧ ctlKept s u [Reg.BRK_STATUS_STATE.key e 0, Reg.BRK_STATUS_GROUPS_ON.key e 0, Reg.BRK_PARKS.key e 0])
    ∧ (s.engState e = 4 → (s.engine e).plots ≠ [] → ∃ u, exec (.rampDownDone e) s = .next u ∧ u.engState e = 5 ∧ u.fld Reg.BRK_STATUS_GROUPS_ON e = 0
        ∧ u = { s with ctl := u.ctl } ∧ ctlKept s u [Reg.BRK_STATUS_STATE.key e 0, Reg.BRK_STATUS_GROUPS_ON.key e 0])
    ∧ (s.engState e = 6 → (s.engine e).plots ≠ [] → ∃ u, exec (.rampDownDone e) s = .next u ∧ u.engState e = 1
        ∧ u.fld Reg.BRK_STATUS_GROUPS_ON e = 1 ∧ u = { s with ctl := u.ctl }
        ∧ ctlKept s u [Reg.BRK_STATUS_STATE.key e 0, Reg.BRK_STATUS_GROUPS_ON.key e 0])
    ∧ (s.engState e = 6 → (s.engine e).plots = [] → noDeal s (e / 8) → ∃ u, exec (.rampDownDone e) s = .next u ∧ u.engState e = 0
        ∧ u.mem = s.mem ∧ u.slots = s.slots ∧ u.evs = s.evs ∧ u.eng = s.eng)
    ∧ (s.engState e = 5 → ∃ u, exec (.arrayUnpark e) s = .next u ∧ u.engState e = 1 ∧ u.fld Reg.BRK_STATUS_GROUPS_ON e = 1
        ∧ u = { s with ctl := u.ctl } ∧ ctlKept s u [Reg.BRK_STATUS_STATE.key e 0, Reg.BRK_STATUS_GROUPS_ON.key e 0])
    ∧ (s.engState e = 1 → (s.engine e).plots ≠ [] → (s.engine e).banks = [] → (s.engine e).dry = false → noDeal s (e / 8) →
      ∃ u, exec (.rampUpDone e) s = .next u ∧ u.engState e = 2 ∧ u.fld Reg.BRK_STATUS_GROUPS_ON e = 16
        ∧ u.mem = s.mem ∧ u.slots = s.slots ∧ u.evs = s.evs ∧ u.eng = s.eng))
  ∧ (∀ s (e : Engine), s.engGated = false → s.engState e = 1 →
    exec (.rampUpDone e) s = .next ((s.setEngState e 2 16).settleCamp (e / 8)))
  ∧ (∀ s (e : Engine), s.engGated = false → registersWf s → s.fld Reg.BRK_STATUS_MARGIN_REQ e = 1 →
    (s.fld Reg.GOV_PITCH_CFG_MARGIN_ALLOW (s.campPitch (e / 8)) = 1 →
      ∃ u, exec (.marginOk e) s = .next u ∧ u.fld Reg.BRK_STATUS_MARGIN_OK e = 1 ∧ u.mem = s.mem ∧ u.slots = s.slots ∧ u.evs = s.evs)
    ∧ (s.fld Reg.BRK_STATUS_MARGIN_OK e = 0 → s.fld Reg.BRK_MARGIN_DENIED e + 1 < ctrMax →
      ∃ u, exec (.marginDenied e) s = .next u ∧ u.fld Reg.BRK_MARGIN_DENIED e = s.fld Reg.BRK_MARGIN_DENIED e + 1 ∧ u.mem = s.mem ∧ u.slots = s.slots
        ∧ raised s u Code.MARGIN_DENIED (s.campPitch (e / 8)) (locEngine e) (engDetail 0xFFFF 0 0)))
  ∧ (∀ s (e : Engine), s.engGated = false → registersWf s → (s.engine e).queue = [] → (∀ q ∈ (s.engine e).plots, q.plot ≠ 16) →
    ∃ u, exec (.marginRelease e) s = .next u ∧ u.fld Reg.BRK_STATUS_MARGIN_OK e = 0 ∧ u.fld Reg.BRK_STATUS_MARGIN_REQ e = 0
      ∧ u = { s with ctl := u.ctl } ∧ ctlKept s u [Reg.BRK_STATUS_MARGIN_OK.key e 0, Reg.BRK_STATUS_MARGIN_REQ.key e 0])

/-- A panel that a block on a plot needs, and that may be read, is fed to it, and kept in the Cove buffer when it is of A and
the engine keeps it. A four-bit block all of whose panels are fed leaves its plot, and a bank with its accumulators waits for
the drain; a Datum block likewise. The bank in the drain, once its rows are written, is released. No slot changes. A block
whose checks fail runs again as blockFails says, and the residue check of a cell sees every partial that is wrong by a power
of two and no right one, and one whose converters disagree once drains again, twice reruns; a stall and an engine watchdog
count their cycles and end their descriptors as stall and endProducts say. -/
def Obligations.BlocksRunToTheDrain : Prop :=
  (∀ s (e : Engine) (plot : Fin 17) ofB p j keep cyc q pr, s.engGated = false → rising s.eng.engs = true →
    (s.engine e).plots.find? (fun q => decide (q.plot = plot.val)) = some q → s.product q.uid = some pr →
    let o := if ofB then pr.b else pr.a
    let r : PanelRec := { ofB := ofB, p := p, j := j }
    p ∈ (if ofB then panelSpan q.rect.col q.rect.cols else panelSpan q.rect.row q.rect.rows) → j < pr.chunks → r ∉ q.fed → (q.uid, r) ∉ (s.engine e).kept →
    s.mayRead pr.pitch pr.map (o.reads p j) = .ok () → s.reservedTile pr.map o (if ofB then pr.n0 else pr.m0) pr.k0 p j = none →
    ∃ u, exec (.panelReady e plot ofB p j keep cyc) s = .next u ∧ u.mem = s.mem ∧ u.slots = s.slots
      ∧ u.engine e = { s.engine e with
          plots := (s.engine e).plots.map fun q => if q.plot = plot.val then { q with fed := q.fed ++ [r] } else q
          kept := if keep ∧ !ofB then (s.engine e).kept ++ [(q.uid, r)] else (s.engine e).kept
          dry := cyc.frozen && (s.engine e).plots.any fun q => decide (q.plot < 16) })
  ∧ (∀ s (e : Engine) (plot : Fin 17) cyc q p, s.engGated = false → rising s.eng.engs = true →
    (s.engine e).plots.find? (fun q => decide (q.plot = plot.val)) = some q → s.product q.uid = some p →
    s.engState e ∈ (if plot.val = 16 then [7] else [2, 3]) → (s.engine e).drainFrozen s.eng.products = false → (s.engine e).allFed q p = true → (∀ l, l < 256 → s.laneLatch e l ≠ 1) →
    ∃ u, exec (.blockEnd e plot .pass cyc) s = .next u ∧ u.mem = s.mem ∧ u.slots = s.slots
      ∧ ∃ b ∈ (u.engine e).banks, b.plot = q.plot ∧ b.uid = q.uid ∧ b.rect = q.rect
          ∧ b.acc = (if mMode p.word = 0 then s.fourBitBlock p q.rect else (s.datumBlock p q.rect).acc))
  ∧ (∀ s (e : Engine) (plot : Fin 17) check cyc q p, s.engGated = false →
    (s.engine e).plots.find? (fun q => decide (q.plot = plot.val)) = some q → s.product q.uid = some p →
    s.engState e ∈ (if plot.val = 16 then [7] else [2, 3]) → (s.engine e).drainFrozen s.eng.products = false → (s.engine e).allFed q p = true →
    s.checkSeen p q.rect check ≠ .pass →
    exec (.blockEnd e plot check cyc) s
      = .next ((((s.countCycles e cyc).noteSlices e p q.rect).blockFails e q (s.checkSeen p q.rect check)).noteFreeze e cyc))
  ∧ (∀ s (e : Engine) cyc b p, s.engGated = false → rising s.eng.engs = true → (s.engine e).inDrain = some b → s.product b.uid = some p →
    let d := (s.countCycles e cyc).drainBlock e p b.rect b.acc
    d.code = 0 →
    ∃ u, exec (.drainBankDone e .agree cyc) s = .next u ∧ u.mem = d.s.mem ∧ u.slots = s.slots ∧ (u.engine e).banks = (s.engine e).banks.erase b)
  ∧ (∀ s (e : Engine) cyc b p, s.engGated = false → (s.engine e).inDrain = some b → s.product b.uid = some p →
    let s0 := (s.countCycles e cyc).dupEvent e (s.strikesOf (.engine e))
    (∀ t, s0.drainBank e b p = some t → exec (.drainBankDone e .once cyc) s = .next (t.noteFreeze e cyc))
    ∧ (∀ recent,
      let s1 := s0.strike (.engine e) recent
      let s2 := s1.dupEvent e (s1.strikesOf (.engine e))
      s2.strikesOf (.engine e) < 2 → exec (.drainBankDone e (.twice recent) cyc) s
        = .next ((((s2.releaseBank e b).rerun e b.plot b.uid b.rect (b.fails + 1)).settleCamp (e / 8)).noteFreeze e cyc)))
  ∧ (∀ s (e : Engine) cycles recent cyc, s.engGated = false → (s.engine e).plots ≠ [] → s.engState e ≠ 7 →
    exec (.feedStall e .column cycles recent cyc) s
      = .next ((s.countCycles e cyc).stall e Code.FEED_STALL 0xFFFF cycles.toNat (locEngine e) (.engine e) recent))
  ∧ (∀ s (e : Engine) (l : Fin 256) cycles recent cyc, s.engGated = false → s.engState e ≠ 7 → s.laneBusy e l = true → s.laneLatch e l < 2 →
    exec (.feedStall e (.lane l) cycles recent cyc) s
      = .next ((s.countCycles e cyc).stall e Code.FEED_STALL l cycles.toNat (locLane e l) (.lane e l) recent))
  ∧ (∀ s (e : Engine) cycles recent cyc, s.engGated = false → (s.engine e).plots ≠ [] → s.engState e = 7 →
    exec (.feedStall e .runnel cycles recent cyc) s
      = .next ((s.countCycles e cyc).stall e Code.FEED_STALL 0xFFFF cycles.toNat (locEngine e) (.engine e) recent))
  ∧ (∀ s (e : Engine) cycles recent cyc, s.engGated = false → (s.engine e).drainFrozen s.eng.products = true → s.engState e ≠ 8 →
    exec (.drainStall e cycles recent cyc) s
      = .next ((s.countCycles e cyc).stall e Code.DRAIN_STALL 0xFFFF cycles.toNat (locEngine e) (.engine e) recent))
  ∧ (∀ s (e : Engine) (k : SlotKey) chain (n : Fin 32) cycles cyc f p d, s.engGated = false → s.flightAt k chain n = some f → s.product f.uid = some p →
    (s.engine e).descriptors.find? (fun d => decide (d.1 = p.uid)) = some d →
    exec (.engineWatchdog e k chain n cycles cyc) s = .next (((((s.countCycles e cyc).cutInDrain e [p.uid]).endProducts e Code.ENGINE_WATCHDOG 0xFFFF cycles.toNat (locEngine e)
      [d]).bringForward e 4).settleCamp (e / 8)))
  ∧ (∀ s (e : Engine) (k : SlotKey) chain (n : Fin 32) cycles cyc f, s.engGated = false → s.flightAt k chain n = some f → s.product f.uid = none →
    dType f.word ∈ [tQuantise, tConvert] → e.val ∈ s.enginesFor (slotCamp k) f.word → (s.slot k).aborting = false →
    exec (.engineWatchdog e k chain n cycles cyc) s = .next ((((s.dropFlight k f).event Code.ENGINE_WATCHDOG (s.slotPitch k) (locEngine e)
      (engDetail 0xFFFF 0 cycles.toNat)).flightFaulted k f Code.ENGINE_WATCHDOG).bringForward e 4))
  ∧ (∀ (s : State) (p : Product) (r : Rect) (l c : Fin 256) (elem index : Nat) (b : Nat) (neg : Bool) recent, s.residues p r elem index 0 ≠ none →
    s.checkSeen p r (.upset l c elem index (if neg then -2 ^ b else 2 ^ b) recent) = .lane l c (if mMode p.word = 0 then 0 else 2) index recent
    ∧ s.checkSeen p r (.upset l c elem index 0 recent) = BlockCheck.pass)

/-- An accepted SIGNAL of the pitch's job at a tally that the pitch maps performs at once when its watermark has been
reached: COUNT rises by its amount and it is answered. When its watermark lies ahead it parks at the end of the tide pool and
is counted, or is held in the link where its pitch's part is full. A module in IDLE wakes first. The oldest parked signal
whose watermark has been reached is applied and leaves the pool; one that still waits after its limit is discarded with
SIGNAL_AHEAD, with no tally changed. Memory and slots that wait for nothing stay. -/
def Obligations.SignalsFromPeersComplete : Prop :=
  (∀ s pkt tagOk s0 c t, pkt.pitch < 9 → s.takes pkt kindSignal = true → s.accept pkt tagOk = (true, s0) → pkt.body.length = 4 →
    let s1 := s0.wake
    pkt.addr % 8 = 0 → region pkt.addr ≠ .control → pkt.job = (s.job pkt.pitch).num → pkt.job ≠ 0 → s1.signalTally pkt.pitch pkt.addr = some (c, t) →
    let x : Parked := { pitch := pkt.pitch, source := pkt.src, camp := c, tally := t, amount := ofBytes pkt.body, wm := pkt.seqn, tag := pkt.tag, held := false }
    let y := s.tally c t
    (s1.signalWaits x = false → rising s.sync.tallies = true → s.tallyReachable c = true → noWaiter s c t → 0 < x.amount → y.count + x.amount ≤ y.limit →
      exec (.remoteSignal pkt tagOk) s = .next (s1.applySignal x)
        ∧ tallyBecomes s (s1.applySignal x) c t { y with count := y.count + x.amount } ∧ (s1.applySignal x).mem = s.mem
        ∧ (s1.applySignal x).slots = s.slots)
    ∧ (s1.signalWaits x = true → s1.poolUsed pkt.pitch < s1.poolSize pkt.pitch →
      ∃ u, exec (.remoteSignal pkt tagOk) s = .next u ∧ u = { s1 with ctl := u.ctl, sync := { s1.sync with pool := s1.sync.pool ++ [x] } }
        ∧ ctlKept s1 u [Reg.TPL_PARKED.key pkt.pitch 0])
    ∧ (s1.signalWaits x = true → s1.poolSize pkt.pitch ≤ s1.poolUsed pkt.pitch → s1.fld Reg.TPL_HELD pkt.pitch + 1 < ctrMax →
      ∃ u, exec (.remoteSignal pkt tagOk) s = .next u
        ∧ u = { s1 with ctl := u.ctl, sync := { s1.sync with pool := s1.sync.pool ++ [{ x with held := true }] } }
        ∧ ctlKept s1 u [Reg.TPL_HELD.key pkt.pitch 0]))
  ∧ (∀ s x, s.sync.pool.find? (fun x => !s.signalWaits x) = some x → s.fld Reg.LNT_STATUS_STATE = 0 → rising s.sync.tallies = true →
    s.tallyReachable x.camp = true → noWaiter s x.camp x.tally → 0 < x.amount →
    let y := s.tally x.camp x.tally
    y.count + x.amount ≤ y.limit →
    ∃ u, exec .parkedSignalApply s = .next u ∧ tallyBecomes s u x.camp x.tally { y with count := y.count + x.amount }
      ∧ u.sync.pool.length + 1 = s.sync.pool.length ∧ u.mem = s.mem ∧ u.slots = s.slots)
  ∧ (∀ s n x, s.sync.pool[n]? = some x → s.signalWaits x = true →
    ∃ u, exec (.signalAhead n) s = .next u ∧ u.sync.tallies = s.sync.tallies ∧ u.sync.pool.length + 1 = s.sync.pool.length ∧ u.mem = s.mem
      ∧ u.slots = s.slots)

/-- The root releases a complete round of a local guyline: GEN and RELEASES rise, the latches of the phase clear, the
arrivals toward the next round move down, every agent waiting for the round leaves, and a blocked slot among them runs on. On
a fabric guyline the round begins its ARRIVE: it is sent to the root device, or taken by the root. The root takes an ARRIVE
of the current fabric round, and releases once it has one from every participant. A RELEASE ends the device's round: FB_ROUND
rises and LAST_DEV and LAST_THR are recorded. An ARRIVE that waits is sent again and counted. A long waiter is noted once. -/
def Obligations.GuylineRoundsComplete : Prop :=
  (∀ s (guy : Guyline) slack, s.roundComplete guy = true → s.fld Reg.GUY_CFG_FABRIC guy = 0 → rising s.sync.guys = true → rising s.slots = true →
    ∃ u, exec (.guylineRelease guy slack) s = .next u ∧ u.guy guy = (s.guy guy).release ∧ (∀ g, g ≠ guy.val → u.guy g = s.guy g)
      ∧ u.sync.guyWaits = s.sync.guyWaits.filter (fun w => !decide (w.guy = guy.val ∧ w.round = (s.guy guy).gen)) ∧ u.mem = s.mem
      ∧ u.sync.tallies = s.sync.tallies
      ∧ (∀ k, { guy := guy.val, agent := .slot k, round := (s.guy guy).gen : GuyWait } ∈ s.sync.guyWaits → (s.slot k).state = 2 → (u.slot k).state = 1)
      ∧ ∀ k, { guy := guy.val, agent := .slot k, round := (s.guy guy).gen : GuyWait } ∉ s.sync.guyWaits → u.slot k = s.slot k)
  ∧ (∀ s (guy : Guyline) slack, s.roundComplete guy = true → s.fld Reg.GUY_CFG_FABRIC guy ≠ 0 → (∀ x ∈ s.sync.arriving, x.1 ≠ guy.val) →
    let j := s.job (s.fld Reg.GUY_CFG_PITCH guy)
    let s1 : State := { s with sync := { s.sync with
      arriving := s.sync.arriving ++ [(guy.val, decide (guy.val ∈ s.sync.bubbled))], bubbled := s.sync.bubbled.filter (· ≠ guy.val) } }
    exec (.guylineRelease guy slack) s = .next (if j.parts.headD s.devId = s.devId then s1.rootArrive guy s.devId (decide (guy.val ∈ s.sync.bubbled)) slack.toNat
      else s1.sendArrive guy (decide (guy.val ∈ s.sync.bubbled))))
  ∧ (∀ s pkt tagOk (slack : BitVec 16) s1, s.takesMessage pkt 1 = true → s.accept pkt tagOk = (true, s1) →
    let b := ofBytes pkt.body
    let g := bits b 68 64
    let dev := bits b 123 112
    let j := s.job pkt.pitch
    bits b 127 124 = 1 → s.fld Reg.GUY_CFG_PITCH g = pkt.pitch → j.num = bits b 63 48 → j.num ≠ 0 → dev ∈ j.parts → j.parts.head? = some s.devId →
    s.fld Reg.GUY_CFG_FABRIC g ≠ 0 → bits b 31 0 = (s.guy g).fbRound →
    exec (.fabricArrive pkt tagOk slack) s = .next (s1.rootArrive g dev (bit b 98) slack.toNat)
    ∧ ((g, dev) ∉ s.sync.arrives → (∃ d ∈ j.parts, d ≠ dev ∧ (g, d) ∉ s.sync.arrives) →
      s1.rootArrive g dev (bit b 98) slack.toNat = { s1 with sync := { s1.sync with arrives := s.sync.arrives ++ [(g, dev)] } }))
  ∧ (∀ s pkt tagOk (slack : BitVec 16) s1, pkt.pitch < 9 → s.takesMessage pkt 1 = true → s.accept pkt tagOk = (true, s1) →
    let b := ofBytes pkt.body
    let g := bits b 68 64
    let j := s.job pkt.pitch
    bits b 127 124 = 2 → s.fld Reg.GUY_CFG_PITCH g = pkt.pitch → j.num = bits b 63 48 → j.num ≠ 0 → bits b 123 112 ∈ j.parts →
    s.fld Reg.GUY_CFG_FABRIC g ≠ 0 → bits b 31 0 = (s.guy g).fbRound → s.sync.arriving.any (fun x => decide (x.1 = g)) = true → rising s.sync.guys = true →
    ∃ u, exec (.fabricRelease pkt tagOk slack) s = .next u
      ∧ u.guy g = { (s.guy g).release with
          fbRound := ((s.guy g).fbRound + 1) % 2 ^ 32, lastDev := bits b 111 100, lastThr := bits b 99 99, lastSlack := min slack.toNat 0xFFFF }
      ∧ (∀ x ∈ u.sync.arriving, x.1 ≠ g) ∧ (∀ x ∈ u.sync.arrives, x.1 ≠ g) ∧ u.mem = s.mem ∧ u.sync.tallies = s.sync.tallies)
  ∧ (∀ s (guy : Guyline) thr, s.sync.arriving.find? (fun x => decide (x.1 = guy.val)) = some (guy.val, thr) →
    (s.job (s.fld Reg.GUY_CFG_PITCH guy)).parts.head? ≠ some s.devId → registersWf s →
    s.fld Reg.FB_RESENDS (s.fld Reg.GUY_CFG_PITCH guy) + 1 < ctrMax →
    ∃ u, exec (.fabricArriveResend guy) s = .next u
      ∧ u = (s.sendArrive guy thr).bump Ctr.FB_RESENDS (s.fld Reg.GUY_CFG_PITCH guy) (locHarbour 0x0C) (s.fld Reg.GUY_CFG_PITCH guy)
      ∧ u.fld Reg.FB_RESENDS (s.fld Reg.GUY_CFG_PITCH guy) = s.fld Reg.FB_RESENDS (s.fld Reg.GUY_CFG_PITCH guy) + 1 ∧ u.sync = s.sync ∧ u.mem = s.mem)
  ∧ (∀ s peg (n : SlotKey), s.campsGated = false →
    let a := if peg then Agent.peg (n.val % 64) else Agent.slot n.val
    ((∃ w ∈ s.sync.waits, w.agent = a) ∨ ∃ w ∈ s.sync.guyWaits, w.agent = a) → a ∉ s.sync.longWaits →
    exec (.longWaiter peg n) s = .next { s with sync := { s.sync with longWaits := s.sync.longWaits ++ [a] } })

/-- A COMMIT of a step already committed completes at once. One of a fresh step opens an attempt, which waits for the pitch's
other camps; the last one votes READY. The leader that holds every vote decides COMMIT and tells the others; a device applies
it: STATE reads COMMITTED, BANK flips and CMT_COMMITS rises. ABORT applied counts, and raises COMMIT_ABORT with its cause and
device. A query is answered with the record; a participant without a decision asks again, and is IN_DOUBT after its rounds.
Memory stays but where a replica comparison is due. -/
def Obligations.CommitOfAStepCompletes : Prop :=
  (∀ s (k : SlotKey) x r w, Issuing s k tCommit x r w →
    let p := s.slotPitch k
    let step := bits w 95 64
    (s.cmtState p = 4 → s.cmtStep p = step →
      ∃ u, exec (.commit k) s = .next u ∧ joined s u k x w 0 true true ∧ u = { s with slots := u.slots, issued := u.issued })
    ∧ (s.cmtState p = 0 → s.stepFresh p step = true → registersWf s → rising s.commits = true → (∀ c ∈ s.campsOf p, (s.slot (s.slotFor c 2)).state ≠ 4 ∧ s.campFenced c = false ∧ c ∉ (s.commitRec p).fenced) →
      (s.job p).rose = false → (∃ c ∈ s.campsOf p, c ≠ s.slotHome k / 4) →
      ∃ u, exec (.commit k) s = .next u ∧ joined s u k x w 1 true false ∧ u.cmtState p = 1 ∧ u.cmtStep p = step ∧ u.cmtAttempt p = 0
        ∧ (u.commitRec p).issued = [(s.slotHome k / 4, s.issued)] ∧ (u.commitRec p).vote = 0 ∧ u.mem = s.mem ∧ u.evs = s.evs ∧ u.sync = s.sync))
  ∧ (∀ s (pkt : Packet) tagOk s1, pkt.pitch < 9 → s.takesMessage pkt 2 = true → s.accept pkt tagOk = (true, s1) →
    let b := ofBytes pkt.body
    let p := pkt.pitch
    (s.job p).num ≠ 0 → bits b 63 48 = (s.job p).num → pkt.src ∈ (s.job p).parts → pkt.src ≠ s.devId → s1.sameAttempt p b = true →
    (bits b 83 80 = voteReady → s.leads p = true → s.cmtState p = 1 ∨ s.cmtState p = 2 →
      exec (.voteReady pkt tagOk) s = .next ((s1.holdReady p pkt.src).tryVote p)
      ∧ ((s.commitRec p).decided = 0 → (∃ d ∈ (s.job p).parts, d ≠ pkt.src ∧ d ∉ (s.commitRec p).ready) → rising s.commits = true →
        ((s1.holdReady p pkt.src).commitRec p).ready
            = (if pkt.src ∈ (s.commitRec p).ready then (s.commitRec p).ready else (s.commitRec p).ready ++ [pkt.src])
          ∧ (s1.holdReady p pkt.src).ctl = s.ctl))
    ∧ (bits b 83 80 = voteAbort → s.leads p = true → s.cmtState p = 1 ∨ s.cmtState p = 2 → (s.commitRec p).decided = 0 →
      ∃ u, exec (.voteAbort pkt tagOk) s = .next u ∧ u = s1.leaderAbort p 5 pkt.src ∧ u.mem = s.mem ∧ u.sync = s.sync)
    ∧ (bits b 83 80 = decideCommit → s.cmtState p = 1 ∨ s.cmtState p = 2 ∨ s.cmtState p = 3 → s.fld Reg.BCN_CFG_ENABLE p = 0 → registersWf s →
      ∃ u, exec (.decideCommit pkt tagOk) s = .next u ∧ u = (s1.applyCommit p 0).sendCommit p pkt.src decideAck 0 0 ∧ u.cmtState p = 4
        ∧ u.fld Reg.CMT_STATUS_BANK p = (1 - s.fld Reg.CMT_STATUS_BANK p) % 2 ^ Reg.CMT_STATUS_BANK.width ∧ u.mem = s.mem ∧ u.sync = s.sync)
    ∧ (bits b 83 80 = decideAbort → s.cmtState p = 1 ∨ s.cmtState p = 2 ∨ s.cmtState p = 3 → registersWf s →
      ∃ u, exec (.decideAbort pkt tagOk) s = .next u ∧ u = (s1.applyAbort p (bits b 95 88) pkt.src).sendCommit p pkt.src decideAck 0 0
        ∧ u.cmtState p = 5 ∧ u.mem = s.mem ∧ u.sync = s.sync)
    ∧ (bits b 83 80 = decideAck → s.leads p = true → (s.commitRec p).decided ≠ 0 → rising s.commits = true →
      (s.cmtState p = 4 ∨ s.cmtState p = 5) →
      ∃ u, exec (.decideAck pkt tagOk) s = .next u ∧ pkt.src ∈ (u.commitRec p).acked ∧ u = { s1 with commits := u.commits })
    ∧ (bits b 83 80 = decideAck → s.leads p = true → (s.commitRec p).decided = 1 → (s.cmtState p = 1 ∨ s.cmtState p = 2) → pkt.src ∉ (s.commitRec p).acked →
      exec (.decideAck pkt tagOk) s
        = .next ((s1.setCommit p { s.commitRec p with acked := (s.commitRec p).acked ++ [pkt.src] }).applyCommit p 0))
    ∧ (bits b 83 80 = queryKind → (s.cmtState p ≠ 1 ∨ (s.commitRec p).vote ≠ 0) →
      exec (.query pkt tagOk) s = .next (s1.sendCommit p pkt.src stateReply
        (if s.cmtState p = 5 then (s.commitRec p).why else if (s.commitRec p).vote = 2 then (s.commitRec p).cause else 0) (s.cmtState p)))
    ∧ (bits b 83 80 = stateReply → s.leads p = false → (s.cmtState p = 3 ∨ (s.cmtState p = 2 ∧ (s.commitRec p).vote = 1)) →
      (bits b 87 84 = 4 → exec (.stateReply pkt tagOk) s = .next (s1.applyCommit p 0))
      ∧ (bits b 87 84 = 5 → exec (.stateReply pkt tagOk) s = .next (s1.applyAbort p (bits b 95 88) pkt.src))))
  ∧ (∀ s (p : Pitch), s.leads p = true → (s.cmtState p = 1 ∨ s.cmtState p = 2) → (s.commitRec p).decided = 0 →
    ((s.commitRec p).ready ≠ [] ∨ (s.commitRec p).vote ≠ 0) → registersWf s →
    ∃ u, exec (.voteTimeout p) s = .next u ∧ u = s.leaderAbort p 2 s.devId ∧ u.cmtState p = 5 ∧ u.mem = s.mem ∧ u.sync = s.sync)
  ∧ (∀ s (p : Pitch), s.leads p = true →
    exec (.decideResend p) s = .next (((s.commitRec p).owed ++ s.decisionOwed p).foldl (fun t o => t.sendOwed p o) s)
    ∧ ((s.commitRec p).owed = [] → (s.commitRec p).decided ≠ 0 →
      exec (.decideResend p) s = .next (((s.peers p).filter (· ∉ (s.commitRec p).acked)).foldl (fun t d =>
        t.sendCommitOf p d (if (s.commitRec p).decided = 1 then decideCommit else decideAbort) (s.commitRec p).why 0 (s.cmtAttempt p) (s.cmtStep p)) s)))
  ∧ (∀ s (p : Pitch), s.leads p = false → rising s.commits = true → registersWf s →
    (s.cmtState p = 2 → (s.commitRec p).vote = 1 → (s.commitRec p).rounds < max 1 (s.fld Reg.CMT_CFG_QUERY_ROUNDS p) →
      ∃ u, exec (.decisionWaitTimeout p) s = .next u ∧ (u.commitRec p).rounds = (s.commitRec p).rounds + 1 ∧ u.cmtState p = 2 ∧ u.mem = s.mem)
    ∧ (s.cmtState p = 2 → (s.commitRec p).vote = 1 → max 1 (s.fld Reg.CMT_CFG_QUERY_ROUNDS p) ≤ (s.commitRec p).rounds →
      ∃ u, exec (.decisionWaitTimeout p) s = .next u ∧ (u.commitRec p).rounds = (s.commitRec p).rounds + 1 ∧ u.cmtState p = 3 ∧ u.mem = s.mem))

/-- An accepted request of the pitch's job that passes the checks of R345 and R346 and whose access can be made is performed
and answered with status 0: a read with the bytes, a write and an add with none, an add-reduce with what stands there after,
an atomic with the old value. Every byte outside the request's own stays. The write number of a writing packet is settled:
SETTLED reaches it when it is the next. Those bytes change as the shared access of the pitch changes them. -/
def Obligations.RequestsFromPeersComplete : Prop :=
  (∀ s (pkt : Packet) tagOk s1 bs, s.takes pkt kindRead = true → s.accept pkt tagOk = (true, s1) → s1.requestCheck pkt (within256 pkt.addr pkt.seqn) = 0 →
    s1.readAt pkt.pitch (s1.mapOf pkt.pitch) pkt.addr pkt.seqn = .ok bs →
    ∃ u, exec (.remoteRead pkt tagOk) s = .next u ∧ u = s1.answer pkt 0 bs ∧ u.mem = s.mem ∧ u.sync = s.sync ∧ u.slots = s.slots)
  ∧ (∀ s (pkt : Packet) tagOk s1 t, s.takes pkt kindWrite = true → s.accept pkt tagOk = (true, s1) →
    s1.requestCheck pkt (within256 pkt.addr pkt.body.length) = 0 → s1.writeAt pkt.pitch (s1.mapOf pkt.pitch) none pkt.addr pkt.body = .ok t →
    exec (.remoteWrite pkt tagOk) s = .next (((t.collForward pkt).answer pkt 0 []).settle pkt)
    ∧ (s.fab.colls = [] →
      ∃ u, exec (.remoteWrite pkt tagOk) s = .next u ∧ u.mem = t.mem ∧ u.slots = s.slots
        ∧ (∀ l, spared s (s.mapOf pkt.pitch) pkt.addr pkt.body.length l → u.byte l = s.byte l)
        ∧ (rising s.sync.settled = true → sget [] s.sync.beyond (pkt.pitch * 4096 + pkt.src) = [] → pkt.seqn < 2 ^ 32 →
          pkt.seqn = (sget 0 s.sync.settled (pkt.pitch * 4096 + pkt.src) + 1) % 2 ^ 32 →
          sget 0 u.sync.settled (pkt.pitch * 4096 + pkt.src) = pkt.seqn)))
  ∧ (∀ s (pkt : Packet) tagOk s1 t, s.takes pkt kindAdd = true → s.accept pkt tagOk = (true, s1) → s1.requestCheck pkt (addFormOk pkt) = 0 →
    s1.addPacket pkt = .ok t →
    ∃ u, exec (.remoteAdd pkt tagOk) s = .next u ∧ u = (t.answer pkt 0 []).settle pkt ∧ u.mem = t.mem ∧ u.slots = s.slots
      ∧ ∀ l, spared s (s.mapOf pkt.pitch) pkt.addr (pkt.body.length / (AddType.ofCode pkt.etype).addend * (AddType.ofCode pkt.etype).size) l →
          u.byte l = s.byte l)
  ∧ (∀ s (pkt : Packet) tagOk s1 t bs, s.takes pkt kindAddReduce = true → s.accept pkt tagOk = (true, s1) → s1.requestCheck pkt (addFormOk pkt) = 0 →
    let n := pkt.body.length / (AddType.ofCode pkt.etype).addend * (AddType.ofCode pkt.etype).size
    s1.addPacket pkt = .ok t → t.readAt pkt.pitch (t.mapOf pkt.pitch) pkt.addr n = .ok bs →
    ∃ u, exec (.remoteAddReduce pkt tagOk) s = .next u ∧ u = (t.answer pkt 0 bs).settle pkt ∧ u.mem = t.mem ∧ u.slots = s.slots
      ∧ ∀ l, spared s (s.mapOf pkt.pitch) pkt.addr n l → u.byte l = s.byte l)
  ∧ (∀ s (pkt : Packet) tagOk s1 old t, s.takes pkt kindAmo = true → s.accept pkt tagOk = (true, s1) →
    s1.requestCheck pkt (pkt.subtype ≤ 8 && pkt.body.length == 8 && pkt.addr % 8 == 0) = 0 →
    (∀ n, (translate (s1.mapOf pkt.pitch) pkt.addr).map region ≠ some (.store n)) → s1.readNum pkt.pitch (s1.mapOf pkt.pitch) pkt.addr 8 = .ok old →
    s1.writeAt pkt.pitch (s1.mapOf pkt.pitch) none pkt.addr (toBytes 8 (amoResult pkt.subtype old (ofBytes pkt.body))) = .ok t →
    ∃ u, exec (.remoteAmo pkt tagOk) s = .next u ∧ u = (t.answer pkt 0 (toBytes 8 old)).settle pkt ∧ u.mem = t.mem ∧ u.slots = s.slots
      ∧ ∀ l, spared s (s.mapOf pkt.pitch) pkt.addr 8 l → u.byte l = s.byte l)

/-- An accepted COMPLETION ends its request, whose originator goes on; one of FABRIC_BUSY marks it to be resent, and a resend
takes a fresh IV, counts and leaves. One for a tag that timed out is only counted. A request without a COMPLETION ends with
FABRIC_TIMEOUT, is counted, and its tag rests. A packet for another device goes on with one hop more, or is refused after 15;
one of no listed kind that is for this device is refused. An idle pair entry without an unsettled write is freed with its
highest IV as its floor. Memory stays but for the data that an answer brings. -/
def Obligations.RequestsOfThisDeviceEnd : Prop :=
  (∀ s (pkt : Packet) tagOk s1, pkt.pitch < 9 → pkt.kind = kindCompletion → pkt.dst = s.devId → s.devId ≠ 0xFFF → s.accept pkt tagOk = (true, s1) →
    ((∃ x ∈ s.fab.late, x.1 = pkt.tag) → s.fld Reg.TWY_LATE pkt.pitch + 1 < ctrMax → registersWf s →
      ∃ u, exec (.remoteCompletion pkt tagOk) s = .next u ∧ u.fld Reg.TWY_LATE pkt.pitch = s.fld Reg.TWY_LATE pkt.pitch + 1
        ∧ u = { s1 with ctl := u.ctl } ∧ ctlKept s u [Reg.TWY_LATE.key pkt.pitch 0])
    ∧ (∀ r, (∀ x ∈ s.fab.late, x.1 ≠ pkt.tag) → s.fab.reqs.find? (fun r => decide (r.stage = 1 ∧ r.pkt.tag = pkt.tag ∧ r.pkt.pitch = pkt.pitch)) = some r →
      (pkt.status = Code.FABRIC_BUSY →
        exec (.remoteCompletion pkt tagOk) s
          = .next { s1 with fab := { s1.fab with reqs := s1.fab.reqs.map fun x => if x = r then { r with stage := 2 } else x } })
      ∧ (pkt.status ≠ Code.FABRIC_BUSY → s.landWaits r pkt.status pkt.body = false →
        exec (.remoteCompletion pkt tagOk) s = .next ((({ s1 with fab := { s1.fab with reqs := s1.fab.reqs.erase r } } : State).pump).ended
          r pkt.status pkt.body))
      ∧ ∀ uid k f, pkt.status = 0 → s.landWaits r 0 pkt.body = false → r.origin = .flight uid 0 → pkt.body = [] → s.flightOf uid = some (k, f) → Numbered s →
        rising s.slots = true → (s.slot k).aborting = false → (∀ q ∈ s.fab.reqs, q.stage ≠ 0) →
        ∃ u, exec (.remoteCompletion pkt tagOk) s = .next u ∧ u.flightOf uid = some (k, f.part 0) ∧ u.fab.reqs = s.fab.reqs.erase r ∧ u.mem = s.mem
          ∧ u.sync = s.sync ∧ ∀ j, j ≠ k → u.slot j = s.slot j))
  ∧ (∀ s (tag : BitVec 16) r, s.fab.reqs.find? (fun r => decide (r.stage ≠ 0 ∧ r.pkt.tag = tag.toNat)) = some r →
    let p := r.pkt.pitch
    let s1 : State := { s with fab := { s.fab with reqs := s.fab.reqs.erase r, late := s.fab.late ++ [(tag.toNat, false)] } }
    exec (.fabricRequestTimeout tag) s = .next (((((s1.bump Ctr.TWY_TIMEOUT p locFabric p).event Code.FABRIC_TIMEOUT p locFabric
      (fabDetail r.pkt.dst 0 0 r.pkt.tag r.pkt.addr)).pump)).ended r Code.FABRIC_TIMEOUT []))
  ∧ (∀ s (pkt : Packet) tag, s.devId ≠ 0xFFF →
    let p : Packet := { pkt with hops := pkt.hops + 1 }
    (pkt.dst ≠ s.devId → pkt.dst ≠ 0xFFF → 15 ≤ pkt.hops → exec (.packetForward pkt tag) s = .next (s.reject pkt Code.FABRIC_HOP_LIMIT))
    ∧ (∀ n, pkt.dst ≠ s.devId → pkt.hops < 15 → s.pickPort p = some n →
      ∃ u, exec (.packetForward pkt tag) s = .next u ∧ u = s.emit n p (toBytes 32 (pktHeader p) ++ pkt.body ++ toBytes 16 tag.toNat) ∧ u.mem = s.mem
        ∧ u.sync = s.sync ∧ u.slots = s.slots)
    ∧ (pkt.dst ≠ s.devId → pkt.hops < 15 ∨ pkt.dst = 0xFFF → s.pickPort p = none →
      exec (.packetForward pkt tag) s = .next (s.reject p Code.FABRIC_NO_ROUTE))
    ∧ (pkt.dst = s.devId → kindListed pkt = false → exec (.packetForward pkt tag) s = .next (s.authFail pkt)))
  ∧ (∀ s (pitch : Pitch) (src : DevId), (∃ e ∈ s.fab.pairs, e.1 = pitch.val * 4096 + src.val) → sget [] s.sync.beyond (pitch.val * 4096 + src.val) = [] →
    rising s.fab.pairs = true → rising s.fab.floors = true →
    let k := pitch.val * 4096 + src.val
    ∃ u, exec (.pairEntryIdle pitch src) s = .next u ∧ u = { s with fab := { s.fab with floors := u.fab.floors, pairs := u.fab.pairs } }
      ∧ sget 0 u.fab.floors k = max (sget PairRec.empty s.fab.pairs k).top (sget 0 s.fab.floors k) ∧ (∀ e ∈ u.fab.pairs, e.1 ≠ k)
      ∧ ∀ j, j ≠ k → sget 0 u.fab.floors j = sget 0 s.fab.floors j ∧ sget PairRec.empty u.fab.pairs j = sget PairRec.empty s.fab.pairs j)
  ∧ (∀ s (tag : BitVec 16) r, s.fab.reqs.find? (fun r => decide (r.stage = 2 ∧ r.pkt.tag = tag.toNat)) = some r → r.pkt.pitch < 9 → registersWf s →
    s.fld Reg.TWY_BUSY r.pkt.pitch + 1 < ctrMax →
    ∃ u, exec (.fabricBusyResend tag) s = .next u ∧ u.fld Reg.TWY_BUSY r.pkt.pitch = s.fld Reg.TWY_BUSY r.pkt.pitch + 1 ∧ u.mem = s.mem ∧ u.sync = s.sync
      ∧ u.slots = s.slots)

/-- A data flit with a good CRC and the SEQ expected moves EXPECTED on; any other is counted and answered by one NAK for the
SEQ expected. An ACK empties the replay buffer of the flits it covers. An idle flit is sent by the timer. A replay sends the
buffer again, the ninth without progress retrains. Training ends with the widest group of good lanes up, or with the port
down; a down port is retried. Memory, slots and tallies stay. -/
def Obligations.LinksReplayAndRetrain : Prop :=
  (∀ s (port : TwPort) crcOk (seq ack : Fin 4096) (cls : Fin 4) (vl : Fin 2) cred fec, s.portUp port = true → rising s.fab.ports = true →
    (crcOk = true → seq.val = (s.port port).expected →
      ∃ u, exec (.dataFlitReceive port crcOk seq ack cls vl cred fec) s = .next u ∧ (u.port port).expected = ((s.port port).expected + 1) % 4096
        ∧ (u.port port).nakSent = false ∧ u.mem = s.mem ∧ u.sync = s.sync ∧ u.slots = s.slots)
    ∧ ((crcOk = false ∨ seq.val ≠ (s.port port).expected) → (s.port port).nakSent = false →
      ∃ u, exec (.dataFlitReceive port crcOk seq ack cls vl cred fec) s = .next u ∧ (u.port port).expected = (s.port port).expected
        ∧ (u.port port).nakSent = true ∧ (u.port port).buffer = (s.port port).buffer
        ∧ u.out = .flit port 2 0 (s.port port).expected 0 0 (s.port port).cred (flitBytes 2 0 (s.port port).expected 0 0 (s.port port).cred []) :: s.out ∧ u.mem = s.mem ∧ u.sync = s.sync ∧ u.slots = s.slots)
    ∧ ((crcOk = false ∨ seq.val ≠ (s.port port).expected) → (s.port port).nakSent = true →
      ∃ u, exec (.dataFlitReceive port crcOk seq ack cls vl cred fec) s = .next u ∧ u = { s with ctl := u.ctl, evs := u.evs }))
  ∧ (∀ s (port : TwPort) (ack : Fin 4096) cred, s.portUp port = true → rising s.fab.ports = true → (s.port port).queue = [] →
    (∃ u, exec (.idleFlitReceive port true ack cred) s = .next u
        ∧ (u.port port).buffer = (s.port port).buffer.filter (fun f => !newer 12 ack f.seq) ∧ (u.port port).expected = (s.port port).expected
        ∧ u = { s with ctl := u.ctl, fab := { s.fab with ports := u.fab.ports } } ∧ ctlKept s u [Reg.TWY_RX_64B.key port 0])
    ∧ exec (.nakReceive port true ack cred) s = .next (((s.accum Reg.TWY_RX_64B 4 port).takeAck port ack cred.toNat).replay port)
    ∧ (∀ b : Bool, ∃ u, exec (if b then .nakReceive port false ack cred else .idleFlitReceive port false ack cred) s = .next u ∧ u = { s with ctl := u.ctl }
        ∧ ctlKept s u [Reg.TWY_RX_64B.key port 0]))
  ∧ (∀ s (port : TwPort), s.portUp port = true → rising s.fab.ports = true → registersWf s →
    (∃ u, exec (.idleFlitTimer port) s = .next u ∧ u.out = .flit port 1 0 (s.port port).expected 0 0 (s.port port).cred (flitBytes 1 0 (s.port port).expected 0 0 (s.port port).cred []) :: s.out
        ∧ u = { s with ctl := u.ctl, out := u.out, fab := { s.fab with ports := u.fab.ports } } ∧ ctlKept s u [Reg.TWY_TX_64B.key port 0])
    ∧ ((s.port port).buffer ≠ [] → (s.port port).replays < 8 → s.fld Reg.TWY_REPLAY port + 1 < ctrMax →
      ∃ u, exec (.replayTimeout port) s = .next u ∧ (u.port port).replays = (s.port port).replays + 1 ∧ (u.port port).buffer = (s.port port).buffer
        ∧ u.fld Reg.TWY_REPLAY port = s.fld Reg.TWY_REPLAY port + 1 ∧ u.out.length = s.out.length + (s.port port).buffer.length
        ∧ u.mem = s.mem ∧ u.sync = s.sync ∧ u.evs = s.evs)
    ∧ ((s.port port).buffer ≠ [] → 8 ≤ (s.port port).replays → s.fld Reg.TWY_RETRAIN port + 1 < ctrMax →
      ∃ u, exec (.replayTimeout port) s = .next u ∧ u.fld Reg.TWY_PORT_STATUS_STATE port = 1 ∧ (u.port port).replays = 0
        ∧ u.fld Reg.TWY_RETRAIN port = s.fld Reg.TWY_RETRAIN port + 1
        ∧ raised s u Code.LINK_RETRAIN 0 (locPort port) (fabDetail 0 port (s.fld Reg.TWY_PORT_STATUS_WIDTH port) 0 0) ∧ u.mem = s.mem ∧ u.sync = s.sync))
  ∧ (∀ s (port : TwPort) (good : BitVec 8), s.fld Reg.TWY_PORT_STATUS_STATE port = 1 → rising s.fab.ports = true → registersWf s →
    let w := (widest good.toNat).1
    let finished : BitVec 8 := 0xFF
    (w ≠ 0 → ∀ i ∈ [Instr.linkRetrainDone port good, .linkRetrainTimeout port finished good],
      ∃ u, exec i s = .next u ∧ u.fld Reg.TWY_PORT_STATUS_STATE port = 2 ∧ u.fld Reg.TWY_PORT_STATUS_WIDTH port = w
        ∧ u.fld Reg.TWY_PORT_STATUS_LANES_OK port = (widest good.toNat).2 ∧ (u.port port).wasDown = false ∧ u.mem = s.mem ∧ u.sync = s.sync ∧ u.slots = s.slots)
    ∧ (w = 0 → (s.port port).buffer = [] → (s.port port).queue = [] → ∀ i ∈ [Instr.linkRetrainDone port good, .linkRetrainTimeout port finished good],
      ∃ u, exec i s = .next u ∧ u.fld Reg.TWY_PORT_STATUS_STATE port = 0 ∧ u.fld Reg.TWY_PORT_STATUS_WIDTH port = 0 ∧ u.mem = s.mem ∧ u.sync = s.sync
        ∧ u.out = s.out ∧ u.slots = s.slots))
  ∧ (∀ s (port : TwPort), s.fld Reg.TWY_PORT_STATUS_STATE port = 0 → s.fld Reg.TWY_PORT_CFG_ENABLE port = 1 → s.fld Reg.TWY_FAB_CFG_RETRY_S ≠ 0 →
    rising s.fab.ports = true → registersWf s →
    ∃ u, exec (.downPortRetry port) s = .next u ∧ u.fld Reg.TWY_PORT_STATUS_STATE port = 1 ∧ (u.port port).wasDown = true ∧ u.mem = s.mem ∧ u.sync = s.sync)

/-- A COLL_READY of the pitch's job that agrees with the issued descriptor is taken by its collective, one that comes before
it issues is held, one for an ended collective is discarded; one that disagrees ends it with COLL_MISMATCH. COLL_ABORT ends
the member's descriptor with COLL_ABORTED. COLL_DONE from a member counts toward completion. COLL_PULL is answered with the
span asked for, and with COLL_ABORTED where no such collective is under way. Memory stays where the clause names no further
step. -/
def Obligations.CollectiveMessagesComplete : Prop :=
  (∀ s (pkt : Packet) tagOk s1, s.accept pkt tagOk = (true, s1) →
    pkt.job = (s.job pkt.pitch).num → pkt.src ∈ (s.job pkt.pitch).parts →
    let b := ofBytes pkt.body
    (∀ t ∈ [3, 5], s.takesMessage pkt t = true → s.coll pkt.pitch (bits b 31 0) = none → s.cidIssued pkt.pitch (bits b 31 0) = false →
      exec (if t = 3 then .collReady pkt tagOk else .collAbort pkt tagOk) s = .next { s1 with fab := { s1.fab with
        collHeld := s1.fab.collHeld ++ [{ pitch := pkt.pitch, src := pkt.src, subtype := t, body := b }] } })
    ∧ (∀ t ∈ [3, 5], s.takesMessage pkt t = true → s.coll pkt.pitch (bits b 31 0) = none → s.cidIssued pkt.pitch (bits b 31 0) = true →
      exec (if t = 3 then .collReady pkt tagOk else .collAbort pkt tagOk) s = .next s1)
    ∧ (∀ c, s.coll pkt.pitch (bits b 31 0) = some c →
      (s.takesMessage pkt 3 = true → c.agrees b = true → exec (.collReady pkt tagOk) s = .next (s1.collAdvance { c with
        ready := (bits b 77 66, bits b 201 154, bits b 249 202) :: c.ready.filter (fun r => r.1 != bits b 77 66) }))
      ∧ (s.takesMessage pkt 3 = true → c.agrees b = false →
        exec (.collReady pkt tagOk) s = .next ((s1.sendAborts c Code.COLL_MISMATCH).collFault c Code.COLL_MISMATCH pkt.src 0))
      ∧ (s.takesMessage pkt 5 = true → exec (.collAbort pkt tagOk) s = .next (s1.collFault c Code.COLL_ABORTED pkt.src 0)
        ∧ ∀ d ∈ (s1.dropColl c.uid).fab.colls, d.uid ≠ c.uid)
      ∧ (s.takesMessage pkt 4 = true → pkt.src ∈ c.q →
        exec (.collDone pkt tagOk) s = .next (s1.collCheck { c with doneFrom := placeOf pkt.src c.q :: c.doneFrom })))
    ∧ (∀ c bs, pkt.kind = kindPull → pkt.dst = s.devId → s.devId ≠ 0xFFF → bits pkt.addr 35 0 % 256 = 0 → pkt.job ≠ 0 → s.coll pkt.pitch pkt.seqn = some c →
      s1.contribution c (c.srcAddrs (bits pkt.addr 47 36) (bits pkt.addr 35 0 / 256)) = .ok bs →
      exec (.collPull pkt tagOk) s = .next ((s1.answer pkt 0 bs).collCheck { c with toServe := c.toServe - 1 }))
    ∧ (pkt.kind = kindPull → pkt.dst = s.devId → s.devId ≠ 0xFFF → bits pkt.addr 35 0 % 256 = 0 → pkt.job ≠ 0 → s.coll pkt.pitch pkt.seqn = none →
      ∃ u, exec (.collPull pkt tagOk) s = .next u ∧ u = s1.answer pkt Code.COLL_ABORTED [] ∧ u.mem = s.mem ∧ u.sync = s.sync))

/-- An access to an HBM or Shelf line that its gate lets pass is performed: a read answers the line's 64 bytes, also where
the decoder corrects them, a write stores the bytes that its mask names and no other byte of memory changes. A full write
clears the line's poison. A gate that says wait holds an HBM access, and a fault code refuses it with its event in the pitch
and an error completion to who made it, with memory as it was. A codeword beyond the decoder's reach is poisoned and answered
with MEM_UNCORRECTABLE. Registers but the traffic counter, slots, tallies and pitches stay in the performed forms. That
memory lists bytes in canonical form is part of CanonicalFormIsKept. -/
def Obligations.LineAccessesComplete : Prop :=
  (∀ s (pitch : Pitch) line op err who, memoryWf s → line < 2 ^ 33 →
    let a := s.redirected (line * 64)
    let g := s.lineGate pitch a (!opReads op)
    let n := (s.place a).1
    let marked := s.marks n
    let extra := (err.positions.eraseDups).filter fun p => decide (p < 36) && !marked.contains (symbolPin p)
    region a = .hbm → a / 2 ^ 21 ∉ (s.pitchRec pitch).joiningPages →
    (g = 0 → op = .read → extra = [] → err.escaped = none →
      ∃ u, exec (.hbmAccess pitch line op err who) s = .next u ∧ u.out = .line 0 (ofBytes (readBytes s.mem a 64)) :: s.out
        ∧ u = { s with ctl := u.ctl, rems := u.rems, out := u.out })
    ∧ (g = 0 → op = .read → extra.length ≤ tideguardReach marked.length → err.escaped = none →
      ∃ u, exec (.hbmAccess pitch line op err who) s = .next u ∧ u.out.head? = some (.line 0 (ofBytes (readBytes s.mem a 64))) ∧ u.mem = s.mem)
    ∧ (∀ mask data, g = 0 → op = .write mask data → (mask ≠ BitVec.allOnes 64 → extra = [] ∧ err.escaped = none) →
      ∃ u, exec (.hbmAccess pitch line op err who) s = .next u ∧ u.out = .line 0 0 :: s.out
        ∧ (∀ i, i < 64 → u.byte (a + i) = if mask.getLsbD i then bits data.toNat (8 * i + 7) (8 * i) else s.byte (a + i))
        ∧ memKept s u a 64 ∧ u = { s with mem := u.mem, ctl := u.ctl, rems := u.rems, ras := u.ras, out := u.out }
        ∧ (mask = BitVec.allOnes 64 → a / 64 ∉ u.ras.poison))
    ∧ (g = 1 → ∃ u, exec (.hbmAccess pitch line op err who) s = .next u
        ∧ u = { s with ras := { s.ras with held := s.ras.held ++ [{ pitch := pitch, line := line, act := .access op, err := err, who := who }] } })
    ∧ (2 ≤ g → exec (.hbmAccess pitch line op err who) s = .next (s.refuseLine pitch g a 0 who)
        ∧ (who = .other → (s.refuseLine pitch g a 0 who).out = .line g 0 :: s.out
          ∧ raised s (s.refuseLine pitch g a 0 who) g pitch (s.locMem a) (s.memDetail a)
          ∧ s.refuseLine pitch g a 0 who = { s with evs := (s.refuseLine pitch g a 0 who).evs, out := .line g 0 :: s.out }))
    ∧ (g = 0 → opReads op = true → tideguardReach marked.length < extra.length → s.place a ∈ s.ras.flash → s.poisonUsed n < 256 →
        s.fld Reg.HBM_UE n + 1 < ctrMax → registersWf s → who = .other →
      ∃ u, exec (.hbmAccess pitch line op err who) s = .next u ∧ u.out = .line Code.MEM_UNCORRECTABLE 0 :: s.out ∧ a / 64 ∈ u.ras.poison
        ∧ u.fld Reg.HBM_UE n = s.fld Reg.HBM_UE n + 1
        ∧ raised s u Code.MEM_UNCORRECTABLE pitch (locPc n) (s.memDetail a 0 (extra.headD 0))
        ∧ u = { s with ctl := u.ctl, evs := u.evs, ras := u.ras, out := u.out }))
  ∧ (∀ s (pitch : Pitch) line op err who, 2 ^ 33 ≤ line →
    exec (.hbmAccess pitch line op err who) s = .next (s.refuseLine pitch Code.ADDRESS_RESERVED (line * 64) 0 who))
  ∧ (∀ s (pitch : Pitch) line op err who, memoryWf s →
    let a := line * 64
    let g := s.lineGate pitch a (!opReads op)
    (region a ≠ .shelf → exec (.shelfAccess pitch line op err who) s = .next (s.refuseLine pitch Code.ADDRESS_RESERVED a 0 who))
    ∧ (region a = .shelf → s.redirected a = a → g ≠ 0 → exec (.shelfAccess pitch line op err who) s = .next (s.refuseLine pitch g a 0 who))
    ∧ (region a = .shelf → s.redirected a = a → g = 0 → op = .read → (shelfWords err).1 < 2 →
      ∃ u, exec (.shelfAccess pitch line op err who) s = .next u ∧ u.out = .line 0 (ofBytes (readBytes s.mem a 64)) :: s.out
        ∧ u = { s with ctl := u.ctl, evs := u.evs, rems := u.rems, out := u.out })
    ∧ (∀ mask data, region a = .shelf → s.redirected a = a → g = 0 → op = .write mask data → (mask ≠ BitVec.allOnes 64 → (shelfWords err).1 < 2) →
      ∃ u, exec (.shelfAccess pitch line op err who) s = .next u ∧ u.out = .line 0 0 :: s.out
        ∧ (∀ i, i < 64 → u.byte (a + i) = if mask.getLsbD i then bits data.toNat (8 * i + 7) (8 * i) else s.byte (a + i))
        ∧ memKept s u a 64 ∧ u = { s with mem := u.mem, ctl := u.ctl, evs := u.evs, rems := u.rems, ras := u.ras, out := u.out })
    ∧ (region a = .shelf → s.redirected a = a → g = 0 → opReads op = true → 2 ≤ (shelfWords err).1 →
        sget 0 s.ras.bankUe ((s.shelfBank a).1 * 1024 + (s.shelfBank a).2) + 1 < max 1 (s.fld Reg.SHF_CFG_BANK_UE_FENCE (s.shelfBank a).1) → who = .other →
      ∃ u, exec (.shelfAccess pitch line op err who) s = .next u ∧ u.out = .line Code.MEM_UNCORRECTABLE 0 :: s.out ∧ a / 64 ∈ u.ras.poison
        ∧ u = { s with ctl := u.ctl, evs := u.evs, rems := u.rems, ras := u.ras, out := u.out }))

/-- An add that its line's gate lets pass writes the line that the element-wise sums give, unmasked elements untouched, and
answers; an add-reduce answers with the line as written. Every byte outside the line stays, and so does all state but the
traffic and wrap counters. A line in a Cove buffer is refused with COVE_WRITE_REFUSED, one in a local store, a tally or
guyline page, control space or no region with ADDRESS_RESERVED, and one that the gate refuses with its code: one event, one
error completion. An add that must wait is held, as an access is. -/
def Obligations.MemoryAddsComplete : Prop :=
  ∀ s (pitch : Pitch) line (type : Fin 5) mask addend (reduce : Bool) err who, memoryWf s →
    let a := line * 64
    let l := s.redirected a
    let g := s.lineGate pitch l false
    let r := addRun (AddType.ofCode type) (readBytes s.mem l 64) (lineAddends (AddType.ofCode type) mask.toNat addend.toNat)
    (region a = .hbm ∨ region a = .shelf → region l = region a → (region a = .hbm → l / 2 ^ 21 ∉ (s.pitchRec pitch).joiningPages) →
      (g = 0 → err.positions = [] → err.escaped = none →
        ∃ u, exec (.memoryAdd pitch line type mask addend reduce err who) s = .next u ∧ readBytes u.mem l 64 = r.1
          ∧ u.out = .line 0 (if reduce then ofBytes (readBytes u.mem l 64) else 0) :: s.out ∧ memKept s u l 64
          ∧ u = { s with mem := u.mem, ctl := u.ctl, evs := u.evs, rems := u.rems, out := u.out })
      ∧ (g = 1 → exec (.memoryAdd pitch line type mask addend reduce err who) s = .next { s with ras := { s.ras with
          held := s.ras.held ++ [{ pitch := pitch, line := line, act := .add type mask addend reduce, err := err, who := who }] } })
      ∧ (2 ≤ g → exec (.memoryAdd pitch line type mask addend reduce err who) s = .next (s.refuseLine pitch g l 0 who)))
    ∧ (((∃ c, region a = .store c) ∨ (∃ c o, region a = .tally c o) ∨ (∃ y o, region a = .guyline y o) ∨ region a = .control ∨ region a = .reserved) →
      exec (.memoryAdd pitch line type mask addend reduce err who) s = .next (s.refuseLine pitch Code.ADDRESS_RESERVED a 0 who))
    ∧ ((∃ e, region a = .cove e) →
      exec (.memoryAdd pitch line type mask addend reduce err who) s = .next (s.refuseLine pitch Code.COVE_WRITE_REFUSED a 0 who))

/-- A refresh changes nothing. A scrub of a good line moves the scrubber on and counts the line's traffic alone. An access
that times out is refused with MEM_TIMEOUT and its pseudo-channel retrains; a retrain that ends well lets the accesses held
for it go on, one that fails is tried again, and the third in a row makes the pseudo-channel dead, which begins a re-form.
Memory stays. -/
def Obligations.MemoryUpkeepCompletes : Prop :=
  (∀ s (stack : Fin 8), exec (.hbmRefresh stack) s = .next s)
  ∧ (∀ s (n : PseudoCh) err, s.pcLive n = true → s.hbmAsleep = false → s.fld Reg.HBM_MAP_STATE ≠ 1 → err.positions = [] → rising s.ras.pcs = true →
    ∃ u, exec (.hbmScrub n err) s = .next u ∧ u = { s with ctl := u.ctl, rems := u.rems, ras := { s.ras with pcs := u.ras.pcs } }
      ∧ ((s.pc n).scrub + 1 < 2 ^ 24 → u.pc n = { s.pc n with scrub := (s.pc n).scrub + 1 })
      ∧ (2 ^ 24 ≤ (s.pc n).scrub + 1 → u.pc n = { s.pc n with scrub := 0, pins := [], ceLog := [] }) ∧ ∀ m, m ≠ n.val → u.pc m = s.pc m)
  ∧ (∀ s (die : Die) err, s.fld Reg.SHF_MAP_STATE die ≠ 1 → s.fld Reg.LNT_STATUS_STATE ≠ 3 → err.positions = [] → rising s.ras.shelfScrub = true →
    ∃ u, exec (.shelfScrub die err) s = .next u ∧ u = { s with ctl := u.ctl, rems := u.rems, ras := { s.ras with shelfScrub := u.ras.shelfScrub, bankUe := u.ras.bankUe } }
      ∧ (sget 0 s.ras.shelfScrub die + 1 < s.fld Reg.SHF_MAP_LIVE_N die * 2 ^ 15 →
          sget 0 u.ras.shelfScrub die = sget 0 s.ras.shelfScrub die + 1 ∧ u.ras.bankUe = s.ras.bankUe)
      ∧ (s.fld Reg.SHF_MAP_LIVE_N die * 2 ^ 15 ≤ sget 0 s.ras.shelfScrub die + 1 → sget 0 u.ras.shelfScrub die = 0
          ∧ ∀ b, b < 1024 → sget 0 u.ras.bankUe (die * 1024 + b) = 0))
  ∧ (∀ s (pitch : Pitch) line who, line < 2 ^ 33 → registersWf s → s.hbmAsleep = false → s.fld Reg.HBM_MAP_STATE ≠ 1 →
    let n := (s.place (s.redirected (line * 64))).1
    let s1 : State := { s with ras := { s.ras with held := s.ras.held.eraseP fun h => decide (h.pitch = pitch ∧ h.line = line ∧ h.who = who) } }
    s.pcLive n = true → exec (.hbmAccessTimeout pitch line who) s = .next (s1.lineLate pitch (s.redirected (line * 64)) who)
    ∧ (s.fld Reg.HBM_PC_STATUS_STATE n = 0 → s.fld Reg.HBM_RETRAIN n + 1 < ctrMax → who = .other →
    ∃ u, exec (.hbmAccessTimeout pitch line who) s = .next u ∧ u.out = .line Code.MEM_TIMEOUT 0 :: s.out ∧ u.fld Reg.HBM_PC_STATUS_STATE n = 1
      ∧ u.fld Reg.HBM_RETRAIN n = s.fld Reg.HBM_RETRAIN n + 1 ∧ ctlKept s u [Reg.HBM_PC_STATUS_STATE.key n 0, Reg.HBM_RETRAIN.key n 0]
      ∧ u = { s1 with ctl := u.ctl, evs := u.evs, out := u.out }))
  ∧ (∀ s (n : PseudoCh), s.fld Reg.HBM_PC_STATUS_STATE n = 1 → registersWf s → rising s.ras.pcs = true →
    (exec (.hbmRetrainDone n) s = .next (((s.setFld Reg.HBM_PC_STATUS_STATE 0 n).setPc n { s.pc n with fails := 0 }).releaseHeld))
    ∧ (s.ras.held = [] →
      ∃ u, exec (.hbmRetrainDone n) s = .next u ∧ u.fld Reg.HBM_PC_STATUS_STATE n = 0 ∧ (u.pc n).fails = 0
        ∧ ctlKept s u [Reg.HBM_PC_STATUS_STATE.key n 0] ∧ u = { s with ctl := u.ctl, ras := { s.ras with pcs := u.ras.pcs } })
    ∧ ((s.pc n).fails < 2 → s.fld Reg.HBM_RETRAIN n + 1 < ctrMax →
      ∃ u, exec (.hbmRetrainFail n) s = .next u ∧ u.fld Reg.HBM_PC_STATUS_STATE n = 1 ∧ (u.pc n).fails = (s.pc n).fails + 1
        ∧ u.fld Reg.HBM_RETRAIN n = s.fld Reg.HBM_RETRAIN n + 1 ∧ raised s u Code.HBM_CHANNEL_RETRAIN 0 (locPc n) (atBytes [(10, s.liveN), (12, s.fld Reg.HBM_MAP_EPOCH)])
        ∧ u = { s with ctl := u.ctl, evs := u.evs, ras := { s.ras with pcs := u.ras.pcs } })
    ∧ (2 ≤ (s.pc n).fails → s.pcLive n = true → s.boot.hand = 0 → (∀ h ∈ s.ras.held, h.who = .other) →
      ∃ u, exec (.hbmRetrainFail n) s = .next u ∧ u.fld Reg.HBM_PC_STATUS_STATE n = 2 ∧ u.pcLive n = false ∧ u.fld Reg.HBM_MAP_STATE = 1
        ∧ u.ras.held = [] ∧ u.mem = s.mem ∧ u.slots = s.slots ∧ u.sync = s.sync)
    ∧ (2 ≤ (s.pc n).fails → s.boot.hand ≠ 0 →
      exec (.hbmRetrainFail n) s = .next { s.setPc n { s.pc n with fails := 0 } with boot := { s.boot with putOff := s.boot.putOff ++ [.dead n] } }))

/-- The end of an HBM or Shelf re-form leaves its memory zero, its poison clear and its state normal, and no other byte
changes. A page move that ends has copied the page, redirects its address and translation, and retires the old page; one that
times out frees the new page and is retried. The next zeroed page or slab of a pitch joins its map, and only its own bytes
change. A traffic-generator run that ends counts its codewords and errors, and its first mismatch is latched with an event;
one that wrote its pattern and whose reads turn nothing finds none (codewords as log 125 gives them). -/
def Obligations.ReformsMovesAndZeroingComplete : Prop :=
  (∀ s, s.fld Reg.HBM_MAP_STATE = 1 → registersWf s →
    ∃ u, exec .reformZeroingDone s = .next u ∧ u.fld Reg.HBM_MAP_STATE = 0 ∧ (∀ x, x < 2 ^ 39 → u.byte x = 0) ∧ (∀ x, 2 ^ 39 ≤ x → u.byte x = s.byte x)
      ∧ (∀ l ∈ u.ras.poison, 2 ^ 33 ≤ l) ∧ u.ras.owners = s.ras.owners ∧ ctlKept s u [Reg.HBM_MAP_STATE.key 0 0] ∧ u.sync = s.sync ∧ u.slots = s.slots)
  ∧ (∀ s (die : Die), s.fld Reg.SHF_MAP_STATE die = 1 → registersWf s →
    let lo := shelfBase + die * 2 ^ 31
    ∃ u, exec (.shelfReformDone die) s = .next u ∧ u.fld Reg.SHF_MAP_STATE die = 0 ∧ (∀ x, lo ≤ x → x < lo + 2 ^ 31 → u.byte x = 0) ∧ memKept s u lo (2 ^ 31)
      ∧ (∀ l ∈ u.ras.poison, ¬ (lo / 64 ≤ l ∧ l < lo / 64 + 2 ^ 25)) ∧ ctlKept s u [Reg.SHF_MAP_STATE.key die 0] ∧ u.sync = s.sync ∧ u.slots = s.slots)
  ∧ (∀ s old new, s.ras.moving = some (old, new) → s.ras.held = [] → s.pageOwner old < 9 → old ≠ new → memoryWf s → registersWf s → rising s.ras.owners = true →
    rising s.sec.pitches = true → s.fld Reg.HBM_RETIRED + 1 < s.retireMax →
    (∃ u, exec .pageMoveDone s = .next u ∧ (∀ i, i < 2 ^ 21 → u.byte (new * 2 ^ 21 + i) = s.byte (old * 2 ^ 21 + i)) ∧ memKept s u (new * 2 ^ 21) (2 ^ 21)
      ∧ (u.mapOf (s.pageOwner old)).pages = replacePage old new (s.mapOf (s.pageOwner old)).pages ∧ u.redirected (old * 2 ^ 21) = (if s.pageNamed old then new else old) * 2 ^ 21
      ∧ u.pageOwner old = 0xE ∧ u.ras.moving = none ∧ u.fld Reg.HBM_RETIRED = s.fld Reg.HBM_RETIRED + 1
      ∧ raised s u Code.MEM_PAGE_RETIRED (s.pageOwner old) (locPc (s.place (old * 2 ^ 21)).1)
          (atBytes [(0, old), (9, 2), (10, s.liveN), (12, s.fld Reg.HBM_MAP_EPOCH)]) ∧ u.sync = s.sync ∧ u.slots = s.slots)
    ∧ (∃ u, exec .pageMoveTimeout s = .next u ∧ u.pageOwner new = 0xF ∧ u.ras.moving = none ∧ u.ras.retry = old :: s.ras.retry
      ∧ u = { s with ras := u.ras }))
  ∧ (∀ s page new, page ∈ s.ras.retry → s.ras.moving = none → s.pageOwner page < 9 → page ∉ s.ras.marked → s.freePage = some new → s.fld Reg.HBM_RETIRED < s.retireMax →
    rising s.ras.owners = true →
    ∃ u, exec (.retireRetry page) s = .next u ∧ u.ras.moving = some (page, new) ∧ page ∉ u.ras.retry ∧ u.pageOwner new = s.pageOwner page
      ∧ u = { s with ras := u.ras })
  ∧ (∀ s (p : Pitch) n rest, (s.pitchRec p).joiningPages = n :: rest → (s.pitchRec p).hbmKey.isSome = true → s.hbmAsleep = false → rising s.sec.pitches = true →
    ∃ u, exec (.pageZeroingDone p) s = .next u ∧ (u.mapOf p).pages = (s.mapOf p).pages ++ [n] ∧ (u.pitchRec p).joiningPages = rest
      ∧ (∀ i, i < 2 ^ 21 → u.byte (n * 2 ^ 21 + i) = 0) ∧ memKept s u (n * 2 ^ 21) (2 ^ 21) ∧ u.slots = s.slots
      ∧ u.sync.tallies = s.sync.tallies ∧ (s.sync.pool = [] → u.sync = s.sync ∧ ctlKept s u [Reg.SEC_PITCH_CTL_STATE.key p 0]))
  ∧ (∀ s (p : Pitch) (die : Die) n, (s.pitchRec p).joiningSlabs.find? (fun m => decide (m / 32 = die)) = some n → (s.pitchRec p).hbmKey.isSome = true →
    s.fld Reg.LNT_STATUS_STATE ≠ 3 → rising s.sec.pitches = true →
    ∃ u, exec (.slabZeroingDone p die) s = .next u ∧ n ∉ (u.pitchRec p).joiningSlabs
      ∧ (if die = 0 then (u.mapOf p).slabs0 = (s.mapOf p).slabs0 ++ [n] else (u.mapOf p).slabs1 = (s.mapOf p).slabs1 ++ [n])
      ∧ (∀ i, i < 2 ^ 26 → u.byte (shelfBase + n * 2 ^ 26 + i) = 0) ∧ memKept s u (shelfBase + n * 2 ^ 26) (2 ^ 26) ∧ u.slots = s.slots
      ∧ u.sync.tallies = s.sync.tallies ∧ (s.sync.pool = [] → u.sync = s.sync ∧ ctlKept s u [Reg.SEC_PITCH_CTL_STATE.key p 0]))
  ∧ (∀ s (n : PseudoCh) words turned, s.fld Reg.HBM_TG_CFG_GO n = 1 → s.fld Reg.HBM_MAP_STATE = 2 → registersWf s →
    let first := s.fld Reg.HBM_TG_RANGE_FIRST n
    let count := tgCodewords first (s.fld Reg.HBM_TG_RANGE_COUNT n)
    let r : RawRun := { pc := n, first := first, count := count, pattern := s.fld Reg.HBM_TG_CFG_PATTERN n, seed := s.fld Reg.HBM_TG_SEED_SEED n
                        line := s.fld Reg.HBM_TG_USER_LINE n }
    let seen := (List.range count).map fun i =>
      (first + i, s.tgCheck r (first + i) ((((words.zip turned).find? fun f => decide (f.1 = first + i)).map fun f => f.2.toNat).getD 0))
    (∃ u, exec (.tgRunDone n words turned) s = .next u ∧ u.fld Reg.HBM_TG_CFG_GO n = 0
      ∧ u.fld Reg.HBM_TG_WORDS n = (s.fld Reg.HBM_TG_WORDS n + count) % 2 ^ Reg.HBM_TG_WORDS.width
      ∧ u = { s with ctl := u.ctl, evs := u.evs, ras := { s.ras with raw := u.ras.raw } }
      ∧ u.ras.raw = (if s.fld Reg.HBM_TG_CFG_CHECK_ONLY n = 1 then s.ras.raw else r :: s.ras.raw))
    ∧ (s.fld Reg.HBM_TG_CFG_CHECK_ONLY n ≠ 1 → turned = [] →
      ∃ u, exec (.tgRunDone n words turned) s = .next u ∧ u.fld Reg.HBM_TG_ERRS n = s.fld Reg.HBM_TG_ERRS n ∧ u.evs = s.evs)
    ∧ (s.fld Reg.HBM_TG_CFG_CHECK_ONLY n = 1 → s.fld Reg.HBM_TG_ERRS n + seen.foldl (fun e x => e + x.2.1) 0 < ctrMax →
      ∃ u, exec (.tgRunDone n words turned) s = .next u ∧ u.fld Reg.HBM_TG_ERRS n = s.fld Reg.HBM_TG_ERRS n + seen.foldl (fun e x => e + x.2.1) 0
        ∧ (seen.find? (fun x => x.2.2.isSome) = none → u.evs = s.evs)
        ∧ ∀ cw e beat, seen.find? (fun x => x.2.2.isSome) = some (cw, e, some beat) → u.fld Reg.HBM_TG_FIRST_VALID n = 1
          ∧ u.fld Reg.HBM_TG_FIRST_CODEWORD n = cw % 2 ^ Reg.HBM_TG_FIRST_CODEWORD.width ∧ u.fld Reg.HBM_TG_FIRST_BEAT n = beat % 2 ^ Reg.HBM_TG_FIRST_BEAT.width
          ∧ raised s u Code.TG_MISMATCH 0 (locPc n) (atBytes [(0, cw), (10, s.liveN), (12, s.fld Reg.HBM_MAP_EPOCH)])))

/-- With the module running: FLOW_OK that falls starts the deglitch unless a stop stands; a low that ends within it is
counted as a glitch and raises FLOW_GLITCH. One that lasts takes the module to its stop, with COOLANT_STICKY and ALERT_N set
and the power state kept to return to; the islands are gated next. Once FLOW_OK is high and every diode is cool, the stop
ends: the state returns, and every array that was active ramps up. Memory, jobs, streams, cores, tallies and the fabric stay
throughout, and registers but those named. How far a stop of the package looks past FLOW_OK is the model's reading (log 83). -/
def Obligations.CoolantStopsComplete : Prop :=
  (∀ s, s.running = true → s.fld Reg.LNT_STATUS_FLOW_OK = 1 → s.boot.unpowered = false → registersWf s →
    ∃ u, exec .flowOkFall s = .next u ∧ u.fld Reg.LNT_STATUS_FLOW_OK = 0 ∧ ctlKept s u [Reg.LNT_STATUS_FLOW_OK.key 0 0]
      ∧ u = { s with ctl := u.ctl, power := { s.power with flowLow := s.power.stop == 0, package := false } })
  ∧ (∀ s, s.fld Reg.LNT_STATUS_FLOW_OK = 0 → registersWf s →
    (s.power.flowLow = false → ∃ u, exec .flowOkRise s = .next u ∧ u.fld Reg.LNT_STATUS_FLOW_OK = 1 ∧ u = { s with ctl := u.ctl }
      ∧ ctlKept s u [Reg.LNT_STATUS_FLOW_OK.key 0 0])
    ∧ (s.power.flowLow = true → s.fld Reg.LNT_FLOW_GLITCH + 1 < ctrMax →
      ∃ u, exec .flowOkRise s = .next u ∧ u.fld Reg.LNT_STATUS_FLOW_OK = 1 ∧ u.fld Reg.LNT_FLOW_GLITCH = s.fld Reg.LNT_FLOW_GLITCH + 1
        ∧ raised s u Code.FLOW_GLITCH 0 locLantern 0 ∧ u = { s with ctl := u.ctl, evs := u.evs, power := { s.power with flowLow := false } }
        ∧ ctlKept s u [Reg.LNT_STATUS_FLOW_OK.key 0 0, Reg.LNT_FLOW_GLITCH.key 0 0]))
  ∧ (∀ s, s.fld Reg.LNT_STATUS_FLOW_OK = 1 → exec .flowOkRise s = .next s)
  ∧ (∀ s, s.power.flowLow = true → s.running = true → s.powerState ≤ 2 → registersWf s →
    ∃ u, exec .coolantStop s = .next u ∧ u.powerState = 4
      ∧ u.power = { s.power with flowLow := false, stop := 1, package := false, before := s.powerState }
      ∧ u.fld Reg.LNT_STATUS_COOLANT_STICKY = 1 ∧ u.fld Reg.LNT_STATUS_ALERT = 1 ∧ workKept s u ∧ u.ras = s.ras ∧ u.host = s.host
      ∧ ctlKept s u (Reg.LNT_STATUS_STATE.key 0 0 :: Reg.LNT_STATUS_COOLANT_STICKY.key 0 0 :: Reg.LNT_STATUS_ALERT.key 0 0 :: logFields))
  ∧ (∀ s, s.power.stop = 1 → exec .coolantIslandGate s = .next { s with power := { s.power with stop := 2 } })
  ∧ (∀ s, s.power.stop = 2 → (s.fld Reg.LNT_STATUS_FLOW_OK = 1 ∨ s.power.package = true) → s.coolDiodes ((List.range 1536).filter isDiode) = true →
    s.ras.held = [] → registersWf s → s.power.before < 8 →
    ∃ u, exec .coolantResumed s = .next u ∧ u.powerState = s.power.before ∧ u.power = { s.power with stop := 0, package := false, before := 0 }
      ∧ workKept s u ∧ u.ras = s.ras
      ∧ (∀ e, e < 128 → u.fld Reg.BRK_STATUS_STATE e = if s.fld Reg.BRK_STATUS_STATE e ∈ [1, 2, 3, 4] then 1 else s.fld Reg.BRK_STATUS_STATE e))

/-- An engine's diode above the trip point marks the engine tripped, stuck from its fourth trip within the window, counts the
trip, sets TRIP_STICKY and ALERT_N, and an engine in service that holds no work is hard-fenced with CAUSE 6. A cool engine
that is not stuck returns to service when its fence is the trip's; a stuck one stays fenced. A diode outside the engines
above its trip point stops the module. Memory, jobs, cores, tallies and the fabric stay in these forms, and the streams but
for descriptors whose requests the fence emptied out of a crossing. -/
def Obligations.ThermalTripsComplete : Prop :=
  (∀ s (e : Engine) (diode : Fin 4) value recent emptied, s.running = true → (∀ t ∈ s.power.tripped, t.1 ≠ e.val) →
    ((256 * s.fld Reg.LNT_THERM_TRIP : Nat) : Int) < value.toInt → noHeld s → registersWf s → rising s.power.trips = true → s.fld Reg.LNT_TRIPS + 1 < ctrMax →
    let n := sget 0 s.power.trips e
    let shown (u : State) : Prop := u.power.tripped = s.power.tripped ++ [(e.val, decide (3 ≤ min recent n))] ∧ sget 0 u.power.trips e = n + 1
      ∧ u.fld Reg.LNT_TRIPS = s.fld Reg.LNT_TRIPS + 1 ∧ u.fld Reg.LNT_STATUS_TRIP_STICKY = 1 ∧ u.fld Reg.LNT_STATUS_ALERT = 1
      ∧ workKept s { u with slots := s.slots } ∧ (emptied = [] → u.slots = s.slots)
    (s.latch (.engine e) = 2 → ∃ u, exec (.engineThermalTrip e diode value recent emptied) s = .next u ∧ shown u ∧ u.latch (.engine e) = 2 ∧ u.eng = s.eng
      ∧ u.rel = s.rel ∧ u.host = s.host)
    ∧ (s.latch (.engine e) ≤ 1 → s.boot.hand ≠ 0 →
      ∃ u, exec (.engineThermalTrip e diode value recent emptied) s = .next u ∧ shown u ∧ u.slots = s.slots ∧ u.boot.putOff = s.boot.putOff ++ [.hard (locEngine e) 6]
        ∧ u.latch (.engine e) = s.latch (.engine e) ∧ u.eng = s.eng ∧ u.rel = s.rel ∧ u.host = s.host)
    ∧ (s.latch (.engine e) ≤ 1 → s.boot.hand = 0 → s.host.waits = [] → noDeal s (e / 8) → s.engine e = .empty → rising s.eng.engs = true →
      rising s.rel.records = true →
      ∃ u, exec (.engineThermalTrip e diode value recent emptied) s = .next u ∧ shown u ∧ u.latch (.engine e) = 2 ∧ u.fld Reg.FEN_STATE_ENG_CAUSE e = 6
        ∧ u.fld Reg.FEN_STATE_ENG_HARD e = 1))
  ∧ (∀ s (e : Engine) stuck, s.power.tripped.find? (fun t => decide (t.1 = e.val)) = some (e.val, stuck) → s.running = true → s.powerState ≠ 4 →
    s.boot.hand = 0 → s.coolDiodes ((List.range 4).map (· + 4 * e.val)) = true → registersWf s →
    ((stuck = true ∨ s.latch (.engine e) ≠ 2 ∨ s.fld Reg.FEN_STATE_ENG_CAUSE e ≠ 6) →
      ∃ u, exec (.thermalReturn e) s = .next u ∧ u.power = { s.power with tripped := s.power.tripped.filter fun t => decide (t.1 ≠ e.val) }
        ∧ u = { s with ctl := u.ctl, power := u.power } ∧ ctlKept s u [Reg.LNT_STATUS_ALERT.key 0 0])
    ∧ (stuck = false → s.latch (.engine e) = 2 → s.fld Reg.FEN_STATE_ENG_CAUSE e = 6 → noDeal s (e / 8) → rising s.eng.engs = true → rising s.rel.strikes = true →
      ∃ u, exec (.thermalReturn e) s = .next u ∧ u.power = { s.power with tripped := s.power.tripped.filter fun t => decide (t.1 ≠ e.val) }
        ∧ u.latch (.engine e) = 0 ∧ u.fld Reg.FEN_STATE_ENG_CAUSE e = 0 ∧ u.fld Reg.FEN_STATE_ENG_HARD e = 0 ∧ u.strikesOf (.engine e) = 0 ∧ workKept s u))
  ∧ (∀ s (point : Fin 2048) value, s.running = true → isDiode point = true → 512 ≤ point.val →
    ((256 * s.fld Reg.LNT_THERM_PKG_TRIP : Nat) : Int) < value.toInt → registersWf s → s.fld Reg.LNT_TRIPS + 1 < ctrMax →
    ∃ u, exec (.packageThermalTrip point value) s = .next u ∧ u.fld Reg.LNT_STATUS_TRIP_STICKY = 1 ∧ u.fld Reg.LNT_TRIPS = s.fld Reg.LNT_TRIPS + 1
      ∧ u.fld Reg.LNT_STATUS_ALERT = 1 ∧ workKept s u ∧ u.eng = s.eng ∧ u.ras = s.ras
      ∧ (s.power.stop = 0 → u.powerState = 4 ∧ u.power = { s.power with flowLow := false, stop := 1, package := true, before := s.powerState })
      ∧ (s.power.stop ≠ 0 → u.power = s.power ∧ u.powerState = s.powerState))

/-- A hot engine steps one clock slower, one that has cooled one faster; a pitch's floor holds a step back, and the time held
is added to GOV_HELD_CLK. A supply drops as the monitor finds, but stays nominal where V_PIN or REPEAT is 1. The fast path
begins and ends; the slow loop's sample sets SCALE, counts the excess and shows every camp's budget after SCALE. The energy
register adds 100 µs of the input power. A governor window keeps each agent's bubbles and shows the largest; a rebalance
clears the demands and sets the budgets of the pitch's camps. Memory, jobs, streams, cores, tallies and the fabric stay but
where named. -/
def Obligations.ClocksSuppliesAndTheModuleLimitComplete : Prop :=
  (∀ s (e : Engine) held policyNew, s.running = true → s.powerState ≤ 1 → registersWf s → rising s.power.steps = true →
    let p := s.campPitch (e / 8)
    let step := s.clockStep e
    (s.engineAt e (s.fld Reg.LNT_THERM_STEP_HI) = true → step < 5 → s.engineAt e (s.fld Reg.LNT_THERM_HARD) = false →
      s.fld Reg.GOV_PITCH_CFG_CLK_FLOOR p ≤ step →
      ∃ u, exec (.thermalStepDown e held policyNew) s = .next u
        ∧ u.fld Reg.GOV_HELD_CLK p = (s.fld Reg.GOV_HELD_CLK p + held.toNat) % 2 ^ 64 ∧ ctlKept s u [Reg.GOV_HELD_CLK.key p 0]
        ∧ u = { s with ctl := u.ctl, evs := u.evs })
    ∧ (s.engineAt e (s.fld Reg.LNT_THERM_STEP_HI) = true → step < 5 →
      (s.engineAt e (s.fld Reg.LNT_THERM_HARD) = true ∨ step < s.fld Reg.GOV_PITCH_CFG_CLK_FLOOR p) → s.fld Reg.LNT_STEPS + 1 < ctrMax →
      ∃ u, exec (.thermalStepDown e held policyNew) s = .next u ∧ sget 0 u.power.steps e = step + 1 ∧ u.fld Reg.LNT_STEPS = s.fld Reg.LNT_STEPS + 1
        ∧ (∀ j, j ≠ e.val → sget 0 u.power.steps j = sget 0 s.power.steps j) ∧ u = { s with ctl := u.ctl, evs := u.evs, power := u.power }
        ∧ ctlKept s u [Reg.LNT_STEPS.key 0 0])
    ∧ (s.engineAt e (s.fld Reg.LNT_THERM_STEP_LO) = false → s.fld Reg.GOV_PITCH_CFG_CLK_CEIL p < step → s.fld Reg.LNT_STEPS + 1 < ctrMax →
      ∃ u, exec (.thermalStepUp e) s = .next u ∧ sget 0 u.power.steps e = step - 1 ∧ u.fld Reg.LNT_STEPS = s.fld Reg.LNT_STEPS + 1
        ∧ (∀ j, j ≠ e.val → sget 0 u.power.steps j = sget 0 s.power.steps j) ∧ u = { s with ctl := u.ctl, evs := u.evs, power := u.power }
        ∧ ctlKept s u [Reg.LNT_STEPS.key 0 0]))
  ∧ (∀ s (e : Engine) (drop : Fin 11) held policyNew, s.running = true → s.powerState ≤ 1 → rising s.power.volts = true →
    let p := s.campPitch (e / 8)
    let pinned := s.fld Reg.GOV_PITCH_CFG_V_PIN p = 1 ∨ s.fld Reg.GOV_PITCH_CFG_REPEAT p = 1
    ∃ u, exec (.voltageAdjust e drop held policyNew) s = .next u ∧ (pinned → sget 0 u.power.volts e = 0) ∧ (¬ pinned → sget 0 u.power.volts e = drop.val)
      ∧ (∀ j, j ≠ e.val → sget 0 u.power.volts j = sget 0 s.power.volts j) ∧ ctlKept s u [Reg.GOV_HELD_VOLT.key p 0]
      ∧ u = { s with ctl := u.ctl, evs := u.evs, power := u.power })
  ∧ (∀ s mw, s.running = true → s.power.fast = false → scaledLimit 2800000 s.power.inputMv < mw.toNat →
    ∃ u, exec (.fastPathLimit mw) s = .next u ∧ u = { s with evs := u.evs, power := { s.power with fast := true } }
      ∧ raised s u Code.MODULE_LIMIT 0 locLantern (pwrDetail mw.toNat 2034 1 0))
  ∧ (∀ s, s.power.fast = true → exec .fastPathRelease s = .next { s with power := { s.power with fast := false } })
  ∧ (∀ s (mw mv : BitVec 32), s.running = true → registersWf s → s.fld Reg.LNT_STATUS_SCALE ≤ 256 →
    let above := scaledLimit 2400000 mv.toNat < mw.toNat
    let scale := s.fld Reg.LNT_STATUS_SCALE
    ∃ u, exec (.moduleLimitSample mw mv) s = .next u ∧ workKept s u ∧ (above → u.power = { s.power with excess := s.power.excess + 1, inputMv := mv.toNat })
      ∧ (¬ above → u.power = { s.power with excess := s.power.excess - 1, inputMv := mv.toNat })
      ∧ (above → 63 ≤ s.power.excess → u.fld Reg.LNT_STATUS_SCALE = scale - 16) ∧ (above → s.power.excess < 63 → u.fld Reg.LNT_STATUS_SCALE = scale)
      ∧ (mw.toNat < scaledLimit 2300000 mv.toNat → u.fld Reg.LNT_STATUS_SCALE = min 256 (scale + 1))
      ∧ (∀ c, c < 16 → u.fld Reg.GOV_CAMP_STATUS_BUDGET c = sget 0 s.power.budgets c * u.fld Reg.LNT_STATUS_SCALE / 256 % 2 ^ 32))
  ∧ (∀ s (watts : BitVec 16) camps use, registersWf s →
    ∃ u, exec (.energySample watts camps use) s = .next u ∧ u.fld Reg.LNT_ENERGY = (s.fld Reg.LNT_ENERGY + 100 * watts.toNat) % 2 ^ 64
      ∧ ctlKept s u (Reg.LNT_ENERGY.key 0 0 :: (List.range 9).map fun p => Reg.LNT_PITCH_ENERGY.key p 0) ∧ u = { s with ctl := u.ctl }
      ∧ ∀ p, 1 ≤ p → p ≤ 8 → (s.job p).num = 0 → u.fld Reg.LNT_PITCH_ENERGY p = s.fld Reg.LNT_PITCH_ENERGY p)
  ∧ (∀ s (c : Camp) acts idle runs policyNew, s.campRuns c = true → registersWf s → rising s.power.bubbles = true →
    ∃ u, exec (.governorWindow c acts idle runs policyNew) s = .next u ∧ (sget [] u.power.bubbles c).length = 8
      ∧ u.fld Reg.GOV_CAMP_STATUS_BUB_MAX c = min 255 ((sget [] u.power.bubbles c).foldl max 0)
      ∧ u.fld Reg.GOV_BUBBLE_CYC c = (s.takeBubbles c (runs.take 8)).fld Reg.GOV_BUBBLE_CYC c
      ∧ ((∀ r ∈ runs.take 8, r.cycles = 0) → u.fld Reg.GOV_BUBBLE_CYC c = s.fld Reg.GOV_BUBBLE_CYC c)
      ∧ ((∀ x ∈ acts.take 8, estimate x = 0) → sget [] u.power.bubbles c = List.replicate 8 0 ∧ u.sync = s.sync)
      ∧ u = { s with ctl := u.ctl, evs := u.evs, power := u.power, sync := { s.sync with bubbled := u.sync.bubbled } })
  ∧ (∀ s (p : Pitch), p.val ≠ 0 → s.pitchCamps p ≠ [] → s.running = true → s.powerState = 0 → rising s.power.demand = true → rising s.power.lastDemand = true →
    rising s.power.budgets = true →
    ∃ u, exec (.pitchRebalance p) s = .next u ∧ u = { s with ctl := u.ctl, power := u.power } ∧ (∀ c ∈ s.pitchCamps p, sget 0 u.power.demand c = 0)
      ∧ (∀ c ∈ s.pitchCamps p, sget 0 u.power.lastDemand c = sget 0 s.power.demand c)
      ∧ (s.lends Reg.GOV_PITCH_CFG_LEND_PITCH p = false →
        (∀ c ∈ s.pitchCamps p, sget 0 u.power.budgets c = s.pitchBudget p / (s.pitchCamps p).length)
        ∧ ∀ c, c ∉ s.pitchCamps p → sget 0 u.power.budgets c = sget 0 s.power.budgets c))

/-- The first good sample of a point is its value; with IIR_K 0 a later one makes the value the median of the newest samples
that MEDIAN keeps. A sample that fails counts, and the third in a row makes the point faulty, counts in LNT_SENSOR and sets
SENSOR_STICKY. The reads of the two coolant monitors are samples of their eight points in order. Only the sensor records and
the sensor registers change, with an engine's fence beside them once all its diodes are faulty. -/
def Obligations.SensorsComplete : Prop :=
  (∀ s (point : Fin 2048) (v : BitVec 32), rising s.power.sensors = true →
    let x := s.sensor point
    let last := (v.toInt :: x.last).take 7
    (x.last = [] → ∃ u, exec (.sensorSample point (some v)) s = .next u ∧ u.sensor point = { last := [v.toInt], y := v.toInt, bad := 0, faulty := false }
      ∧ u = { s with power := { s.power with sensors := u.power.sensors } } ∧ ∀ q, q ≠ point.val → u.sensor q = s.sensor q)
    ∧ (x.last ≠ [] → s.fld Reg.LNT_FILT_IIR_K 0 (sensorClass point) = 0 →
      ∃ u, exec (.sensorSample point (some v)) s = .next u
        ∧ u.sensor point = { last := last, y := medianOf (last.take (2 * s.fld Reg.LNT_FILT_MEDIAN 0 (sensorClass point) + 1)), bad := 0, faulty := false }
        ∧ u = { s with power := { s.power with sensors := u.power.sensors } } ∧ ∀ q, q ≠ point.val → u.sensor q = s.sensor q))
  ∧ (∀ s (point : Fin 2048), rising s.power.sensors = true → registersWf s →
    let x := s.sensor point
    ((x.faulty = true ∨ x.bad < 2) → ∃ u, exec (.sensorSample point none) s = .next u ∧ (u.sensor point).bad = min 3 (x.bad + 1)
      ∧ (u.sensor point).faulty = x.faulty ∧ u = { s with power := { s.power with sensors := u.power.sensors } })
    ∧ (x.faulty = false → 2 ≤ x.bad → 512 ≤ point.val → s.fld Reg.LNT_SENSOR + 1 < ctrMax →
      ∃ u, exec (.sensorSample point none) s = .next u ∧ (u.sensor point).faulty = true ∧ u.fld Reg.LNT_SENSOR = s.fld Reg.LNT_SENSOR + 1
        ∧ u.fld Reg.LNT_STATUS_SENSOR_STICKY = 1 ∧ raised s u Code.SENSOR_FAULT 0 (sensorLoc point) (pwrDetail 0 point 0 0)
        ∧ u = { s with ctl := u.ctl, evs := u.evs, power := { s.power with sensors := u.power.sensors } }))
  ∧ (∀ s readings, ∃ u, exec (.coolantMonitorRead readings) s = .next u
    ∧ u = (List.range 8).foldl (fun (t : State) i => t.sample (2040 + i) ((readings.getD i none).map BitVec.toInt)) s
    ∧ u = { s with ctl := u.ctl, evs := u.evs, fresh := u.fresh, power := { s.power with sensors := u.power.sensors } })

/-- An idle module enters IDLE and wakes to ACTIVE. The end of DOZE leaves the module ACTIVE with tallies, cores, Cove
buffers and local stores as after reset and every other byte as it was. A Dzisia pair that restarts hands the mailbox to the
Lantern, counts and sets RESTART_STICKY, and the mailbox comes back when no pair is held. A Lantern restart keeps the
sessions when its state passes its digest. A summary clears its own counts. The security block is powered for work in
STANDBY, and unpowered once nothing is left to write. A hand-off switches when every command has replied; one that completes
runs and records the new slot, one that fails leaves the old. -/
def Obligations.PowerStatesRestartsAndHandoffsComplete : Prop :=
  (∀ s, s.running = true → registersWf s →
    (s.powerState = 0 → s.allIdle = true → ∃ u, exec .idleEntry s = .next u ∧ u.powerState = 1 ∧ u = { s with ctl := u.ctl, evs := u.evs, sec := u.sec, rems := u.rems }
      ∧ ctlKept s u (Reg.LNT_STATUS_STATE.key 0 0 :: logFields))
    ∧ (s.powerState = 1 → ∃ u, exec .idleWake s = .next u ∧ u.powerState = 0 ∧ u = { s with ctl := u.ctl, evs := u.evs, sec := u.sec, rems := u.rems }
      ∧ ctlKept s u (Reg.LNT_STATUS_STATE.key 0 0 :: logFields))
    ∧ (s.powerState = 2 → s.power.waking = true → s.ras.held = [] → s.host.waits = [] → noHeld s →
      ∃ u, exec .dozeExitDone s = .next u ∧ u.powerState = 0 ∧ u.power = { s.power with waking := false } ∧ u.sync.tallies = [] ∧ u.pegs = []
        ∧ (∀ x, region x = .hbm ∨ region x = .shelf → u.byte x = s.byte x)
        ∧ (∀ x, (∃ e, region x = .cove e) ∨ (∃ c, region x = .store c) → u.byte x = 0) ∧ u.jobs = s.jobs ∧ u.slots = s.slots ∧ u.fab = s.fab
        ∧ ctlKept s u (Reg.LNT_STATUS_STATE.key 0 0 :: logFields)))
  ∧ (∀ s (pair : Fin 2) lockstep recent, s.running = true → (∀ x ∈ s.power.restarting, x.1 ≠ pair.val) → s.boot.hand = 0 → registersWf s →
    rising s.power.restarts = true → s.fld Reg.LNT_DZ_RESTART + 1 < ctrMax →
    ∃ u, exec (.dzisiaRestart pair lockstep recent) s = .next u ∧ u.fld Reg.MBX_STATUS_SERVER = 1 ∧ u.fld Reg.LNT_DZ_RESTART = s.fld Reg.LNT_DZ_RESTART + 1
      ∧ u.fld Reg.LNT_STATUS_RESTART_STICKY = 1 ∧ sget 0 u.power.restarts pair = sget 0 s.power.restarts pair + 1 ∧ u.host.waits = [] ∧ workKept s u
      ∧ (recent < 3 → u.power.restarting = s.power.restarting ++ [(pair.val, false)] ∧ u.fld Reg.STU_STATUS_SLOT = s.fld Reg.STU_STATUS_SLOT))
  ∧ (∀ s (pair : Fin 2), ∃ u, exec (.dzisiaRestartRetry pair) s = .next u ∧ u = { s with power := { s.power with restarting := u.power.restarting } }
    ∧ u.power.restarting.length = s.power.restarting.length ∧ (pair.val, true) ∉ u.power.restarting)
  ∧ (∀ s (pair : Fin 2), s.power.restarting = [(pair.val, false)] → s.running = true → noHeld s → registersWf s →
    ∃ u, exec (.dzisiaRestartDone pair) s = .next u ∧ u.fld Reg.MBX_STATUS_SERVER = 0
      ∧ u = { s with ctl := u.ctl, power := { s.power with restarting := [] } } ∧ ctlKept s u [Reg.MBX_STATUS_SERVER.key 0 0])
  ∧ (∀ s digestOk, registersWf s → s.fld Reg.LNT_LNT_RESTART + 1 < ctrMax →
    ∃ u, exec (.lanternRestart digestOk) s = .next u ∧ u.fld Reg.LNT_LNT_RESTART = s.fld Reg.LNT_LNT_RESTART + 1
      ∧ u.fld Reg.LNT_STATUS_RESTART_STICKY = 1 ∧ workKept s u ∧ (digestOk = true → u.host = s.host))
  ∧ (∀ s, ∃ u, exec .lanternSummary s = .next u ∧ u = { s with ctl := u.ctl, evs := u.evs, sec := u.sec, power := { s.power with stepsTaken := 0, supplies := 0 } }
    ∧ ctlKept s u logFields)
  ∧ (∀ s, s.powerState = 3 → s.phase ≤ 1 →
    (s.boot.unpowered = false → s.sec.powered = false → s.standbyWork = true →
      ∃ u, exec .securityBlockPowerUp s = .next u
        ∧ u = { s with sec := { s.sec with powered := true, flashOn := true, evSeen := s.evs.nextSeq }, rems := u.rems })
    ∧ (s.standbyWork = false → exec .securityBlockPowerUp s = .next s)
    ∧ (s.sec.powered = true → s.sec.log.buffered = [] → s.sec.log.ahead = [] → s.sec.log.later = [] →
      exec .securityBlockPowerDown s = .next { s with sec := { s.sec with powered := false, flashOn := false, evSeen := s.evs.nextSeq } }))
  ∧ (∀ s, s.boot.hand = 1 → (∀ x ∈ s.host.sessions, x.2.waiting = none ∨ ∃ w ∈ s.host.waits, w.session = x.1 ∧ w.on = .handoff) →
    exec .handoffSwitch s = .next { s with boot := { s.boot with hand := 2 } })
  ∧ (∀ s, s.boot.putOff = [] → s.power.restarting = [] → s.host.waits = [] → noHeld s → registersWf s → s.boot.handSlot < 2 → s.fld Reg.STU_STATUS_SLOT < 2 →
    (s.boot.hand = 2 → s.boot.handRaise = false → ∃ u, exec .handoffComplete s = .next u ∧ u.fld Reg.STU_STATUS_SLOT = s.boot.handSlot
      ∧ u.fld Reg.STU_STATUS_ACTIVE = s.boot.handSlot ∧ (u.fwSlot s.boot.handSlot).state = 4 ∧ u.boot.hand = 0 ∧ u.fld Reg.MBX_STATUS_SERVER = 0 ∧ workKept s u
      ∧ u.host = s.host ∧ u.power = s.power)
    ∧ (s.boot.hand ≠ 0 → ∃ u, exec .handoffTimeout s = .next u ∧ u.fld Reg.STU_STATUS_SLOT = s.fld Reg.STU_STATUS_SLOT ∧ u.boot = { s.boot with hand := 0 }
      ∧ u.fld Reg.MBX_STATUS_SERVER = 0 ∧ workKept s u ∧ u.host = s.host ∧ u.power = s.power))

/-- A hold that passes counts the attempt, closes every session, numbers events anew and raises the rails; each phase that
ends well leads to the next, with its measurements and the slot that passes its checks; training whose units are all good
opens the module, with memory zero. A phase that ends badly, a rail timeout and a start timeout fail the start with their
reason: the reason is recorded, counted and shifted into the history, the rails go down, and another attempt waits, or
Bivouac mode follows the third. A waiting attempt begins again from its hold. -/
def Obligations.StartPhasesComplete : Prop :=
  (∀ s slotId, s.phase = 1 → s.boot.waiting = false → s.boot.opened = false → s.boot.unpowered = false → s.linesHigh = true → registersWf s →
    rising s.host.sessions = true → s.fld Reg.STU_STATUS_FAILS ≤ 3 →
    ∃ u, exec (.startHoldPassed slotId) s = .next u ∧ u.phase = 2 ∧ u.powerState = 5 ∧ u.fld Reg.STU_STATUS_FAILS = min 3 (s.fld Reg.STU_STATUS_FAILS + 1)
      ∧ u.fld Reg.STU_STARTS = (s.fld Reg.STU_STARTS + 1) % 2 ^ 64 ∧ u.boot.marker = true ∧ u.boot.prevFails = s.fld Reg.STU_STATUS_FAILS
      ∧ u.boot.slotId = slotId.toNat ∧ (∀ i, i < 8 → u.fld Reg.SEC_MEAS_VALUE 0 i = 0) ∧ (∀ n, u.session n = none) ∧ workKept s u)
  ∧ (∀ s, registersWf s → s.phase = 2 →
    ∃ u, exec .railsDone s = .next u ∧ u.phase = 3 ∧ u = { s with ctl := u.ctl } ∧ ctlKept s u [Reg.STU_STATUS_PHASE.key 0 0])
  ∧ (∀ s, registersWf s → s.fld Reg.STU_FAILED + 1 < ctrMax → s.fld Reg.STU_STATUS_FAILS ≤ 3 →
    (s.phase = 2 → ∃ u, exec .railTimeout s = .next u ∧ StartFailed s u 0x01)
    ∧ (s.starting = true → ∃ u, exec .startTimeout s = .next u ∧ StartFailed s u 0x0A)
    ∧ (∀ outcome : Fin 4, s.phase = 3 → outcome.val ≠ 0 →
      ∃ u, exec (.securityPhaseDone outcome) s = .next u ∧ StartFailed s u ([0, 0x02, 0x03, 0x09].getD outcome 0))
    ∧ (∀ a b, s.phase = 4 → ∃ u, exec (.bootRomDone true a b) s = .next u ∧ StartFailed s u 0x05)
    ∧ (s.phase = 5 → (∃ u, exec (.stage1Done 1) s = .next u ∧ StartFailed s u 0x04) ∧ ∃ u, exec (.stage1Done 2) s = .next u ∧ StartFailed s u 0x05))
  ∧ (∀ s, s.phase = 3 → registersWf s → rising s.sec.pitches = true →
    ∃ u, exec (.securityPhaseDone 0) s = .next u ∧ u.phase = 4 ∧ u.sec.powered = true ∧ (u.pitchRec 0).hbmKey.isSome = true
      ∧ u.fld Reg.HBM_HASH_KEY_K1 % 2 = 1 ∧ u.fld Reg.HBM_HASH_KEY_K2 % 2 = 1 ∧ u.boot.mismatch = false ∧ u.boot.recordBad = false ∧ workKept s u)
  ∧ (∀ s (a b : Bool), s.phase = 4 → registersWf s → s.fld Reg.STU_STATUS_ACTIVE ≤ 1 → s.fld Reg.STU_FAILED + 1 < ctrMax → s.fld Reg.STU_STATUS_FAILS ≤ 3 →
    let act := s.fld Reg.STU_STATUS_ACTIVE
    let first := if 0 < s.boot.prevFails then 1 - act else act
    let good (k : Nat) : Prop := s.imageFault k (if k = 0 then a else b) = none
    ∃ u, exec (.bootRomDone false a b) s = .next u
      ∧ (good first → u.phase = 5 ∧ u.fld Reg.STU_STATUS_SLOT = first ∧ (u.fwSlot first).state = 4 ∧ workKept s u)
      ∧ (¬ good first → good (1 - first) → u.phase = 5 ∧ u.fld Reg.STU_STATUS_SLOT = 1 - first ∧ (u.fwSlot (1 - first)).state = 4 ∧ workKept s u)
      ∧ (¬ good first → ¬ good (1 - first) → StartFailed s u 0x04))
  ∧ (∀ s, s.phase = 5 → registersWf s →
    ∃ u, exec (.stage1Done 0) s = .next u ∧ u.phase = 6 ∧ u = { s with ctl := u.ctl, evs := u.evs, sec := u.sec } ∧ workKept s u)
  ∧ (∀ s (t : Training), s.phase = 6 → registersWf s → t.dead = [] → t.pins = [] → t.banks = [] → t.engines = [] → t.islands = [] → t.ports = [] →
    64 ≤ s.liveN → 32 ≤ s.fld Reg.SHF_MAP_LIVE_N 0 → 32 ≤ s.fld Reg.SHF_MAP_LIVE_N 1 → (∃ c, c < 16 ∧ s.campFenced c = false) →
    (∀ e, e < 128 → s.fld Reg.FEN_STATE_ENG_STATE e ≠ 2) →
    ∃ u, exec (.trainingDone t) s = .next u ∧ u.phase = 0 ∧ u.powerState = 0 ∧ u.fld Reg.MBX_STATUS_SERVER = 0 ∧ u.fld Reg.STU_STATUS_FAILS = 0
      ∧ u.boot.marker = false ∧ u.fld Reg.HBM_MAP_STATE = 0 ∧ (∀ x, x < 2 ^ 39 → u.byte x = 0) ∧ u.slots = s.slots ∧ u.jobs = s.jobs ∧ u.pegs = s.pegs)
  ∧ (∀ s, s.boot.waiting = true → s.phase = 1 → s.boot.unpowered = false → s.boot.marker = false → registersWf s →
    ∃ u, exec .startRetry s = .next u ∧ holds s u ∧ u.boot.waiting = false ∧ workKept s u)

/-- PWR_EN that rises in STANDBY begins a hold; one that falls takes a running module to STANDBY, or cuts a start short with
FAILS as before it; FLOW_OK that stays low cuts a start back to its hold. The hot-swap controller opens at an input out of
range and at a module's removal, which is a removal of power with the Lantern on its standby rails; an input restored begins
a hold. A removal of power loses what the rails carried. The Lantern powered up takes the lines as they stand. Flash and
fuses keep what they held throughout. -/
def Obligations.TrayLinesAndInputPowerComplete : Prop :=
  (∀ s, s.fld Reg.LNT_STATUS_PWR_EN = 0 → registersWf s →
    (s.phase = 0 → s.powerState = 3 → s.boot.opened = false → s.boot.unpowered = false → s.boot.marker = false →
      ∃ u, exec .pwrEnRise s = .next u ∧ u.fld Reg.LNT_STATUS_PWR_EN = 1 ∧ holds s u ∧ workKept s u)
    ∧ (¬ (s.phase = 0 ∧ s.powerState = 3) →
      ∃ u, exec .pwrEnRise s = .next u ∧ u.fld Reg.LNT_STATUS_PWR_EN = 1 ∧ u = { s with ctl := u.ctl } ∧ ctlKept s u [Reg.LNT_STATUS_PWR_EN.key 0 0])
    ∧ exec .pwrEnFall s = .next s)
  ∧ (∀ s, s.fld Reg.LNT_STATUS_PWR_EN = 1 → s.boot.unpowered = false → registersWf s → s.boot.prevFails ≤ 3 →
    (s.running = true → ∃ u, exec .pwrEnFall s = .next u ∧ u.fld Reg.LNT_STATUS_PWR_EN = 0 ∧ railsGone s u)
    ∧ (s.starting = true → ∃ u, exec .pwrEnFall s = .next u ∧ u.phase = 0 ∧ u.fld Reg.STU_STATUS_FAILS = s.boot.prevFails ∧ railsGone s u)
    ∧ (s.phase = 1 → ∃ u, exec .pwrEnFall s = .next u ∧ u.fld Reg.LNT_STATUS_PWR_EN = 0 ∧ u.phase = 1 ∧ u.boot.held = true ∧ workKept s u))
  ∧ (∀ s, s.power.flowLow = true → s.starting = true → registersWf s → s.boot.prevFails ≤ 3 →
    ∃ u, exec .coolantStop s = .next u ∧ u.phase = 1 ∧ u.fld Reg.STU_STATUS_FAILS = s.boot.prevFails ∧ railsGone s u)
  ∧ (∀ s (mv : BitVec 32) i, s.boot.opened = false → s.boot.unpowered = false →
    (i = .presentNRise ∨ i = .inputOvercurrent ∨ (i = .inputUndervoltage mv ∧ mv.toNat < 47000 ∧ (s.starting = true ∨ s.running = true))
      ∨ (i = .inputOvervoltage mv ∧ 60000 < mv.toNat ∧ mv.toNat ≤ 63000)) →
    ((s.starting = true ∨ s.running = true) → ∃ u, exec i s = .next u ∧ u.boot.opened = true ∧ u.phase = 0 ∧ railsGone s u
      ∧ raised (s.hostOneLost false) u Code.POWER_STATE_CHANGED 0 locLantern (pwrDetail 0 0 3 0))
    ∧ (s.starting = false → s.running = false → exec i s = .next { s with boot := { s.boot with opened := true } }))
  ∧ (∀ s (mv : BitVec 32), 47000 ≤ mv.toNat → exec (.inputUndervoltage mv) s = .next s)
  ∧ (∀ s (mv : BitVec 32), mv.toNat ≤ 60000 → exec (.inputOvervoltage mv) s = .next s)
  ∧ (∀ s, s.boot.opened = true → s.boot.unpowered = false → s.boot.marker = false → registersWf s →
    (s.phase = 0 → ∃ u, exec .inputRestored s = .next u ∧ u.boot.opened = false ∧ holds s u ∧ workKept s u)
    ∧ (s.phase ≠ 0 → exec .inputRestored s = .next { s with boot := { s.boot with opened := false } }))
  ∧ (∀ s, ∃ u, exec .powerRemoved s = .next u ∧ u.boot.unpowered = true ∧ railsGone s u ∧ u.evs = { nextSeq := 1, rings := [] } ∧ u.host = .initial)
  ∧ (∀ s (pwrEn flowOk : Bool), s.boot.unpowered = true → s.boot.marker = false → registersWf s →
    ∃ u, exec (.lanternPowerUp pwrEn flowOk true) s = .next u ∧ u.boot.unpowered = false ∧ u.fld Reg.LNT_STATUS_PWR_EN = ofBool pwrEn
      ∧ u.fld Reg.LNT_STATUS_FLOW_OK = ofBool flowOk ∧ holds s u ∧ workKept s u ∧ u.fld Reg.STU_STARTS = s.fld Reg.STU_STARTS)

/-- A unit being fenced that stands at its point, or whose timeout passes, reads FENCED, hard in the second case, and is
answered. A tick adds 1 to the heartbeat of a camp that runs; a read of the beats by firmware, with no fabric request waiting
to leave, hard-fences no camp that has moved on. An engine's periodic self-test fences it, and its test begins once the fence
is acknowledged; a test passed returns the engine, one failed leaves it fenced with CAUSE 7. A host whose guest streams have
drained gives the tallies back. The first three refusals of a crossing count alone, and the fourth raises CROSSING_PARITY. -/
def Obligations.FencesHeartbeatsAndSelfTestsComplete : Prop :=
  (∀ s (e : Engine) emptied, s.running = true → s.campsGated = false → s.latch (.engine e) = 1 → s.atFencePoint (.engine e) = true → noHeld s → s.host.waits = [] →
    registersWf s → noDeal s (e / 8) → rising s.eng.engs = true →
    (∃ u, exec (.fenceAcknowledged (BitVec.ofNat 32 (locEngine e)) emptied) s = .next u ∧ u.latch (.engine e) = 2 ∧ u.fld Reg.FEN_STATE_ENG_HARD e = 0
      ∧ u.mem = s.mem ∧ (emptied = [] → u.slots = s.slots) ∧ u.jobs = s.jobs)
    ∧ (∃ u, exec (.fenceTimeout (BitVec.ofNat 32 (locEngine e)) emptied) s = .next u ∧ u.latch (.engine e) = 2 ∧ u.fld Reg.FEN_STATE_ENG_HARD e = 1
      ∧ u.mem = s.mem ∧ (emptied = [] → u.slots = s.slots) ∧ u.jobs = s.jobs))
  ∧ (∀ s (e : Engine) (l : Fin 256), s.running = true → s.campsGated = false → s.latch (.lane e l) = 1 → s.atFencePoint (.lane e l) = true → noHeld s →
    s.host.waits = [] → registersWf s → (∀ i, i / 8 = e.val / 8 → s.lanesFenced i < 32) →
    ∃ u, exec (.fenceAcknowledged (BitVec.ofNat 32 (locLane e l)) []) s = .next u ∧ u.latch (.lane e l) = 2 ∧ u.mem = s.mem ∧ u.slots = s.slots ∧ u.eng = s.eng)
  ∧ (∀ s (c : Camp), s.running = true → registersWf s → s.campRuns c = true →
    ∃ u, exec (.heartbeatTick c) s = .next u ∧ u.fld Reg.HB c = (s.fld Reg.HB c + 1) % 2 ^ 32 ∧ u = { s with ctl := u.ctl } ∧ ctlKept s u [Reg.HB.key c 0])
  ∧ (∀ s emptied, noHeld s → (∀ r ∈ s.fab.reqs, r.stage ≠ 0) → (∀ b ∈ s.rel.beats, b.2.2 < 2 ∨ s.fld Reg.HB b.1 ≠ b.2.1) →
    ∃ u, exec (.heartbeatRead emptied) s = .next u ∧ workKept s { u with fab := s.fab } ∧ u.ctl = s.ctl ∧ u.eng = s.eng ∧ u.host.authQuiet = false
      ∧ (s.running = true → s.boot.hand = 0 → ∀ c, c < 16 → s.campRuns c = true → ∃ b ∈ u.rel.beats, b.1 = c ∧ b.2.1 = s.fld Reg.HB c))
  ∧ (∀ s (e : Engine) overdue, s.running = true → s.boot.hand = 0 → s.fld Reg.FEN_CFG_SELFTEST_H ≠ 0 → (∀ t ∈ s.rel.testing, t.1 / 8 ≠ e.val / 8) →
    (s.fld Reg.GOV_PITCH_CFG_REPEAT (s.campPitch (e / 8)) = 0 ∨ overdue = true) → s.latch (.engine e) = 0 → s.campFenced (e / 8) = false →
    registersWf s →
    ∃ u, exec (.selftestPeriodic e overdue) s = .next u ∧ u.latch (.engine e) = 1 ∧ (e.val, true) ∈ u.rel.testing ∧ workKept s u)
  ∧ (∀ s (e : Engine) back, s.running = true → s.boot.hand = 0 → s.rel.testing.find? (fun x => decide (x.1 = e.val)) = some (e.val, back) →
    s.latch (.engine e) = 2 → s.campFenced (e / 8) = false → s.rel.due = [] → noHeld s → s.host.waits = [] → noDeal s (e / 8) → registersWf s →
    rising s.eng.engs = true → (∀ l, l < 256 → s.laneLatch e l = 0) →
    (back = true → ∃ u, exec (.selftestDone (.engine e .pass)) s = .next u ∧ u.latch (.engine e) = 0 ∧ u.fld Reg.FEN_STATE_ENG_CAUSE e = 0 ∧ workKept s u)
    ∧ (∃ u, exec (.selftestDone (.engine e .fail)) s = .next u ∧ u.latch (.engine e) = 2 ∧ u.fld Reg.FEN_STATE_ENG_CAUSE e = 7
      ∧ (∀ t ∈ u.rel.testing, t.1 ≠ e.val) ∧ workKept s u))
  ∧ (∀ s (c : Camp) h, s.rel.moved.find? (fun m => decide (m.1 = c.val)) = some (c.val, h) → s.latch (.camp c) = 0 → s.guestsIdle h = true → s.boot.hand = 0 →
    rising s.sync.tallies = true →
    ∃ u, exec (.guestSlotsDrained c) s = .next u ∧ u.tallyMoved c = false ∧ (∀ t, t < 1024 → u.tally c t = s.tally c t) ∧ u.mem = s.mem ∧ u.slots = s.slots
      ∧ ctlKept s u [Reg.FEN_STATE_CAMP_HOST.key c 0])
  ∧ (∀ s (x : Crossing), s.running = true → registersWf s → s.fld Reg.REL_CROSS + 1 < ctrMax →
    (x.refused.val < 3 → ∃ u, exec (.crossingParityRefusal x) s = .next u ∧ u.fld Reg.REL_CROSS = s.fld Reg.REL_CROSS + 1 ∧ u = { s with ctl := u.ctl }
      ∧ ctlKept s u [Reg.REL_CROSS.key 0 0])
    ∧ (3 ≤ x.refused.val → crossingUnit x = none → x.entry = none →
      ∃ u, exec (.crossingParityRefusal x) s = .next u ∧ u.fld Reg.REL_CROSS = s.fld Reg.REL_CROSS + 1
        ∧ raised s u Code.CROSSING_PARITY 0 locPackage (relDetail 0xFFFF 0 0 0) ∧ u = { s with ctl := u.ctl, evs := u.evs }
        ∧ ctlKept s u [Reg.REL_CROSS.key 0 0]))

/-- The oldest buffered entry that flash accepts leaves the buffer. The first refusal raises SEC_LOG_UNAVAILABLE, and later
ones leave the state. A log-ahead entry that flash accepts lets its change take effect; one that carries no change only
leaves the queue. One refused is taken back with its change, and the number that it had is given again if it was the newest.
Everything outside the security block stays in these forms. -/
def Obligations.EntriesReachFlash : Prop :=
  (∀ s n rest, s.sec.log.buffered = n :: rest → s.sec.powered = true → noHeld s →
    (s.sec.log.later = [] → exec (.logFlush true) s = .next { s with sec := { s.sec with log := { s.sec.log with buffered := rest, refuses := false } } })
    ∧ (s.sec.log.refuses = true → exec (.logFlush false) s = .next s)
    ∧ (s.sec.log.refuses = false → ∃ u, exec (.logFlush false) s = .next u ∧ raised s u Code.SEC_LOG_UNAVAILABLE 0 locSecurity (secDetail 0 0 n)
      ∧ u = { s with evs := u.evs, sec := { s.sec with log := { s.sec.log with refuses := true } } }))
  ∧ (∀ s a rest, s.sec.log.ahead = a :: rest → s.sec.powered = true → noHeld s → registersWf s →
    exec (.logAheadDone true) s = .next ((s.setRefuses false).popAhead.takeEffect a).drain
    ∧ (a.change = .note → a.reply = none →
      (∃ u, exec (.logAheadDone true) s = .next u ∧ u = { s with sec := { s.sec with log := { s.sec.log with ahead := rest, refuses := false } } })
      ∧ (s.logSeq = a.seq + 1 →
        ∃ u, exec (.logAheadDone false) s = .next u ∧ u.sec.log.ahead = rest ∧ u.logSeq = a.seq % 2 ^ 64
          ∧ u.sec.log.entries = s.sec.log.entries.drop 1
          ∧ raised s u Code.SEC_LOG_UNAVAILABLE 0 locSecurity (secDetail (s.entryOf a.seq).pitch 0 a.seq)
          ∧ u = { s with ctl := u.ctl, evs := u.evs, sec := u.sec } ∧ ctlKept s u [Reg.SEC_LOG_SEQ_SEQ.key 0 0])))
  ∧ (∀ s accepted, s.sec.log.ahead = [] → exec (.logAheadDone accepted) s = .next s)

/-- For every statistics counter and member: at its largest value further increments leave the state as it is. Clearing its
SAT bit zeroes the count and the bit. An increment after the clear makes it 1. A counter that saturates again after a clear
reads 0xFFFF_FFFF with SAT set, and raises exactly one further event of its code. -/
def Obligations.CountersSaturateOnce : Prop :=
  ∀ s, registersWf s → ∀ c ∈ Ctr.all, ∀ pitch location inst m, m < c.cnt.members →
    let b := (c.flag m).1
    let k := (c.flag m).2
    let u := s.clearSat c inst m
    (s.fld c.cnt inst m = 0xFFFFFFFF → ∀ n, s.bump c pitch location inst n m = s)
    ∧ u.fld c.cnt inst m = 0 ∧ (u.fld c.sat inst k).testBit b = false
    ∧ (u.bump c pitch location inst 1 m).fld c.cnt inst m = 1
    ∧ ∀ n, 0xFFFFFFFF ≤ n →
        let t := u.bump c pitch location inst n m
        t.fld c.cnt inst m = 0xFFFFFFFF ∧ (t.fld c.sat inst k).testBit b = true ∧ t.evs = s.evs.add c.code (Code.severity c.code) pitch location 0

/-- The tile partial of a row of one tile with a row of another is the exact sum of the products of their integer forms at
positions 0 to 7. Its magnitude is at most 1,800, which two U4 operands reach, at most 1,152 for two E2M1 operands, which
such operands reach, and it fits in 11 bits plus sign. -/
def Obligations.TilePartialsAreExactAndBounded : Prop :=
  (∀ (a b : QTile) i j,
    let p := tilePartial (a.ints i) (b.ints j)
    p = ((List.range 8).map fun k => elemInt a.fmt (a.codes.getD (8 * i + k) 0) * elemInt b.fmt (b.codes.getD (8 * j + k) 0)).sum
      ∧ p.natAbs ≤ 1800 ∧ (a.fmt = 0 → b.fmt = 0 → p.natAbs ≤ 1152) ∧ -2 ^ 11 ≤ p ∧ p < 2 ^ 11)
  ∧ (∃ a b : QTile, a.fmt = 2 ∧ b.fmt = 2 ∧ (∀ c ∈ a.codes ++ b.codes, c < 16) ∧ tilePartial (a.ints 0) (b.ints 0) = 1800)
  ∧ ∃ a b : QTile, a.fmt = 0 ∧ b.fmt = 0 ∧ (∀ c ∈ a.codes ++ b.codes, c < 16) ∧ tilePartial (a.ints 0) (b.ints 0) = 1152

/-- For every command and state: a step of the state with the command at the front of its queue is the command's effect on
the state with the rest of the queue. On an empty queue a step leaves the state (the model's choice, log 1). -/
def Obligations.QueueFrontRunsExec : Prop :=
  (∀ (c : Instr) (s : State), Machine.step (s.withCommand c) = exec c s) ∧ ∀ s : State, s.pending = [] → Machine.step s = .next s

/-- Every command other than an overvoltage event above 63 V answers a next state in every state, never a fault or a refusal,
and leaves the queue of waiting commands as it was. Above 63 V, where the spec promises no behaviour, the answer is the fault
of that name. -/
def Obligations.EveryCommandAnswers : Prop :=
  (∀ (c : Instr) (s : State), (∀ mv, c = .inputOvervoltage mv → mv.toNat ≤ 63000) → ∃ t, exec c s = .next t ∧ t.pending = s.pending)
  ∧ ∀ (mv : BitVec 32) (s : State), 63000 < mv.toNat → exec (.inputOvervoltage mv) s = .fault .overvoltageBeyond63V

/-- From every state in canonical form (bytes and register fields listed in rising order of their addresses, none that stands
at what an unlisted one reads as, and every map by number in rising order of its keys), a step that answers a next state
gives one in canonical form. -/
def Obligations.CanonicalFormIsKept : Prop :=
  ∀ s t : State, Canonical s → Machine.step s = .next t → Canonical t

/-- From every state in which each descriptor in flight has a number of its own, below the number that the next one takes,
and whose slots stand in rising order, a step that answers a next state gives such a state. -/
def Obligations.FlightNumbersStayUnique : Prop :=
  ∀ s t : State, Numbered s → rising s.slots = true → Machine.step s = .next t → Numbered t ∧ rising t.slots = true

/-- The state after reset is in canonical form with memory empty and nothing waiting, its tallies at LIMIT 0xFFFFFFFF and
COUNT 0, and the numbers of descriptors in flight are distinct, there being none. That unwritten memory reads 0 is the
model's choice (log 3). -/
def Obligations.ResetIsCanonical : Prop :=
  Canonical State.reset ∧ Numbered State.reset ∧ State.reset.pending = [] ∧ State.reset.mem = []
    ∧ ∀ c t, State.reset.tally c t = { limit := 0xFFFFFFFF, count := 0 }
end

