-- ==== Sys2Proof/Laws/Map.lean ====
section
/-! SUPPORT. The laws of sparse maps: what a map reads after a write, and that every operation keeps the canonical form. -/
namespace Sys2Proof.Laws

open Sys2Proof Sys2Proof.Machine

variable {β : Type}

@[simp] theorem sget_nil (d : β) (k : Nat) : sget d [] k = d := rfl

theorem sget_cons (d v : β) (k j : Nat) (m : Sparse β) : sget d ((k, v) :: m) j = if k = j then v else sget d m j := rfl

/-- A write leaves every other key alone. -/
theorem sget_sset_ne [DecidableEq β] (d v : β) (m : Sparse β) {k j : Nat} (h : j ≠ k) : sget d (sset d m k v) j = sget d m j := by
  induction m with
  | nil => simp only [sset]; split <;> simp [sget, h.symm]
  | cons c m ih =>
    obtain ⟨a, w⟩ := c
    simp only [sset]
    split
    · split <;> simp [sget, h.symm]
    · split
      · subst k; split <;> simp [sget, h.symm]
      · simp [sget, ih]

/-- A value other than the default is read back. -/
theorem sget_sset_of_ne [DecidableEq β] {d v : β} (m : Sparse β) (k : Nat) (h : v ≠ d) : sget d (sset d m k v) k = v := by
  induction m with
  | nil => simp [sset, h, sget]
  | cons c m ih =>
    obtain ⟨a, w⟩ := c
    simp only [sset, h, if_false]
    split
    · simp [sget]
    · split
      · next e => simp [sget, e]
      · next e => simp [sget, Ne.symm e, ih]

/-- The tail of a rising map rises. -/
theorem rising_tail {c : Nat × β} {m : Sparse β} (h : rising (c :: m) = true) : rising m = true := by
  cases m with
  | nil => rfl
  | cons e m => simp only [rising, Bool.and_eq_true] at h; exact h.2

/-- The first key of a rising map lies below every other. -/
theorem rising_lt {c : Nat × β} {m : Sparse β} (h : rising (c :: m) = true) : ∀ e ∈ m, c.1 < e.1 := by
  induction m generalizing c with
  | nil => simp
  | cons b m ih =>
    simp only [rising, Bool.and_eq_true, decide_eq_true_eq] at h
    intro e he
    rcases List.mem_cons.1 he with rfl | he
    · exact h.1
    · exact Nat.lt_trans h.1 (ih h.2 e he)

/-- A first key below all others, over a rising map. -/
theorem rising_cons {c : Nat × β} {m : Sparse β} (h : rising m = true) (hc : ∀ e ∈ m, c.1 < e.1) : rising (c :: m) = true := by
  cases m with
  | nil => rfl
  | cons b m => simp only [rising, Bool.and_eq_true, decide_eq_true_eq]; exact ⟨hc b (by simp), h⟩

/-- Nothing is listed below the first key of a rising map. -/
theorem sget_eq_default (d : β) {m : Sparse β} {k : Nat} (h : ∀ e ∈ m, k < e.1) : sget d m k = d := by
  induction m with
  | nil => rfl
  | cons c m ih =>
    have : c.1 ≠ k := by have := h c (by simp); omega
    obtain ⟨a, w⟩ := c
    simp only [sget, if_neg this]
    exact ih fun e he => h e (by simp [he])

/-- A write is read back. -/
theorem sget_sset_self [DecidableEq β] (d v : β) {m : Sparse β} (k : Nat) (h : rising m = true) : sget d (sset d m k v) k = v := by
  by_cases hv : v = d
  · subst hv
    induction m with
    | nil => simp [sset]
    | cons c m ih =>
      obtain ⟨a, w⟩ := c
      have hl := rising_lt h
      simp only [sset, if_true]
      split
      · next hk =>
        exact sget_eq_default _ fun e he => by
          rcases List.mem_cons.1 he with rfl | he
          · exact hk
          · exact Nat.lt_trans hk (hl e he)
      · split
        · next e => subst e; exact sget_eq_default _ hl
        · next e => simp [sget, Ne.symm e, ih (rising_tail h)]
  · exact sget_sset_of_ne m k hv

/-- Every key after a write is the key written or one listed before. -/
theorem mem_sset [DecidableEq β] {d v : β} {m : Sparse β} {k : Nat} {e : Nat × β} (h : e ∈ sset d m k v) : e = (k, v) ∧ v ≠ d ∨ e ∈ m := by
  induction m with
  | nil => simp only [sset] at h; split at h <;> simp_all
  | cons c m ih =>
    obtain ⟨a, w⟩ := c
    simp only [sset] at h
    split at h
    · split at h
      · exact .inr h
      · rcases List.mem_cons.1 h with rfl | h
        · exact .inl ⟨rfl, by assumption⟩
        · exact .inr h
    · split at h
      · next e' =>
        split at h
        · exact .inr (by simp [h])
        · rcases List.mem_cons.1 h with rfl | h
          · exact .inl ⟨by rw [e'], by assumption⟩
          · exact .inr (by simp [h])
      · rcases List.mem_cons.1 h with rfl | h
        · exact .inr (by simp)
        · rcases ih h with h | h
          · exact .inl h
          · exact .inr (by simp [h])

/-- A write keeps the keys rising. -/
theorem rising_sset [DecidableEq β] (d v : β) {m : Sparse β} (k : Nat) (h : rising m = true) : rising (sset d m k v) = true := by
  induction m with
  | nil => simp only [sset]; split <;> rfl
  | cons c m ih =>
    obtain ⟨a, w⟩ := c
    have hl := rising_lt h
    have ht := rising_tail h
    simp only [sset]
    split
    · next hk =>
      split
      · exact h
      · exact rising_cons h fun e he => by
          rcases List.mem_cons.1 he with rfl | he
          · exact hk
          · exact Nat.lt_trans hk (hl e he)
    · split
      · split
        · exact ht
        · exact rising_cons ht hl
      · refine rising_cons (ih ht) fun e he => ?_
        rcases mem_sset he with ⟨rfl, _⟩ | he
        · dsimp only; omega
        · exact hl e he

/-- A map in canonical form rises. -/
theorem rising_of_swf [DecidableEq β] {d : β} {m : Sparse β} (h : swf d m = true) : rising m = true := by
  simp only [swf, Bool.and_eq_true] at h; exact h.1

/-- A map in canonical form lists no default. -/
theorem ne_of_swf [DecidableEq β] {d : β} {m : Sparse β} (h : swf d m = true) : ∀ e ∈ m, e.2 ≠ d := by
  simp only [swf, Bool.and_eq_true, List.all_eq_true, decide_eq_true_eq] at h; exact h.2

/-- The canonical form, from its two halves. -/
theorem swf_intro [DecidableEq β] {d : β} {m : Sparse β} (h : rising m = true) (g : ∀ e ∈ m, e.2 ≠ d) : swf d m = true := by
  simp only [swf, Bool.and_eq_true, List.all_eq_true, decide_eq_true_eq]; exact ⟨h, g⟩

@[simp] theorem swf_nil [DecidableEq β] (d : β) : swf d [] = true := rfl

/-- A write keeps the canonical form. -/
@[simp] theorem swf_sset [DecidableEq β] {d : β} (v : β) {m : Sparse β} (k : Nat) (h : swf d m = true) : swf d (sset d m k v) = true := by
  refine swf_intro (rising_sset d v k (rising_of_swf h)) fun e he => ?_
  rcases mem_sset he with ⟨rfl, hv⟩ | he
  · exact hv
  · exact ne_of_swf h e he

/-- Listing fewer entries keeps the keys rising. -/
theorem rising_filter (f : Nat × β → Bool) {m : Sparse β} (h : rising m = true) : rising (m.filter f) = true := by
  induction m with
  | nil => rfl
  | cons c m ih =>
    have hl := rising_lt h
    simp only [List.filter]
    split
    · exact rising_cons (ih (rising_tail h)) fun e he => hl e (List.mem_filter.1 he).1
    · exact ih (rising_tail h)

/-- Listing fewer entries keeps the canonical form. -/
@[simp] theorem swf_filter [DecidableEq β] {d : β} (f : Nat × β → Bool) {m : Sparse β} (h : swf d m = true) : swf d (m.filter f) = true :=
  swf_intro (rising_filter f (rising_of_swf h)) fun e he => ne_of_swf h e (List.mem_filter.1 he).1

/-- Clearing a range keeps the canonical form. -/
@[simp] theorem swf_sclear [DecidableEq β] {d : β} (lo hi : Nat) {m : Sparse β} (h : swf d m = true) : swf d (sclear lo hi m) = true := by
  simp only [sclear]; exact swf_filter _ h

/-- What a cleared range reads as. -/
theorem sget_sclear (d : β) (lo hi : Nat) (m : Sparse β) (k : Nat) :
    sget d (sclear lo hi m) k = if lo ≤ k ∧ k < hi then d else sget d m k := by
  induction m with
  | nil => simp [sclear]
  | cons c m ih =>
    obtain ⟨a, w⟩ := c
    simp only [sclear] at ih ⊢
    simp only [List.filter]
    by_cases hin : lo ≤ a ∧ a < hi
    · simp only [hin.1, hin.2, decide_true, Bool.and_self, Bool.not_true, ih]
      by_cases hk : a = k
      · subst hk; simp [hin]
      · simp [sget, hk]
    · have : (!(decide (lo ≤ a) && decide (a < hi))) = true := by simp; omega
      simp only [this, sget, ih]
      by_cases hk : a = k
      · subst hk; simp [hin]
      · simp [hk]

/-! Memory. -/

/-- Storing bytes keeps the canonical form. -/
@[simp] theorem swf_writeBytes {m : Sparse Byte} (bs : Bytes) (a : Nat) (h : swf 0#8 m = true) : swf 0#8 (writeBytes m a bs) = true := by
  induction bs generalizing m a with
  | nil => exact h
  | cons b bs ih => exact ih (a + 1) (swf_sset _ a h)

/-- Storing bytes leaves every address outside them alone. -/
theorem sget_writeBytes_ne (m : Sparse Byte) (bs : Bytes) (a x : Nat) (h : x < a ∨ a + bs.length ≤ x) :
    sget 0#8 (writeBytes m a bs) x = sget 0#8 m x := by
  induction bs generalizing m a with
  | nil => rfl
  | cons b bs ih =>
    simp only [writeBytes, List.length_cons] at h ⊢
    rw [ih _ (a + 1) (by omega), sget_sset_ne _ _ _ (by omega)]

/-- Bytes stored are read back, each as a byte. -/
theorem sget_writeBytes_mem {m : Sparse Byte} (hm : rising m = true) (bs : Bytes) (a i : Nat) (h : i < bs.length) :
    sget 0#8 (writeBytes m a bs) (a + i) = BitVec.ofNat 8 (bs.getD i 0) := by
  induction bs generalizing m a i with
  | nil => simp at h
  | cons b bs ih =>
    simp only [writeBytes]
    cases i with
    | zero => rw [sget_writeBytes_ne _ _ _ _ (by omega)]; simp [sget_sset_self _ _ _ hm]
    | succ i =>
      have := ih (rising_sset 0#8 (BitVec.ofNat 8 b) a hm) (a + 1) i (by simpa using h)
      simpa [Nat.add_assoc, Nat.add_comm 1 i] using this

end Sys2Proof.Laws
end

