-- ==== Sys2Proof/Laws/Fields.lean ====
section
/-! SUPPORT. The laws of register fields: what a field reads after a write, which fields share storage, counters and events. -/
namespace Sys2Proof.Laws

open Sys2Proof Sys2Proof.Machine

/-- Two fields that do not lie at one key. -/
theorem fld_setFld_ne (s : State) (f g : Fld) (v i m j n : Nat) (h : g.key j n ≠ f.key i m) : (s.setFld f v i m).fld g j n = s.fld g j n := by
  simp only [State.fld, State.setFld]
  rw [sget_sset_ne _ _ _ h]

/-- A field written reads as what was written, as far as it is wide. -/
theorem fld_setFld_self (s : State) (f : Fld) (v i m : Nat) (h : rising s.ctl = true) : (s.setFld f v i m).fld f i m = v % 2 ^ f.width := by
  simp only [State.fld, State.setFld]
  rw [sget_sset_self _ _ _ h, Nat.xor_assoc, Nat.xor_self, Nat.xor_zero]

/-- A field write keeps every other key. -/
theorem ctl_setFld_ne (s : State) (f : Fld) (v i m k : Nat) (h : k ≠ f.key i m) : sget 0 (s.setFld f v i m).ctl k = sget 0 s.ctl k := by
  simp only [State.setFld]
  rw [sget_sset_ne _ _ _ h]

/-- A field read depends on the register fields alone. -/
theorem fld_congr {s t : State} (h : t.ctl = s.ctl) (f : Fld) (i m : Nat) : t.fld f i m = s.fld f i m := by
  simp only [State.fld, h]

@[simp] theorem setFld_ctl_wf {s : State} (f : Fld) (v i m : Nat) (h : swf 0 s.ctl = true) : swf 0 (s.setFld f v i m).ctl = true := by
  simp only [State.setFld]; exact swf_sset _ _ h

@[simp] theorem resetBlock_ctl_wf {s : State} (b i : Nat) (h : swf 0 s.ctl = true) : swf 0 (s.resetBlock b i).ctl = true := by
  simp only [State.resetBlock]; exact swf_sclear _ _ h

@[simp] theorem store_mem_wf {s : State} (a : Nat) (bs : Bytes) (h : swf 0#8 s.mem = true) : swf 0#8 (s.store a bs).mem = true := by
  simp only [State.store]; exact swf_writeBytes _ _ h

@[simp] theorem zero_mem_wf {s : State} (lo hi : Nat) (h : swf 0#8 s.mem = true) : swf 0#8 (s.zero lo hi).mem = true := by
  simp only [State.zero]; exact swf_sclear _ _ h

end Sys2Proof.Laws
end

