-- ==== Sys2Proof/Laws/State.lean ====
section
/-! SUPPORT. What each named update of the state leaves alone: one lemma per field per update. -/
namespace Sys2Proof.Laws

open Sys2Proof Sys2Proof.Machine

variable (s : State)

@[simp] theorem setFld_pending (f : Fld) (v i m : Nat) : (s.setFld f v i m).pending = s.pending := rfl
@[simp] theorem setFld_fresh (f : Fld) (v i m : Nat) : (s.setFld f v i m).fresh = s.fresh := rfl
@[simp] theorem setFld_mem (f : Fld) (v i m : Nat) : (s.setFld f v i m).mem = s.mem := rfl
@[simp] theorem setFld_evs (f : Fld) (v i m : Nat) : (s.setFld f v i m).evs = s.evs := rfl
@[simp] theorem setFld_out (f : Fld) (v i m : Nat) : (s.setFld f v i m).out = s.out := rfl
@[simp] theorem setFld_host (f : Fld) (v i m : Nat) : (s.setFld f v i m).host = s.host := rfl
@[simp] theorem setFld_sec (f : Fld) (v i m : Nat) : (s.setFld f v i m).sec = s.sec := rfl
@[simp] theorem setFld_ras (f : Fld) (v i m : Nat) : (s.setFld f v i m).ras = s.ras := rfl
@[simp] theorem setFld_sync (f : Fld) (v i m : Nat) : (s.setFld f v i m).sync = s.sync := rfl
@[simp] theorem setFld_fab (f : Fld) (v i m : Nat) : (s.setFld f v i m).fab = s.fab := rfl
@[simp] theorem setFld_power (f : Fld) (v i m : Nat) : (s.setFld f v i m).power = s.power := rfl
@[simp] theorem setFld_boot (f : Fld) (v i m : Nat) : (s.setFld f v i m).boot = s.boot := rfl
@[simp] theorem setFld_slots (f : Fld) (v i m : Nat) : (s.setFld f v i m).slots = s.slots := rfl
@[simp] theorem setFld_pegs (f : Fld) (v i m : Nat) : (s.setFld f v i m).pegs = s.pegs := rfl
@[simp] theorem setFld_rems (f : Fld) (v i m : Nat) : (s.setFld f v i m).rems = s.rems := rfl
@[simp] theorem setFld_jobs (f : Fld) (v i m : Nat) : (s.setFld f v i m).jobs = s.jobs := rfl
@[simp] theorem setFld_commits (f : Fld) (v i m : Nat) : (s.setFld f v i m).commits = s.commits := rfl
@[simp] theorem setFld_issued (f : Fld) (v i m : Nat) : (s.setFld f v i m).issued = s.issued := rfl
@[simp] theorem setFld_eng (f : Fld) (v i m : Nat) : (s.setFld f v i m).eng = s.eng := rfl
@[simp] theorem setFld_rel (f : Fld) (v i m : Nat) : (s.setFld f v i m).rel = s.rel := rfl

@[simp] theorem accum_pending (f : Fld) (n i : Nat) : (s.accum f n i).pending = s.pending := rfl
@[simp] theorem accum_fresh (f : Fld) (n i : Nat) : (s.accum f n i).fresh = s.fresh := rfl
@[simp] theorem accum_mem (f : Fld) (n i : Nat) : (s.accum f n i).mem = s.mem := rfl
@[simp] theorem accum_evs (f : Fld) (n i : Nat) : (s.accum f n i).evs = s.evs := rfl
@[simp] theorem accum_out (f : Fld) (n i : Nat) : (s.accum f n i).out = s.out := rfl
@[simp] theorem accum_host (f : Fld) (n i : Nat) : (s.accum f n i).host = s.host := rfl
@[simp] theorem accum_sec (f : Fld) (n i : Nat) : (s.accum f n i).sec = s.sec := rfl
@[simp] theorem accum_ras (f : Fld) (n i : Nat) : (s.accum f n i).ras = s.ras := rfl
@[simp] theorem accum_sync (f : Fld) (n i : Nat) : (s.accum f n i).sync = s.sync := rfl
@[simp] theorem accum_fab (f : Fld) (n i : Nat) : (s.accum f n i).fab = s.fab := rfl
@[simp] theorem accum_power (f : Fld) (n i : Nat) : (s.accum f n i).power = s.power := rfl
@[simp] theorem accum_boot (f : Fld) (n i : Nat) : (s.accum f n i).boot = s.boot := rfl
@[simp] theorem accum_slots (f : Fld) (n i : Nat) : (s.accum f n i).slots = s.slots := rfl
@[simp] theorem accum_pegs (f : Fld) (n i : Nat) : (s.accum f n i).pegs = s.pegs := rfl
@[simp] theorem accum_rems (f : Fld) (n i : Nat) : (s.accum f n i).rems = s.rems := rfl
@[simp] theorem accum_jobs (f : Fld) (n i : Nat) : (s.accum f n i).jobs = s.jobs := rfl
@[simp] theorem accum_commits (f : Fld) (n i : Nat) : (s.accum f n i).commits = s.commits := rfl
@[simp] theorem accum_issued (f : Fld) (n i : Nat) : (s.accum f n i).issued = s.issued := rfl
@[simp] theorem accum_eng (f : Fld) (n i : Nat) : (s.accum f n i).eng = s.eng := rfl
@[simp] theorem accum_rel (f : Fld) (n i : Nat) : (s.accum f n i).rel = s.rel := rfl

@[simp] theorem resetBlock_pending (b i : Nat) : (s.resetBlock b i).pending = s.pending := rfl
@[simp] theorem resetBlock_fresh (b i : Nat) : (s.resetBlock b i).fresh = s.fresh := rfl
@[simp] theorem resetBlock_mem (b i : Nat) : (s.resetBlock b i).mem = s.mem := rfl
@[simp] theorem resetBlock_evs (b i : Nat) : (s.resetBlock b i).evs = s.evs := rfl
@[simp] theorem resetBlock_out (b i : Nat) : (s.resetBlock b i).out = s.out := rfl
@[simp] theorem resetBlock_host (b i : Nat) : (s.resetBlock b i).host = s.host := rfl
@[simp] theorem resetBlock_sec (b i : Nat) : (s.resetBlock b i).sec = s.sec := rfl
@[simp] theorem resetBlock_ras (b i : Nat) : (s.resetBlock b i).ras = s.ras := rfl
@[simp] theorem resetBlock_sync (b i : Nat) : (s.resetBlock b i).sync = s.sync := rfl
@[simp] theorem resetBlock_fab (b i : Nat) : (s.resetBlock b i).fab = s.fab := rfl
@[simp] theorem resetBlock_power (b i : Nat) : (s.resetBlock b i).power = s.power := rfl
@[simp] theorem resetBlock_boot (b i : Nat) : (s.resetBlock b i).boot = s.boot := rfl
@[simp] theorem resetBlock_slots (b i : Nat) : (s.resetBlock b i).slots = s.slots := rfl
@[simp] theorem resetBlock_pegs (b i : Nat) : (s.resetBlock b i).pegs = s.pegs := rfl
@[simp] theorem resetBlock_rems (b i : Nat) : (s.resetBlock b i).rems = s.rems := rfl
@[simp] theorem resetBlock_jobs (b i : Nat) : (s.resetBlock b i).jobs = s.jobs := rfl
@[simp] theorem resetBlock_commits (b i : Nat) : (s.resetBlock b i).commits = s.commits := rfl
@[simp] theorem resetBlock_issued (b i : Nat) : (s.resetBlock b i).issued = s.issued := rfl
@[simp] theorem resetBlock_eng (b i : Nat) : (s.resetBlock b i).eng = s.eng := rfl
@[simp] theorem resetBlock_rel (b i : Nat) : (s.resetBlock b i).rel = s.rel := rfl

@[simp] theorem store_pending (a : Nat) (bs : Bytes) : (s.store a bs).pending = s.pending := rfl
@[simp] theorem store_fresh (a : Nat) (bs : Bytes) : (s.store a bs).fresh = s.fresh := rfl
@[simp] theorem store_ctl (a : Nat) (bs : Bytes) : (s.store a bs).ctl = s.ctl := rfl
@[simp] theorem store_evs (a : Nat) (bs : Bytes) : (s.store a bs).evs = s.evs := rfl
@[simp] theorem store_out (a : Nat) (bs : Bytes) : (s.store a bs).out = s.out := rfl
@[simp] theorem store_host (a : Nat) (bs : Bytes) : (s.store a bs).host = s.host := rfl
@[simp] theorem store_sec (a : Nat) (bs : Bytes) : (s.store a bs).sec = s.sec := rfl
@[simp] theorem store_ras (a : Nat) (bs : Bytes) : (s.store a bs).ras = s.ras := rfl
@[simp] theorem store_sync (a : Nat) (bs : Bytes) : (s.store a bs).sync = s.sync := rfl
@[simp] theorem store_fab (a : Nat) (bs : Bytes) : (s.store a bs).fab = s.fab := rfl
@[simp] theorem store_power (a : Nat) (bs : Bytes) : (s.store a bs).power = s.power := rfl
@[simp] theorem store_boot (a : Nat) (bs : Bytes) : (s.store a bs).boot = s.boot := rfl
@[simp] theorem store_slots (a : Nat) (bs : Bytes) : (s.store a bs).slots = s.slots := rfl
@[simp] theorem store_pegs (a : Nat) (bs : Bytes) : (s.store a bs).pegs = s.pegs := rfl
@[simp] theorem store_rems (a : Nat) (bs : Bytes) : (s.store a bs).rems = s.rems := rfl
@[simp] theorem store_jobs (a : Nat) (bs : Bytes) : (s.store a bs).jobs = s.jobs := rfl
@[simp] theorem store_commits (a : Nat) (bs : Bytes) : (s.store a bs).commits = s.commits := rfl
@[simp] theorem store_issued (a : Nat) (bs : Bytes) : (s.store a bs).issued = s.issued := rfl
@[simp] theorem store_eng (a : Nat) (bs : Bytes) : (s.store a bs).eng = s.eng := rfl
@[simp] theorem store_rel (a : Nat) (bs : Bytes) : (s.store a bs).rel = s.rel := rfl

@[simp] theorem zero_pending (lo hi : Nat) : (s.zero lo hi).pending = s.pending := rfl
@[simp] theorem zero_fresh (lo hi : Nat) : (s.zero lo hi).fresh = s.fresh := rfl
@[simp] theorem zero_ctl (lo hi : Nat) : (s.zero lo hi).ctl = s.ctl := rfl
@[simp] theorem zero_evs (lo hi : Nat) : (s.zero lo hi).evs = s.evs := rfl
@[simp] theorem zero_out (lo hi : Nat) : (s.zero lo hi).out = s.out := rfl
@[simp] theorem zero_host (lo hi : Nat) : (s.zero lo hi).host = s.host := rfl
@[simp] theorem zero_sec (lo hi : Nat) : (s.zero lo hi).sec = s.sec := rfl
@[simp] theorem zero_ras (lo hi : Nat) : (s.zero lo hi).ras = s.ras := rfl
@[simp] theorem zero_sync (lo hi : Nat) : (s.zero lo hi).sync = s.sync := rfl
@[simp] theorem zero_fab (lo hi : Nat) : (s.zero lo hi).fab = s.fab := rfl
@[simp] theorem zero_power (lo hi : Nat) : (s.zero lo hi).power = s.power := rfl
@[simp] theorem zero_boot (lo hi : Nat) : (s.zero lo hi).boot = s.boot := rfl
@[simp] theorem zero_slots (lo hi : Nat) : (s.zero lo hi).slots = s.slots := rfl
@[simp] theorem zero_pegs (lo hi : Nat) : (s.zero lo hi).pegs = s.pegs := rfl
@[simp] theorem zero_rems (lo hi : Nat) : (s.zero lo hi).rems = s.rems := rfl
@[simp] theorem zero_jobs (lo hi : Nat) : (s.zero lo hi).jobs = s.jobs := rfl
@[simp] theorem zero_commits (lo hi : Nat) : (s.zero lo hi).commits = s.commits := rfl
@[simp] theorem zero_issued (lo hi : Nat) : (s.zero lo hi).issued = s.issued := rfl
@[simp] theorem zero_eng (lo hi : Nat) : (s.zero lo hi).eng = s.eng := rfl
@[simp] theorem zero_rel (lo hi : Nat) : (s.zero lo hi).rel = s.rel := rfl

@[simp] theorem event_pending (code p loc detail : Nat) : (s.event code p loc detail).pending = s.pending := rfl
@[simp] theorem event_fresh (code p loc detail : Nat) : (s.event code p loc detail).fresh = s.fresh := rfl
@[simp] theorem event_ctl (code p loc detail : Nat) : (s.event code p loc detail).ctl = s.ctl := rfl
@[simp] theorem event_mem (code p loc detail : Nat) : (s.event code p loc detail).mem = s.mem := rfl
@[simp] theorem event_out (code p loc detail : Nat) : (s.event code p loc detail).out = s.out := rfl
@[simp] theorem event_host (code p loc detail : Nat) : (s.event code p loc detail).host = s.host := rfl
@[simp] theorem event_sec (code p loc detail : Nat) : (s.event code p loc detail).sec = s.sec := rfl
@[simp] theorem event_ras (code p loc detail : Nat) : (s.event code p loc detail).ras = s.ras := rfl
@[simp] theorem event_sync (code p loc detail : Nat) : (s.event code p loc detail).sync = s.sync := rfl
@[simp] theorem event_fab (code p loc detail : Nat) : (s.event code p loc detail).fab = s.fab := rfl
@[simp] theorem event_power (code p loc detail : Nat) : (s.event code p loc detail).power = s.power := rfl
@[simp] theorem event_boot (code p loc detail : Nat) : (s.event code p loc detail).boot = s.boot := rfl
@[simp] theorem event_slots (code p loc detail : Nat) : (s.event code p loc detail).slots = s.slots := rfl
@[simp] theorem event_pegs (code p loc detail : Nat) : (s.event code p loc detail).pegs = s.pegs := rfl
@[simp] theorem event_rems (code p loc detail : Nat) : (s.event code p loc detail).rems = s.rems := rfl
@[simp] theorem event_jobs (code p loc detail : Nat) : (s.event code p loc detail).jobs = s.jobs := rfl
@[simp] theorem event_commits (code p loc detail : Nat) : (s.event code p loc detail).commits = s.commits := rfl
@[simp] theorem event_issued (code p loc detail : Nat) : (s.event code p loc detail).issued = s.issued := rfl
@[simp] theorem event_eng (code p loc detail : Nat) : (s.event code p loc detail).eng = s.eng := rfl
@[simp] theorem event_rel (code p loc detail : Nat) : (s.event code p loc detail).rel = s.rel := rfl

@[simp] theorem send_pending (o : Out) : (s.send o).pending = s.pending := rfl
@[simp] theorem send_fresh (o : Out) : (s.send o).fresh = s.fresh := rfl
@[simp] theorem send_ctl (o : Out) : (s.send o).ctl = s.ctl := rfl
@[simp] theorem send_mem (o : Out) : (s.send o).mem = s.mem := rfl
@[simp] theorem send_evs (o : Out) : (s.send o).evs = s.evs := rfl
@[simp] theorem send_host (o : Out) : (s.send o).host = s.host := rfl
@[simp] theorem send_sec (o : Out) : (s.send o).sec = s.sec := rfl
@[simp] theorem send_ras (o : Out) : (s.send o).ras = s.ras := rfl
@[simp] theorem send_sync (o : Out) : (s.send o).sync = s.sync := rfl
@[simp] theorem send_fab (o : Out) : (s.send o).fab = s.fab := rfl
@[simp] theorem send_power (o : Out) : (s.send o).power = s.power := rfl
@[simp] theorem send_boot (o : Out) : (s.send o).boot = s.boot := rfl
@[simp] theorem send_slots (o : Out) : (s.send o).slots = s.slots := rfl
@[simp] theorem send_pegs (o : Out) : (s.send o).pegs = s.pegs := rfl
@[simp] theorem send_rems (o : Out) : (s.send o).rems = s.rems := rfl
@[simp] theorem send_jobs (o : Out) : (s.send o).jobs = s.jobs := rfl
@[simp] theorem send_commits (o : Out) : (s.send o).commits = s.commits := rfl
@[simp] theorem send_issued (o : Out) : (s.send o).issued = s.issued := rfl
@[simp] theorem send_eng (o : Out) : (s.send o).eng = s.eng := rfl
@[simp] theorem send_rel (o : Out) : (s.send o).rel = s.rel := rfl

@[simp] theorem withPower_pending (p : Power) : (s.withPower p).pending = s.pending := rfl
@[simp] theorem withPower_fresh (p : Power) : (s.withPower p).fresh = s.fresh := rfl
@[simp] theorem withPower_ctl (p : Power) : (s.withPower p).ctl = s.ctl := rfl
@[simp] theorem withPower_mem (p : Power) : (s.withPower p).mem = s.mem := rfl
@[simp] theorem withPower_evs (p : Power) : (s.withPower p).evs = s.evs := rfl
@[simp] theorem withPower_out (p : Power) : (s.withPower p).out = s.out := rfl
@[simp] theorem withPower_host (p : Power) : (s.withPower p).host = s.host := rfl
@[simp] theorem withPower_sec (p : Power) : (s.withPower p).sec = s.sec := rfl
@[simp] theorem withPower_ras (p : Power) : (s.withPower p).ras = s.ras := rfl
@[simp] theorem withPower_sync (p : Power) : (s.withPower p).sync = s.sync := rfl
@[simp] theorem withPower_fab (p : Power) : (s.withPower p).fab = s.fab := rfl
@[simp] theorem withPower_boot (p : Power) : (s.withPower p).boot = s.boot := rfl
@[simp] theorem withPower_slots (p : Power) : (s.withPower p).slots = s.slots := rfl
@[simp] theorem withPower_pegs (p : Power) : (s.withPower p).pegs = s.pegs := rfl
@[simp] theorem withPower_rems (p : Power) : (s.withPower p).rems = s.rems := rfl
@[simp] theorem withPower_jobs (p : Power) : (s.withPower p).jobs = s.jobs := rfl
@[simp] theorem withPower_commits (p : Power) : (s.withPower p).commits = s.commits := rfl
@[simp] theorem withPower_issued (p : Power) : (s.withPower p).issued = s.issued := rfl
@[simp] theorem withPower_eng (p : Power) : (s.withPower p).eng = s.eng := rfl
@[simp] theorem withPower_rel (p : Power) : (s.withPower p).rel = s.rel := rfl

@[simp] theorem setSlot_pending (k : Nat) (x : StreamSlot) : (s.setSlot k x).pending = s.pending := rfl
@[simp] theorem setSlot_fresh (k : Nat) (x : StreamSlot) : (s.setSlot k x).fresh = s.fresh := rfl
@[simp] theorem setSlot_ctl (k : Nat) (x : StreamSlot) : (s.setSlot k x).ctl = s.ctl := rfl
@[simp] theorem setSlot_mem (k : Nat) (x : StreamSlot) : (s.setSlot k x).mem = s.mem := rfl
@[simp] theorem setSlot_evs (k : Nat) (x : StreamSlot) : (s.setSlot k x).evs = s.evs := rfl
@[simp] theorem setSlot_out (k : Nat) (x : StreamSlot) : (s.setSlot k x).out = s.out := rfl
@[simp] theorem setSlot_host (k : Nat) (x : StreamSlot) : (s.setSlot k x).host = s.host := rfl
@[simp] theorem setSlot_sec (k : Nat) (x : StreamSlot) : (s.setSlot k x).sec = s.sec := rfl
@[simp] theorem setSlot_ras (k : Nat) (x : StreamSlot) : (s.setSlot k x).ras = s.ras := rfl
@[simp] theorem setSlot_sync (k : Nat) (x : StreamSlot) : (s.setSlot k x).sync = s.sync := rfl
@[simp] theorem setSlot_fab (k : Nat) (x : StreamSlot) : (s.setSlot k x).fab = s.fab := rfl
@[simp] theorem setSlot_power (k : Nat) (x : StreamSlot) : (s.setSlot k x).power = s.power := rfl
@[simp] theorem setSlot_boot (k : Nat) (x : StreamSlot) : (s.setSlot k x).boot = s.boot := rfl
@[simp] theorem setSlot_pegs (k : Nat) (x : StreamSlot) : (s.setSlot k x).pegs = s.pegs := rfl
@[simp] theorem setSlot_rems (k : Nat) (x : StreamSlot) : (s.setSlot k x).rems = s.rems := rfl
@[simp] theorem setSlot_jobs (k : Nat) (x : StreamSlot) : (s.setSlot k x).jobs = s.jobs := rfl
@[simp] theorem setSlot_commits (k : Nat) (x : StreamSlot) : (s.setSlot k x).commits = s.commits := rfl
@[simp] theorem setSlot_issued (k : Nat) (x : StreamSlot) : (s.setSlot k x).issued = s.issued := rfl
@[simp] theorem setSlot_eng (k : Nat) (x : StreamSlot) : (s.setSlot k x).eng = s.eng := rfl
@[simp] theorem setSlot_rel (k : Nat) (x : StreamSlot) : (s.setSlot k x).rel = s.rel := rfl

@[simp] theorem setPeg_pending (k : Nat) (x : PegRec) : (s.setPeg k x).pending = s.pending := rfl
@[simp] theorem setPeg_fresh (k : Nat) (x : PegRec) : (s.setPeg k x).fresh = s.fresh := rfl
@[simp] theorem setPeg_ctl (k : Nat) (x : PegRec) : (s.setPeg k x).ctl = s.ctl := rfl
@[simp] theorem setPeg_mem (k : Nat) (x : PegRec) : (s.setPeg k x).mem = s.mem := rfl
@[simp] theorem setPeg_evs (k : Nat) (x : PegRec) : (s.setPeg k x).evs = s.evs := rfl
@[simp] theorem setPeg_out (k : Nat) (x : PegRec) : (s.setPeg k x).out = s.out := rfl
@[simp] theorem setPeg_host (k : Nat) (x : PegRec) : (s.setPeg k x).host = s.host := rfl
@[simp] theorem setPeg_sec (k : Nat) (x : PegRec) : (s.setPeg k x).sec = s.sec := rfl
@[simp] theorem setPeg_ras (k : Nat) (x : PegRec) : (s.setPeg k x).ras = s.ras := rfl
@[simp] theorem setPeg_sync (k : Nat) (x : PegRec) : (s.setPeg k x).sync = s.sync := rfl
@[simp] theorem setPeg_fab (k : Nat) (x : PegRec) : (s.setPeg k x).fab = s.fab := rfl
@[simp] theorem setPeg_power (k : Nat) (x : PegRec) : (s.setPeg k x).power = s.power := rfl
@[simp] theorem setPeg_boot (k : Nat) (x : PegRec) : (s.setPeg k x).boot = s.boot := rfl
@[simp] theorem setPeg_slots (k : Nat) (x : PegRec) : (s.setPeg k x).slots = s.slots := rfl
@[simp] theorem setPeg_rems (k : Nat) (x : PegRec) : (s.setPeg k x).rems = s.rems := rfl
@[simp] theorem setPeg_jobs (k : Nat) (x : PegRec) : (s.setPeg k x).jobs = s.jobs := rfl
@[simp] theorem setPeg_commits (k : Nat) (x : PegRec) : (s.setPeg k x).commits = s.commits := rfl
@[simp] theorem setPeg_issued (k : Nat) (x : PegRec) : (s.setPeg k x).issued = s.issued := rfl
@[simp] theorem setPeg_eng (k : Nat) (x : PegRec) : (s.setPeg k x).eng = s.eng := rfl
@[simp] theorem setPeg_rel (k : Nat) (x : PegRec) : (s.setPeg k x).rel = s.rel := rfl

@[simp] theorem setGuy_pending (k : Nat) (x : GuyRec) : (s.setGuy k x).pending = s.pending := rfl
@[simp] theorem setGuy_fresh (k : Nat) (x : GuyRec) : (s.setGuy k x).fresh = s.fresh := rfl
@[simp] theorem setGuy_ctl (k : Nat) (x : GuyRec) : (s.setGuy k x).ctl = s.ctl := rfl
@[simp] theorem setGuy_mem (k : Nat) (x : GuyRec) : (s.setGuy k x).mem = s.mem := rfl
@[simp] theorem setGuy_evs (k : Nat) (x : GuyRec) : (s.setGuy k x).evs = s.evs := rfl
@[simp] theorem setGuy_out (k : Nat) (x : GuyRec) : (s.setGuy k x).out = s.out := rfl
@[simp] theorem setGuy_host (k : Nat) (x : GuyRec) : (s.setGuy k x).host = s.host := rfl
@[simp] theorem setGuy_sec (k : Nat) (x : GuyRec) : (s.setGuy k x).sec = s.sec := rfl
@[simp] theorem setGuy_ras (k : Nat) (x : GuyRec) : (s.setGuy k x).ras = s.ras := rfl
@[simp] theorem setGuy_fab (k : Nat) (x : GuyRec) : (s.setGuy k x).fab = s.fab := rfl
@[simp] theorem setGuy_power (k : Nat) (x : GuyRec) : (s.setGuy k x).power = s.power := rfl
@[simp] theorem setGuy_boot (k : Nat) (x : GuyRec) : (s.setGuy k x).boot = s.boot := rfl
@[simp] theorem setGuy_slots (k : Nat) (x : GuyRec) : (s.setGuy k x).slots = s.slots := rfl
@[simp] theorem setGuy_pegs (k : Nat) (x : GuyRec) : (s.setGuy k x).pegs = s.pegs := rfl
@[simp] theorem setGuy_rems (k : Nat) (x : GuyRec) : (s.setGuy k x).rems = s.rems := rfl
@[simp] theorem setGuy_jobs (k : Nat) (x : GuyRec) : (s.setGuy k x).jobs = s.jobs := rfl
@[simp] theorem setGuy_commits (k : Nat) (x : GuyRec) : (s.setGuy k x).commits = s.commits := rfl
@[simp] theorem setGuy_issued (k : Nat) (x : GuyRec) : (s.setGuy k x).issued = s.issued := rfl
@[simp] theorem setGuy_eng (k : Nat) (x : GuyRec) : (s.setGuy k x).eng = s.eng := rfl
@[simp] theorem setGuy_rel (k : Nat) (x : GuyRec) : (s.setGuy k x).rel = s.rel := rfl

@[simp] theorem setTally_pending (c t : Nat) (w : Tally) : (s.setTally c t w).pending = s.pending := rfl
@[simp] theorem setTally_fresh (c t : Nat) (w : Tally) : (s.setTally c t w).fresh = s.fresh := rfl
@[simp] theorem setTally_ctl (c t : Nat) (w : Tally) : (s.setTally c t w).ctl = s.ctl := rfl
@[simp] theorem setTally_mem (c t : Nat) (w : Tally) : (s.setTally c t w).mem = s.mem := rfl
@[simp] theorem setTally_evs (c t : Nat) (w : Tally) : (s.setTally c t w).evs = s.evs := rfl
@[simp] theorem setTally_out (c t : Nat) (w : Tally) : (s.setTally c t w).out = s.out := rfl
@[simp] theorem setTally_host (c t : Nat) (w : Tally) : (s.setTally c t w).host = s.host := rfl
@[simp] theorem setTally_sec (c t : Nat) (w : Tally) : (s.setTally c t w).sec = s.sec := rfl
@[simp] theorem setTally_ras (c t : Nat) (w : Tally) : (s.setTally c t w).ras = s.ras := rfl
@[simp] theorem setTally_fab (c t : Nat) (w : Tally) : (s.setTally c t w).fab = s.fab := rfl
@[simp] theorem setTally_power (c t : Nat) (w : Tally) : (s.setTally c t w).power = s.power := rfl
@[simp] theorem setTally_boot (c t : Nat) (w : Tally) : (s.setTally c t w).boot = s.boot := rfl
@[simp] theorem setTally_slots (c t : Nat) (w : Tally) : (s.setTally c t w).slots = s.slots := rfl
@[simp] theorem setTally_pegs (c t : Nat) (w : Tally) : (s.setTally c t w).pegs = s.pegs := rfl
@[simp] theorem setTally_rems (c t : Nat) (w : Tally) : (s.setTally c t w).rems = s.rems := rfl
@[simp] theorem setTally_jobs (c t : Nat) (w : Tally) : (s.setTally c t w).jobs = s.jobs := rfl
@[simp] theorem setTally_commits (c t : Nat) (w : Tally) : (s.setTally c t w).commits = s.commits := rfl
@[simp] theorem setTally_issued (c t : Nat) (w : Tally) : (s.setTally c t w).issued = s.issued := rfl
@[simp] theorem setTally_eng (c t : Nat) (w : Tally) : (s.setTally c t w).eng = s.eng := rfl
@[simp] theorem setTally_rel (c t : Nat) (w : Tally) : (s.setTally c t w).rel = s.rel := rfl

@[simp] theorem setJob_pending (k : Nat) (x : Job) : (s.setJob k x).pending = s.pending := rfl
@[simp] theorem setJob_fresh (k : Nat) (x : Job) : (s.setJob k x).fresh = s.fresh := rfl
@[simp] theorem setJob_ctl (k : Nat) (x : Job) : (s.setJob k x).ctl = s.ctl := rfl
@[simp] theorem setJob_mem (k : Nat) (x : Job) : (s.setJob k x).mem = s.mem := rfl
@[simp] theorem setJob_evs (k : Nat) (x : Job) : (s.setJob k x).evs = s.evs := rfl
@[simp] theorem setJob_out (k : Nat) (x : Job) : (s.setJob k x).out = s.out := rfl
@[simp] theorem setJob_host (k : Nat) (x : Job) : (s.setJob k x).host = s.host := rfl
@[simp] theorem setJob_sec (k : Nat) (x : Job) : (s.setJob k x).sec = s.sec := rfl
@[simp] theorem setJob_ras (k : Nat) (x : Job) : (s.setJob k x).ras = s.ras := rfl
@[simp] theorem setJob_sync (k : Nat) (x : Job) : (s.setJob k x).sync = s.sync := rfl
@[simp] theorem setJob_fab (k : Nat) (x : Job) : (s.setJob k x).fab = s.fab := rfl
@[simp] theorem setJob_power (k : Nat) (x : Job) : (s.setJob k x).power = s.power := rfl
@[simp] theorem setJob_boot (k : Nat) (x : Job) : (s.setJob k x).boot = s.boot := rfl
@[simp] theorem setJob_slots (k : Nat) (x : Job) : (s.setJob k x).slots = s.slots := rfl
@[simp] theorem setJob_pegs (k : Nat) (x : Job) : (s.setJob k x).pegs = s.pegs := rfl
@[simp] theorem setJob_rems (k : Nat) (x : Job) : (s.setJob k x).rems = s.rems := rfl
@[simp] theorem setJob_commits (k : Nat) (x : Job) : (s.setJob k x).commits = s.commits := rfl
@[simp] theorem setJob_issued (k : Nat) (x : Job) : (s.setJob k x).issued = s.issued := rfl
@[simp] theorem setJob_eng (k : Nat) (x : Job) : (s.setJob k x).eng = s.eng := rfl
@[simp] theorem setJob_rel (k : Nat) (x : Job) : (s.setJob k x).rel = s.rel := rfl

@[simp] theorem setCommit_pending (k : Nat) (x : CommitRec) : (s.setCommit k x).pending = s.pending := rfl
@[simp] theorem setCommit_fresh (k : Nat) (x : CommitRec) : (s.setCommit k x).fresh = s.fresh := rfl
@[simp] theorem setCommit_ctl (k : Nat) (x : CommitRec) : (s.setCommit k x).ctl = s.ctl := rfl
@[simp] theorem setCommit_mem (k : Nat) (x : CommitRec) : (s.setCommit k x).mem = s.mem := rfl
@[simp] theorem setCommit_evs (k : Nat) (x : CommitRec) : (s.setCommit k x).evs = s.evs := rfl
@[simp] theorem setCommit_out (k : Nat) (x : CommitRec) : (s.setCommit k x).out = s.out := rfl
@[simp] theorem setCommit_host (k : Nat) (x : CommitRec) : (s.setCommit k x).host = s.host := rfl
@[simp] theorem setCommit_sec (k : Nat) (x : CommitRec) : (s.setCommit k x).sec = s.sec := rfl
@[simp] theorem setCommit_ras (k : Nat) (x : CommitRec) : (s.setCommit k x).ras = s.ras := rfl
@[simp] theorem setCommit_sync (k : Nat) (x : CommitRec) : (s.setCommit k x).sync = s.sync := rfl
@[simp] theorem setCommit_fab (k : Nat) (x : CommitRec) : (s.setCommit k x).fab = s.fab := rfl
@[simp] theorem setCommit_power (k : Nat) (x : CommitRec) : (s.setCommit k x).power = s.power := rfl
@[simp] theorem setCommit_boot (k : Nat) (x : CommitRec) : (s.setCommit k x).boot = s.boot := rfl
@[simp] theorem setCommit_slots (k : Nat) (x : CommitRec) : (s.setCommit k x).slots = s.slots := rfl
@[simp] theorem setCommit_pegs (k : Nat) (x : CommitRec) : (s.setCommit k x).pegs = s.pegs := rfl
@[simp] theorem setCommit_rems (k : Nat) (x : CommitRec) : (s.setCommit k x).rems = s.rems := rfl
@[simp] theorem setCommit_jobs (k : Nat) (x : CommitRec) : (s.setCommit k x).jobs = s.jobs := rfl
@[simp] theorem setCommit_issued (k : Nat) (x : CommitRec) : (s.setCommit k x).issued = s.issued := rfl
@[simp] theorem setCommit_eng (k : Nat) (x : CommitRec) : (s.setCommit k x).eng = s.eng := rfl
@[simp] theorem setCommit_rel (k : Nat) (x : CommitRec) : (s.setCommit k x).rel = s.rel := rfl

@[simp] theorem setPort_pending (k : Nat) (x : PortRec) : (s.setPort k x).pending = s.pending := rfl
@[simp] theorem setPort_fresh (k : Nat) (x : PortRec) : (s.setPort k x).fresh = s.fresh := rfl
@[simp] theorem setPort_ctl (k : Nat) (x : PortRec) : (s.setPort k x).ctl = s.ctl := rfl
@[simp] theorem setPort_mem (k : Nat) (x : PortRec) : (s.setPort k x).mem = s.mem := rfl
@[simp] theorem setPort_evs (k : Nat) (x : PortRec) : (s.setPort k x).evs = s.evs := rfl
@[simp] theorem setPort_out (k : Nat) (x : PortRec) : (s.setPort k x).out = s.out := rfl
@[simp] theorem setPort_host (k : Nat) (x : PortRec) : (s.setPort k x).host = s.host := rfl
@[simp] theorem setPort_sec (k : Nat) (x : PortRec) : (s.setPort k x).sec = s.sec := rfl
@[simp] theorem setPort_ras (k : Nat) (x : PortRec) : (s.setPort k x).ras = s.ras := rfl
@[simp] theorem setPort_sync (k : Nat) (x : PortRec) : (s.setPort k x).sync = s.sync := rfl
@[simp] theorem setPort_power (k : Nat) (x : PortRec) : (s.setPort k x).power = s.power := rfl
@[simp] theorem setPort_boot (k : Nat) (x : PortRec) : (s.setPort k x).boot = s.boot := rfl
@[simp] theorem setPort_slots (k : Nat) (x : PortRec) : (s.setPort k x).slots = s.slots := rfl
@[simp] theorem setPort_pegs (k : Nat) (x : PortRec) : (s.setPort k x).pegs = s.pegs := rfl
@[simp] theorem setPort_rems (k : Nat) (x : PortRec) : (s.setPort k x).rems = s.rems := rfl
@[simp] theorem setPort_jobs (k : Nat) (x : PortRec) : (s.setPort k x).jobs = s.jobs := rfl
@[simp] theorem setPort_commits (k : Nat) (x : PortRec) : (s.setPort k x).commits = s.commits := rfl
@[simp] theorem setPort_issued (k : Nat) (x : PortRec) : (s.setPort k x).issued = s.issued := rfl
@[simp] theorem setPort_eng (k : Nat) (x : PortRec) : (s.setPort k x).eng = s.eng := rfl
@[simp] theorem setPort_rel (k : Nat) (x : PortRec) : (s.setPort k x).rel = s.rel := rfl

@[simp] theorem setSession_pending (k : Nat) (x : Session) : (s.setSession k x).pending = s.pending := rfl
@[simp] theorem setSession_fresh (k : Nat) (x : Session) : (s.setSession k x).fresh = s.fresh := rfl
@[simp] theorem setSession_ctl (k : Nat) (x : Session) : (s.setSession k x).ctl = s.ctl := rfl
@[simp] theorem setSession_mem (k : Nat) (x : Session) : (s.setSession k x).mem = s.mem := rfl
@[simp] theorem setSession_evs (k : Nat) (x : Session) : (s.setSession k x).evs = s.evs := rfl
@[simp] theorem setSession_out (k : Nat) (x : Session) : (s.setSession k x).out = s.out := rfl
@[simp] theorem setSession_sec (k : Nat) (x : Session) : (s.setSession k x).sec = s.sec := rfl
@[simp] theorem setSession_ras (k : Nat) (x : Session) : (s.setSession k x).ras = s.ras := rfl
@[simp] theorem setSession_sync (k : Nat) (x : Session) : (s.setSession k x).sync = s.sync := rfl
@[simp] theorem setSession_fab (k : Nat) (x : Session) : (s.setSession k x).fab = s.fab := rfl
@[simp] theorem setSession_power (k : Nat) (x : Session) : (s.setSession k x).power = s.power := rfl
@[simp] theorem setSession_boot (k : Nat) (x : Session) : (s.setSession k x).boot = s.boot := rfl
@[simp] theorem setSession_slots (k : Nat) (x : Session) : (s.setSession k x).slots = s.slots := rfl
@[simp] theorem setSession_pegs (k : Nat) (x : Session) : (s.setSession k x).pegs = s.pegs := rfl
@[simp] theorem setSession_rems (k : Nat) (x : Session) : (s.setSession k x).rems = s.rems := rfl
@[simp] theorem setSession_jobs (k : Nat) (x : Session) : (s.setSession k x).jobs = s.jobs := rfl
@[simp] theorem setSession_commits (k : Nat) (x : Session) : (s.setSession k x).commits = s.commits := rfl
@[simp] theorem setSession_issued (k : Nat) (x : Session) : (s.setSession k x).issued = s.issued := rfl
@[simp] theorem setSession_eng (k : Nat) (x : Session) : (s.setSession k x).eng = s.eng := rfl
@[simp] theorem setSession_rel (k : Nat) (x : Session) : (s.setSession k x).rel = s.rel := rfl

@[simp] theorem bump_pending (c : Ctr) (p loc i n m : Nat) : (s.bump c p loc i n m).pending = s.pending := by
  simp only [State.bump]; split; · rfl
  · split <;> rfl
@[simp] theorem bump_fresh (c : Ctr) (p loc i n m : Nat) : (s.bump c p loc i n m).fresh = s.fresh := by
  simp only [State.bump]; split; · rfl
  · split <;> rfl
@[simp] theorem bump_mem (c : Ctr) (p loc i n m : Nat) : (s.bump c p loc i n m).mem = s.mem := by
  simp only [State.bump]; split; · rfl
  · split <;> rfl
@[simp] theorem bump_out (c : Ctr) (p loc i n m : Nat) : (s.bump c p loc i n m).out = s.out := by
  simp only [State.bump]; split; · rfl
  · split <;> rfl
@[simp] theorem bump_host (c : Ctr) (p loc i n m : Nat) : (s.bump c p loc i n m).host = s.host := by
  simp only [State.bump]; split; · rfl
  · split <;> rfl
@[simp] theorem bump_sec (c : Ctr) (p loc i n m : Nat) : (s.bump c p loc i n m).sec = s.sec := by
  simp only [State.bump]; split; · rfl
  · split <;> rfl
@[simp] theorem bump_ras (c : Ctr) (p loc i n m : Nat) : (s.bump c p loc i n m).ras = s.ras := by
  simp only [State.bump]; split; · rfl
  · split <;> rfl
@[simp] theorem bump_sync (c : Ctr) (p loc i n m : Nat) : (s.bump c p loc i n m).sync = s.sync := by
  simp only [State.bump]; split; · rfl
  · split <;> rfl
@[simp] theorem bump_fab (c : Ctr) (p loc i n m : Nat) : (s.bump c p loc i n m).fab = s.fab := by
  simp only [State.bump]; split; · rfl
  · split <;> rfl
@[simp] theorem bump_power (c : Ctr) (p loc i n m : Nat) : (s.bump c p loc i n m).power = s.power := by
  simp only [State.bump]; split; · rfl
  · split <;> rfl
@[simp] theorem bump_boot (c : Ctr) (p loc i n m : Nat) : (s.bump c p loc i n m).boot = s.boot := by
  simp only [State.bump]; split; · rfl
  · split <;> rfl
@[simp] theorem bump_slots (c : Ctr) (p loc i n m : Nat) : (s.bump c p loc i n m).slots = s.slots := by
  simp only [State.bump]; split; · rfl
  · split <;> rfl
@[simp] theorem bump_pegs (c : Ctr) (p loc i n m : Nat) : (s.bump c p loc i n m).pegs = s.pegs := by
  simp only [State.bump]; split; · rfl
  · split <;> rfl
@[simp] theorem bump_rems (c : Ctr) (p loc i n m : Nat) : (s.bump c p loc i n m).rems = s.rems := by
  simp only [State.bump]; split; · rfl
  · split <;> rfl
@[simp] theorem bump_jobs (c : Ctr) (p loc i n m : Nat) : (s.bump c p loc i n m).jobs = s.jobs := by
  simp only [State.bump]; split; · rfl
  · split <;> rfl
@[simp] theorem bump_commits (c : Ctr) (p loc i n m : Nat) : (s.bump c p loc i n m).commits = s.commits := by
  simp only [State.bump]; split; · rfl
  · split <;> rfl
@[simp] theorem bump_issued (c : Ctr) (p loc i n m : Nat) : (s.bump c p loc i n m).issued = s.issued := by
  simp only [State.bump]; split; · rfl
  · split <;> rfl
@[simp] theorem bump_eng (c : Ctr) (p loc i n m : Nat) : (s.bump c p loc i n m).eng = s.eng := by
  simp only [State.bump]; split; · rfl
  · split <;> rfl
@[simp] theorem bump_rel (c : Ctr) (p loc i n m : Nat) : (s.bump c p loc i n m).rel = s.rel := by
  simp only [State.bump]; split; · rfl
  · split <;> rfl
/-! Register fields read the same over every update but that of register fields. -/

@[simp] theorem store_fld (a : Nat) (bs : Bytes) (f : Fld) (i m : Nat) : (s.store a bs).fld f i m = s.fld f i m := rfl
@[simp] theorem zero_fld (lo hi : Nat) (f : Fld) (i m : Nat) : (s.zero lo hi).fld f i m = s.fld f i m := rfl
@[simp] theorem event_fld (code p loc detail : Nat) (f : Fld) (i m : Nat) : (s.event code p loc detail).fld f i m = s.fld f i m := rfl
@[simp] theorem send_fld (o : Out) (f : Fld) (i m : Nat) : (s.send o).fld f i m = s.fld f i m := rfl
@[simp] theorem withPower_fld (p : Power) (f : Fld) (i m : Nat) : (s.withPower p).fld f i m = s.fld f i m := rfl
@[simp] theorem setSlot_fld (k : Nat) (x : StreamSlot) (f : Fld) (i m : Nat) : (s.setSlot k x).fld f i m = s.fld f i m := rfl
@[simp] theorem setPeg_fld (k : Nat) (x : PegRec) (f : Fld) (i m : Nat) : (s.setPeg k x).fld f i m = s.fld f i m := rfl
@[simp] theorem setGuy_fld (k : Nat) (x : GuyRec) (f : Fld) (i m : Nat) : (s.setGuy k x).fld f i m = s.fld f i m := rfl
@[simp] theorem setTally_fld (c t : Nat) (w : Tally) (f : Fld) (i m : Nat) : (s.setTally c t w).fld f i m = s.fld f i m := rfl
@[simp] theorem setJob_fld (k : Nat) (x : Job) (f : Fld) (i m : Nat) : (s.setJob k x).fld f i m = s.fld f i m := rfl
@[simp] theorem setCommit_fld (k : Nat) (x : CommitRec) (f : Fld) (i m : Nat) : (s.setCommit k x).fld f i m = s.fld f i m := rfl
@[simp] theorem setPort_fld (k : Nat) (x : PortRec) (f : Fld) (i m : Nat) : (s.setPort k x).fld f i m = s.fld f i m := rfl
@[simp] theorem setSession_fld (k : Nat) (x : Session) (f : Fld) (i m : Nat) : (s.setSession k x).fld f i m = s.fld f i m := rfl

@[simp] theorem setPc_pending (n : Nat) (r : PcRec) : (s.setPc n r).pending = s.pending := rfl
@[simp] theorem setPc_fresh (n : Nat) (r : PcRec) : (s.setPc n r).fresh = s.fresh := rfl
@[simp] theorem setPc_ctl (n : Nat) (r : PcRec) : (s.setPc n r).ctl = s.ctl := rfl
@[simp] theorem setPc_mem (n : Nat) (r : PcRec) : (s.setPc n r).mem = s.mem := rfl
@[simp] theorem setPc_evs (n : Nat) (r : PcRec) : (s.setPc n r).evs = s.evs := rfl
@[simp] theorem setPc_out (n : Nat) (r : PcRec) : (s.setPc n r).out = s.out := rfl
@[simp] theorem setPc_host (n : Nat) (r : PcRec) : (s.setPc n r).host = s.host := rfl
@[simp] theorem setPc_sec (n : Nat) (r : PcRec) : (s.setPc n r).sec = s.sec := rfl
@[simp] theorem setPc_sync (n : Nat) (r : PcRec) : (s.setPc n r).sync = s.sync := rfl
@[simp] theorem setPc_fab (n : Nat) (r : PcRec) : (s.setPc n r).fab = s.fab := rfl
@[simp] theorem setPc_power (n : Nat) (r : PcRec) : (s.setPc n r).power = s.power := rfl
@[simp] theorem setPc_boot (n : Nat) (r : PcRec) : (s.setPc n r).boot = s.boot := rfl
@[simp] theorem setPc_slots (n : Nat) (r : PcRec) : (s.setPc n r).slots = s.slots := rfl
@[simp] theorem setPc_pegs (n : Nat) (r : PcRec) : (s.setPc n r).pegs = s.pegs := rfl
@[simp] theorem setPc_rems (n : Nat) (r : PcRec) : (s.setPc n r).rems = s.rems := rfl
@[simp] theorem setPc_jobs (n : Nat) (r : PcRec) : (s.setPc n r).jobs = s.jobs := rfl
@[simp] theorem setPc_commits (n : Nat) (r : PcRec) : (s.setPc n r).commits = s.commits := rfl
@[simp] theorem setPc_issued (n : Nat) (r : PcRec) : (s.setPc n r).issued = s.issued := rfl
@[simp] theorem setPc_eng (n : Nat) (r : PcRec) : (s.setPc n r).eng = s.eng := rfl
@[simp] theorem setPc_rel (n : Nat) (r : PcRec) : (s.setPc n r).rel = s.rel := rfl

@[simp] theorem setOwner_pending (page owner : Nat) : (s.setOwner page owner).pending = s.pending := rfl
@[simp] theorem setOwner_fresh (page owner : Nat) : (s.setOwner page owner).fresh = s.fresh := rfl
@[simp] theorem setOwner_ctl (page owner : Nat) : (s.setOwner page owner).ctl = s.ctl := rfl
@[simp] theorem setOwner_mem (page owner : Nat) : (s.setOwner page owner).mem = s.mem := rfl
@[simp] theorem setOwner_evs (page owner : Nat) : (s.setOwner page owner).evs = s.evs := rfl
@[simp] theorem setOwner_out (page owner : Nat) : (s.setOwner page owner).out = s.out := rfl
@[simp] theorem setOwner_host (page owner : Nat) : (s.setOwner page owner).host = s.host := rfl
@[simp] theorem setOwner_sec (page owner : Nat) : (s.setOwner page owner).sec = s.sec := rfl
@[simp] theorem setOwner_sync (page owner : Nat) : (s.setOwner page owner).sync = s.sync := rfl
@[simp] theorem setOwner_fab (page owner : Nat) : (s.setOwner page owner).fab = s.fab := rfl
@[simp] theorem setOwner_power (page owner : Nat) : (s.setOwner page owner).power = s.power := rfl
@[simp] theorem setOwner_boot (page owner : Nat) : (s.setOwner page owner).boot = s.boot := rfl
@[simp] theorem setOwner_slots (page owner : Nat) : (s.setOwner page owner).slots = s.slots := rfl
@[simp] theorem setOwner_pegs (page owner : Nat) : (s.setOwner page owner).pegs = s.pegs := rfl
@[simp] theorem setOwner_rems (page owner : Nat) : (s.setOwner page owner).rems = s.rems := rfl
@[simp] theorem setOwner_jobs (page owner : Nat) : (s.setOwner page owner).jobs = s.jobs := rfl
@[simp] theorem setOwner_commits (page owner : Nat) : (s.setOwner page owner).commits = s.commits := rfl
@[simp] theorem setOwner_issued (page owner : Nat) : (s.setOwner page owner).issued = s.issued := rfl
@[simp] theorem setOwner_eng (page owner : Nat) : (s.setOwner page owner).eng = s.eng := rfl
@[simp] theorem setOwner_rel (page owner : Nat) : (s.setOwner page owner).rel = s.rel := rfl

@[simp] theorem setSlabOwner_pending (slab owner : Nat) : (s.setSlabOwner slab owner).pending = s.pending := rfl
@[simp] theorem setSlabOwner_fresh (slab owner : Nat) : (s.setSlabOwner slab owner).fresh = s.fresh := rfl
@[simp] theorem setSlabOwner_ctl (slab owner : Nat) : (s.setSlabOwner slab owner).ctl = s.ctl := rfl
@[simp] theorem setSlabOwner_mem (slab owner : Nat) : (s.setSlabOwner slab owner).mem = s.mem := rfl
@[simp] theorem setSlabOwner_evs (slab owner : Nat) : (s.setSlabOwner slab owner).evs = s.evs := rfl
@[simp] theorem setSlabOwner_out (slab owner : Nat) : (s.setSlabOwner slab owner).out = s.out := rfl
@[simp] theorem setSlabOwner_host (slab owner : Nat) : (s.setSlabOwner slab owner).host = s.host := rfl
@[simp] theorem setSlabOwner_sec (slab owner : Nat) : (s.setSlabOwner slab owner).sec = s.sec := rfl
@[simp] theorem setSlabOwner_sync (slab owner : Nat) : (s.setSlabOwner slab owner).sync = s.sync := rfl
@[simp] theorem setSlabOwner_fab (slab owner : Nat) : (s.setSlabOwner slab owner).fab = s.fab := rfl
@[simp] theorem setSlabOwner_power (slab owner : Nat) : (s.setSlabOwner slab owner).power = s.power := rfl
@[simp] theorem setSlabOwner_boot (slab owner : Nat) : (s.setSlabOwner slab owner).boot = s.boot := rfl
@[simp] theorem setSlabOwner_slots (slab owner : Nat) : (s.setSlabOwner slab owner).slots = s.slots := rfl
@[simp] theorem setSlabOwner_pegs (slab owner : Nat) : (s.setSlabOwner slab owner).pegs = s.pegs := rfl
@[simp] theorem setSlabOwner_rems (slab owner : Nat) : (s.setSlabOwner slab owner).rems = s.rems := rfl
@[simp] theorem setSlabOwner_jobs (slab owner : Nat) : (s.setSlabOwner slab owner).jobs = s.jobs := rfl
@[simp] theorem setSlabOwner_commits (slab owner : Nat) : (s.setSlabOwner slab owner).commits = s.commits := rfl
@[simp] theorem setSlabOwner_issued (slab owner : Nat) : (s.setSlabOwner slab owner).issued = s.issued := rfl
@[simp] theorem setSlabOwner_eng (slab owner : Nat) : (s.setSlabOwner slab owner).eng = s.eng := rfl
@[simp] theorem setSlabOwner_rel (slab owner : Nat) : (s.setSlabOwner slab owner).rel = s.rel := rfl

@[simp] theorem keyPage_pending (page key : Nat) : (s.keyPage page key).pending = s.pending := rfl
@[simp] theorem keyPage_fresh (page key : Nat) : (s.keyPage page key).fresh = s.fresh := rfl
@[simp] theorem keyPage_ctl (page key : Nat) : (s.keyPage page key).ctl = s.ctl := rfl
@[simp] theorem keyPage_mem (page key : Nat) : (s.keyPage page key).mem = s.mem := rfl
@[simp] theorem keyPage_evs (page key : Nat) : (s.keyPage page key).evs = s.evs := rfl
@[simp] theorem keyPage_out (page key : Nat) : (s.keyPage page key).out = s.out := rfl
@[simp] theorem keyPage_host (page key : Nat) : (s.keyPage page key).host = s.host := rfl
@[simp] theorem keyPage_sec (page key : Nat) : (s.keyPage page key).sec = s.sec := rfl
@[simp] theorem keyPage_sync (page key : Nat) : (s.keyPage page key).sync = s.sync := rfl
@[simp] theorem keyPage_fab (page key : Nat) : (s.keyPage page key).fab = s.fab := rfl
@[simp] theorem keyPage_power (page key : Nat) : (s.keyPage page key).power = s.power := rfl
@[simp] theorem keyPage_boot (page key : Nat) : (s.keyPage page key).boot = s.boot := rfl
@[simp] theorem keyPage_slots (page key : Nat) : (s.keyPage page key).slots = s.slots := rfl
@[simp] theorem keyPage_pegs (page key : Nat) : (s.keyPage page key).pegs = s.pegs := rfl
@[simp] theorem keyPage_rems (page key : Nat) : (s.keyPage page key).rems = s.rems := rfl
@[simp] theorem keyPage_jobs (page key : Nat) : (s.keyPage page key).jobs = s.jobs := rfl
@[simp] theorem keyPage_commits (page key : Nat) : (s.keyPage page key).commits = s.commits := rfl
@[simp] theorem keyPage_issued (page key : Nat) : (s.keyPage page key).issued = s.issued := rfl
@[simp] theorem keyPage_eng (page key : Nat) : (s.keyPage page key).eng = s.eng := rfl
@[simp] theorem keyPage_rel (page key : Nat) : (s.keyPage page key).rel = s.rel := rfl

@[simp] theorem setPitchRec_pending (p : Nat) (r : PitchRec) : (s.setPitchRec p r).pending = s.pending := rfl
@[simp] theorem setPitchRec_fresh (p : Nat) (r : PitchRec) : (s.setPitchRec p r).fresh = s.fresh := rfl
@[simp] theorem setPitchRec_ctl (p : Nat) (r : PitchRec) : (s.setPitchRec p r).ctl = s.ctl := rfl
@[simp] theorem setPitchRec_mem (p : Nat) (r : PitchRec) : (s.setPitchRec p r).mem = s.mem := rfl
@[simp] theorem setPitchRec_evs (p : Nat) (r : PitchRec) : (s.setPitchRec p r).evs = s.evs := rfl
@[simp] theorem setPitchRec_out (p : Nat) (r : PitchRec) : (s.setPitchRec p r).out = s.out := rfl
@[simp] theorem setPitchRec_host (p : Nat) (r : PitchRec) : (s.setPitchRec p r).host = s.host := rfl
@[simp] theorem setPitchRec_ras (p : Nat) (r : PitchRec) : (s.setPitchRec p r).ras = s.ras := rfl
@[simp] theorem setPitchRec_sync (p : Nat) (r : PitchRec) : (s.setPitchRec p r).sync = s.sync := rfl
@[simp] theorem setPitchRec_fab (p : Nat) (r : PitchRec) : (s.setPitchRec p r).fab = s.fab := rfl
@[simp] theorem setPitchRec_power (p : Nat) (r : PitchRec) : (s.setPitchRec p r).power = s.power := rfl
@[simp] theorem setPitchRec_boot (p : Nat) (r : PitchRec) : (s.setPitchRec p r).boot = s.boot := rfl
@[simp] theorem setPitchRec_slots (p : Nat) (r : PitchRec) : (s.setPitchRec p r).slots = s.slots := rfl
@[simp] theorem setPitchRec_pegs (p : Nat) (r : PitchRec) : (s.setPitchRec p r).pegs = s.pegs := rfl
@[simp] theorem setPitchRec_rems (p : Nat) (r : PitchRec) : (s.setPitchRec p r).rems = s.rems := rfl
@[simp] theorem setPitchRec_jobs (p : Nat) (r : PitchRec) : (s.setPitchRec p r).jobs = s.jobs := rfl
@[simp] theorem setPitchRec_commits (p : Nat) (r : PitchRec) : (s.setPitchRec p r).commits = s.commits := rfl
@[simp] theorem setPitchRec_issued (p : Nat) (r : PitchRec) : (s.setPitchRec p r).issued = s.issued := rfl
@[simp] theorem setPitchRec_eng (p : Nat) (r : PitchRec) : (s.setPitchRec p r).eng = s.eng := rfl
@[simp] theorem setPitchRec_rel (p : Nat) (r : PitchRec) : (s.setPitchRec p r).rel = s.rel := rfl

@[simp] theorem setHostPort_pending (n : Nat) (x : HostPort) : (s.setHostPort n x).pending = s.pending := rfl
@[simp] theorem setHostPort_fresh (n : Nat) (x : HostPort) : (s.setHostPort n x).fresh = s.fresh := rfl
@[simp] theorem setHostPort_ctl (n : Nat) (x : HostPort) : (s.setHostPort n x).ctl = s.ctl := rfl
@[simp] theorem setHostPort_mem (n : Nat) (x : HostPort) : (s.setHostPort n x).mem = s.mem := rfl
@[simp] theorem setHostPort_evs (n : Nat) (x : HostPort) : (s.setHostPort n x).evs = s.evs := rfl
@[simp] theorem setHostPort_out (n : Nat) (x : HostPort) : (s.setHostPort n x).out = s.out := rfl
@[simp] theorem setHostPort_sec (n : Nat) (x : HostPort) : (s.setHostPort n x).sec = s.sec := rfl
@[simp] theorem setHostPort_ras (n : Nat) (x : HostPort) : (s.setHostPort n x).ras = s.ras := rfl
@[simp] theorem setHostPort_sync (n : Nat) (x : HostPort) : (s.setHostPort n x).sync = s.sync := rfl
@[simp] theorem setHostPort_fab (n : Nat) (x : HostPort) : (s.setHostPort n x).fab = s.fab := rfl
@[simp] theorem setHostPort_power (n : Nat) (x : HostPort) : (s.setHostPort n x).power = s.power := rfl
@[simp] theorem setHostPort_boot (n : Nat) (x : HostPort) : (s.setHostPort n x).boot = s.boot := rfl
@[simp] theorem setHostPort_slots (n : Nat) (x : HostPort) : (s.setHostPort n x).slots = s.slots := rfl
@[simp] theorem setHostPort_pegs (n : Nat) (x : HostPort) : (s.setHostPort n x).pegs = s.pegs := rfl
@[simp] theorem setHostPort_rems (n : Nat) (x : HostPort) : (s.setHostPort n x).rems = s.rems := rfl
@[simp] theorem setHostPort_jobs (n : Nat) (x : HostPort) : (s.setHostPort n x).jobs = s.jobs := rfl
@[simp] theorem setHostPort_commits (n : Nat) (x : HostPort) : (s.setHostPort n x).commits = s.commits := rfl
@[simp] theorem setHostPort_issued (n : Nat) (x : HostPort) : (s.setHostPort n x).issued = s.issued := rfl
@[simp] theorem setHostPort_eng (n : Nat) (x : HostPort) : (s.setHostPort n x).eng = s.eng := rfl
@[simp] theorem setHostPort_rel (n : Nat) (x : HostPort) : (s.setHostPort n x).rel = s.rel := rfl

@[simp] theorem setColl_pending (c : Coll) : (s.setColl c).pending = s.pending := rfl
@[simp] theorem setColl_fresh (c : Coll) : (s.setColl c).fresh = s.fresh := rfl
@[simp] theorem setColl_ctl (c : Coll) : (s.setColl c).ctl = s.ctl := rfl
@[simp] theorem setColl_mem (c : Coll) : (s.setColl c).mem = s.mem := rfl
@[simp] theorem setColl_evs (c : Coll) : (s.setColl c).evs = s.evs := rfl
@[simp] theorem setColl_out (c : Coll) : (s.setColl c).out = s.out := rfl
@[simp] theorem setColl_host (c : Coll) : (s.setColl c).host = s.host := rfl
@[simp] theorem setColl_sec (c : Coll) : (s.setColl c).sec = s.sec := rfl
@[simp] theorem setColl_ras (c : Coll) : (s.setColl c).ras = s.ras := rfl
@[simp] theorem setColl_sync (c : Coll) : (s.setColl c).sync = s.sync := rfl
@[simp] theorem setColl_power (c : Coll) : (s.setColl c).power = s.power := rfl
@[simp] theorem setColl_boot (c : Coll) : (s.setColl c).boot = s.boot := rfl
@[simp] theorem setColl_slots (c : Coll) : (s.setColl c).slots = s.slots := rfl
@[simp] theorem setColl_pegs (c : Coll) : (s.setColl c).pegs = s.pegs := rfl
@[simp] theorem setColl_rems (c : Coll) : (s.setColl c).rems = s.rems := rfl
@[simp] theorem setColl_jobs (c : Coll) : (s.setColl c).jobs = s.jobs := rfl
@[simp] theorem setColl_commits (c : Coll) : (s.setColl c).commits = s.commits := rfl
@[simp] theorem setColl_issued (c : Coll) : (s.setColl c).issued = s.issued := rfl
@[simp] theorem setColl_eng (c : Coll) : (s.setColl c).eng = s.eng := rfl
@[simp] theorem setColl_rel (c : Coll) : (s.setColl c).rel = s.rel := rfl

@[simp] theorem setEngine_pending (e : Nat) (x : EngRec) : (s.setEngine e x).pending = s.pending := rfl
@[simp] theorem setEngine_fresh (e : Nat) (x : EngRec) : (s.setEngine e x).fresh = s.fresh := rfl
@[simp] theorem setEngine_mem (e : Nat) (x : EngRec) : (s.setEngine e x).mem = s.mem := rfl
@[simp] theorem setEngine_evs (e : Nat) (x : EngRec) : (s.setEngine e x).evs = s.evs := rfl
@[simp] theorem setEngine_out (e : Nat) (x : EngRec) : (s.setEngine e x).out = s.out := rfl
@[simp] theorem setEngine_host (e : Nat) (x : EngRec) : (s.setEngine e x).host = s.host := rfl
@[simp] theorem setEngine_sec (e : Nat) (x : EngRec) : (s.setEngine e x).sec = s.sec := rfl
@[simp] theorem setEngine_ras (e : Nat) (x : EngRec) : (s.setEngine e x).ras = s.ras := rfl
@[simp] theorem setEngine_sync (e : Nat) (x : EngRec) : (s.setEngine e x).sync = s.sync := rfl
@[simp] theorem setEngine_fab (e : Nat) (x : EngRec) : (s.setEngine e x).fab = s.fab := rfl
@[simp] theorem setEngine_power (e : Nat) (x : EngRec) : (s.setEngine e x).power = s.power := rfl
@[simp] theorem setEngine_boot (e : Nat) (x : EngRec) : (s.setEngine e x).boot = s.boot := rfl
@[simp] theorem setEngine_slots (e : Nat) (x : EngRec) : (s.setEngine e x).slots = s.slots := rfl
@[simp] theorem setEngine_pegs (e : Nat) (x : EngRec) : (s.setEngine e x).pegs = s.pegs := rfl
@[simp] theorem setEngine_rems (e : Nat) (x : EngRec) : (s.setEngine e x).rems = s.rems := rfl
@[simp] theorem setEngine_jobs (e : Nat) (x : EngRec) : (s.setEngine e x).jobs = s.jobs := rfl
@[simp] theorem setEngine_commits (e : Nat) (x : EngRec) : (s.setEngine e x).commits = s.commits := rfl
@[simp] theorem setEngine_issued (e : Nat) (x : EngRec) : (s.setEngine e x).issued = s.issued := rfl
@[simp] theorem setEngine_rel (e : Nat) (x : EngRec) : (s.setEngine e x).rel = s.rel := rfl

end Sys2Proof.Laws
end

