-- ==== Sys2Proof/Laws/Mailbox.lean ====
section
/-! SUPPORT. What the mailbox does with a request in turn: it is executed at once, and its reply or its ACK leaves. -/
namespace Sys2Proof.Laws

open Sys2Proof Sys2Proof.Machine Sys2Proof.Safety

/-- A session set is the session read. -/
theorem session_setSession (s : State) (n : Nat) (x : Session) (h : x.role ≠ 3) : (s.setSession n x).session n = some x := by
  have hx : x ≠ Session.closed := fun e => h (by rw [e]; rfl)
  simp only [State.session, State.setSession, sget_sset_of_ne _ _ hx, if_neg h]

/-- Another session is left alone. -/
theorem session_setSession_ne (s : State) (n m : Nat) (x : Session) (h : m ≠ n) : (s.setSession n x).session m = s.session m := by
  simp only [State.session, State.setSession, sget_sset_ne _ _ _ h]

/-- Sessions are read from the mailbox alone. -/
theorem session_congr {s t : State} (h : t.host = s.host) (n : Nat) : t.session n = s.session n := by simp only [State.session, h]

/-- The listed sessions are where a session is read from. -/
theorem sget_mem {β : Type} {d : β} {m : Sparse β} {k : Nat} (h : sget d m k ≠ d) : (k, sget d m k) ∈ m := by
  induction m with
  | nil => exact absurd rfl h
  | cons c m ih =>
    obtain ⟨a, w⟩ := c
    by_cases e : a = k
    · subst e; simp [sget]
    · simp only [sget, if_neg e] at h ⊢; exact List.mem_cons_of_mem _ (ih h)

theorem mem_of_session {s : State} {n : Nat} {x : Session} (h : s.session n = some x) : (n, x) ∈ s.host.sessions := by
  simp only [State.session] at h
  split at h
  · cases h
  · next hr =>
    cases h
    exact sget_mem fun e => hr (by rw [e]; rfl)

theorem role_of_session {s : State} {n : Nat} {x : Session} (h : s.session n = some x) : x.role ≠ 3 := by
  simp only [State.session] at h
  split at h
  · cases h
  · next hr => cases h; exact hr

/-- A write over a write. -/
theorem sset_sset {β : Type} [DecidableEq β] {d v : β} (w : β) (m : Sparse β) (k : Nat) (h : v ≠ d) :
    sset d (sset d m k v) k w = sset d m k w := by
  induction m with
  | nil => simp [sset, h]
  | cons c m ih =>
    obtain ⟨a, u⟩ := c
    simp only [sset]
    by_cases h1 : k < a
    · simp [h1, h, sset]
    · by_cases h2 : k = a
      · subst h2; simp [h, sset]
      · simp [h1, h2, sset, ih]

/-- The keys of a map with one value set. -/
theorem key_mem_sset {β : Type} [DecidableEq β] {d v : β} (m : Sparse β) (k : Nat) (h : v ≠ d) : k ∈ (sset d m k v).map (·.1) := by
  have := sget_mem (d := d) (m := sset d m k v) (k := k) (by rw [sget_sset_of_ne m k h]; exact h)
  exact List.mem_map.2 ⟨_, this, rfl⟩

/-- Sessions that hold nothing, but for one just written: what they hold together. -/
theorem held_sum (m : Sparse Session) (n : Nat) (y : Session) (h : ∀ e ∈ m, e.2.held = []) (hy : y ≠ .closed) :
    ((sset .closed m n y).map fun e => e.2.held.length).sum = y.held.length := by
  have zero (l : Sparse Session) (hl : ∀ e ∈ l, e.2.held = []) : (l.map fun e => e.2.held.length).sum = 0 := by
    induction l with
    | nil => rfl
    | cons c l ih => simp [hl c (by simp), ih fun e he => hl e (by simp [he])]
  induction m with
  | nil => simp [sset, hy]
  | cons c m ih =>
    obtain ⟨a, w⟩ := c
    have hw := h (a, w) (by simp)
    have ht : ∀ e ∈ m, e.2.held = [] := fun e he => h e (by simp [he])
    simp only at hw
    simp only [sset]
    split
    · simp [hw, zero m ht]
    · split
      · simp [zero m ht]
      · simp [hw, ih ht]

/-- When every session but one holds nothing, only that one can execute. -/
theorem runNext_alone (s : State) (n : Nat) (x : Session) (h : HeldReq) (hx : s.session n = some x) (hn : x.next? = some h)
    (hall : ∀ m, m ≠ n → ∀ y, s.session m = some y → y.held = []) (l : List Nat) (hl : n ∈ l) : s.runNext l = s.execute n x h := by
  have none' : ∀ m, m ≠ n → ((s.session m).bind fun x => x.next?.bind fun h => s.execute m x h) = none := by
    intro m hm
    cases e : s.session m with
    | none => rfl
    | some y => simp [Session.next?, hall m hm y e]
  have same : ((s.session n).bind fun x => x.next?.bind fun h => s.execute n x h) = s.execute n x h := by simp [hx, hn]
  cases he : s.execute n x h with
  | some t =>
    induction l with
    | nil => simp at hl
    | cons m l ih =>
      simp only [State.runNext]
      by_cases e : m = n
      · subst e; rw [same, he]
      · rw [none' m e]
        exact ih (by simpa [Ne.symm e] using hl)
  | none =>
    clear hl
    induction l with
    | nil => rfl
    | cons m l ih =>
      simp only [State.runNext]
      by_cases e : m = n
      · subst e; rw [same, he]; exact ih
      · rw [none' m e]; exact ih

/-- Putting a session in its place loses none. -/
theorem mem_insertSession (x : Nat × Session) (m : Sparse Session) : ∀ y, y ∈ insertSession x m ↔ y = x ∨ y ∈ m := by
  induction m with
  | nil => simp [insertSession]
  | cons z m ih =>
    intro y
    simp only [insertSession]
    split
    · split <;> simp [ih, or_left_comm]
    · simp
    · simp [ih, or_left_comm]

/-- Every session has its turn. -/
theorem mem_turns {s : State} {n : Nat} (h : n ∈ s.host.sessions.map (·.1)) : n ∈ s.turns := by
  have all (m : Sparse Session) : ∀ y, y ∈ m.foldr insertSession [] ↔ y ∈ m := by
    induction m with
    | nil => simp
    | cons z m ih => intro y; simp [mem_insertSession, ih]
  obtain ⟨e, he, rfl⟩ := List.mem_map.1 h
  exact List.mem_map_of_mem ((all _ e).2 he)

/-- A port's byte counter shares no word with a register of the module. -/
theorem heRx_key_ne (f : Fld) (p : HePort) (hb : f.block = 8) (hm : f.off + 8 ≤ 2 ^ 16) (hl : f.lo < 512) :
    f.key 0 0 ≠ Reg.HE_RX_BYTES.key (36 + p.val) 0 := by
  have : p.val < 2 := p.isLt
  simp only [Fld.key, Fld.addr, ctlBase, hb, Reg.HE_RX_BYTES]
  omega

/-- A field of the module, after a datagram is counted. -/
theorem countRx_fld (s : State) (r : Req) (f : Fld) (hb : f.block = 8) (hm : f.off + 8 ≤ 2 ^ 16) (hl : f.lo < 512) :
    (s.countRx r).fld f = s.fld f := by
  simp only [State.countRx, State.accum]
  exact fld_setFld_ne _ _ _ _ _ _ _ _ (heRx_key_ne f r.port hb hm hl)

/-- A request in turn passes the port and the form check. -/
theorem arrival_takes {s : State} {r : Req} {x : Session} (ht : Takes s r x) : s.arrival r true = (true, s.countRx r) := by
  simp [State.arrival, State.hears, ht.up, ht.frame, ht.size, ht.dport, ht.form]

/-- An opcode that some role may send is listed in R383. -/
theorem listed_of_cmd (c : Cmd) (h : ∀ op, c ≠ .unlisted op) : opcodeOf c ∈ listedOpcodes := by
  cases c <;> first | exact absurd rfl (h _) | simp [opcodeOf, listedOpcodes]

/-- The state in which a request in turn waits to be executed. -/
def accepted (s : State) (r : Req) (x : Session) (c : Cmd) : State :=
  (((s.countRx r).setSession r.session.toNat (x.took r)).setSession r.session.toNat ((x.took r).accept (heldReq s r c))).accum Reg.MBX_REQ 1

/-- A request in turn, accepted. -/
theorem accept_next (s : State) (r : Req) (x : Session) (c : Cmd) (he : x.early = []) (hn : x.next = r.seq.toNat) :
    ((x.took r).accept (heldReq s r c)) =
      { x.took r with next := (r.seq.toNat + 1) % 2 ^ 32, early := [], held := x.held ++ [heldReq s r c] } := by
  have hl : r.seq.toNat < 2 ^ 32 := r.seq.isLt
  simp only [Session.accept, Session.took, heldReq, he, hn, List.nil_append]
  simp [advance]

/-- How a request in turn goes through the mailbox: accepted, then drained. -/
theorem mailbox_accepted (s : State) (r : Req) (x : Session) (c : Cmd) (ht : Takes s r x) (ha : ∀ a, c = .jobStart a → s.powerState ≠ 2) :
    s.mailbox r c =
      (let s3 := (accepted s r x c).drain
       match s3.session r.session.toNat with
        | none => s3
        | some y => if y.done.any fun d => decide (d.seq = r.seq.toNat) then s3
            else s3.answerSession r.session.toNat typeAck r.seq.toNat (opcodeOf c) 0 0 []) := by
  have hs1 : (s.countRx r).session r.session.toNat = some x := (session_congr (s := s) rfl _).trans ht.isOpen
  have hrole := role_of_session ht.isOpen
  have hheld : x.held = [] := ht.alone _ (mem_of_session ht.isOpen)
  have hserver : ((s.countRx r).setSession r.session.toNat (x.took r)).fld Reg.MBX_STATUS_SERVER ≠ 1 := by
    rw [setSession_fld, countRx_fld _ _ _ rfl (by decide) (by decide)]; exact ht.served
  have hphase : ((s.countRx r).setSession r.session.toNat (x.took r)).starting = false := by
    have h := ht.started
    simp only [State.starting, State.phase] at h ⊢
    simp only [setSession_fld, countRx_fld s r Reg.STU_STATUS_PHASE rfl (by decide) (by decide)]; exact h
  have hpower : ∀ a, c = .jobStart a → (accepted s r x c).powerState ≠ 2 := by
    intro a h
    have h1 := ha a h
    simp only [State.powerState, accepted, State.accum] at h1 ⊢
    rw [fld_setFld_ne _ _ _ _ _ _ _ _ (by decide), setSession_fld, setSession_fld, countRx_fld _ _ _ rfl (by decide) (by decide)]
    exact h1
  have hc : ¬ ctrLimit < r.ctr.toNat := Nat.not_lt.2 ht.ctr
  have hauth : (s.countRx r).authentic r = some (x.took r) := by simp [State.authentic, hs1, ht.fresh, ht.tag]
  unfold State.mailbox
  simp only [arrival_takes ht, hauth, hc, hserver, hphase]
  simp only [Bool.not_true, Bool.false_eq_true, if_false, false_and]
  unfold State.sequence
  have hs2 : ((s.countRx r).setSession r.session.toNat (x.took r)).session r.session.toNat = some (x.took r) :=
    session_setSession _ _ _ hrole
  have hdone : ((x.took r).done.find? fun d => decide (d.seq = r.seq.toNat)) = none := by
    rw [List.find?_eq_none]; intro d hd; simpa using ht.new d hd
  have h1 : (x.took r).held = [] := hheld
  have h2 : (x.took r).waiting = none := ht.waiting
  have h3 : (x.took r).next = r.seq.toNat := ht.next
  have h4 : (r.seq.toNat + 2 ^ 32 - (x.took r).next) % 2 ^ 32 = 0 := by
    rw [h3, Nat.add_sub_cancel_left, Nat.mod_self]
  have h5 : (x.took r).holds = 0 := by simp [Session.holds, h1, h2]
  simp only [hs2, hdone, h1, h2, h4, h5]
  simp only [List.any_nil, Option.map_none, Bool.false_eq_true, false_or, reduceCtorEq, if_false, Nat.not_lt_zero, Nat.reduceLeDiff]
  have hacc : (((s.countRx r).setSession r.session.toNat (x.took r)).setSession r.session.toNat
      ((x.took r).accept { seq := r.seq.toNat, tod := r.tod.toNat, cmd := c, ok := r.bodyOk, came := s.fld Reg.MBX_REQ })).accum Reg.MBX_REQ 1 =
      accepted s r x c := rfl
  have hcame : ((s.countRx r).setSession r.session.toNat (x.took r)).fld Reg.MBX_REQ = s.fld Reg.MBX_REQ := by
    rw [setSession_fld, countRx_fld _ _ _ rfl (by decide) (by decide)]
  rw [hcame, hacc]
  cases c <;> first | rfl | (have := hpower _ rfl; simp only [this, if_false] <;> rfl)


/-- The session as a request in turn leaves it until it is executed. -/
theorem accepted_session (s : State) (r : Req) (x : Session) (c : Cmd) (ht : Takes s r x) :
    (accepted s r x c).session r.session.toNat = some ((x.took r).accept (heldReq s r c)) := by
  have : ((x.took r).accept (heldReq s r c)).role ≠ 3 := by
    rw [accept_next s r x c ht.early ht.next]; exact (role_of_session ht.isOpen :)
  exact session_setSession _ _ _ this

/-- Draining executes a request in turn, once. -/
theorem accepted_drain (s : State) (r : Req) (x : Session) (c : Cmd) (ht : Takes s r x) :
    (accepted s r x c).drain =
      ((accepted s r x c).execute r.session.toNat ((x.took r).accept (heldReq s r c)) (heldReq s r c)).getD (accepted s r x c) := by
  have hrole := role_of_session ht.isOpen
  have hheld : x.held = [] := ht.alone _ (mem_of_session ht.isOpen)
  have hsrv : (accepted s r x c).fld Reg.MBX_STATUS_SERVER ≠ 1 := by
    simp only [accepted, State.accum]
    rw [fld_setFld_ne _ _ _ _ _ _ _ _ (by decide), setSession_fld, setSession_fld, countRx_fld _ _ _ rfl (by decide) (by decide)]
    exact ht.served
  have hy := accept_next s r x c ht.early ht.next
  have hyn : ((x.took r).accept (heldReq s r c)) ≠ .closed := by
    intro e; rw [hy] at e; exact hrole (congrArg Session.role e)
  have htn : x.took r ≠ .closed := fun e => hrole (congrArg Session.role e)
  have hhost : (accepted s r x c).host.sessions = sset .closed s.host.sessions r.session.toNat ((x.took r).accept (heldReq s r c)) := by
    show sset .closed (sset .closed s.host.sessions _ _) _ _ = _
    exact sset_sset _ _ _ htn
  have hlen : ((accepted s r x c).host.sessions.map fun e => e.2.held.length).sum = 1 := by
    rw [hhost, held_sum _ _ _ ht.alone hyn, hy]; simp [hheld]
  have hall : ∀ m, m ≠ r.session.toNat → ∀ y, (accepted s r x c).session m = some y → y.held = [] := by
    intro m hm y h
    have h' : s.session m = some y := by
      refine Eq.trans ?_ h
      refine Eq.symm (Eq.trans (session_congr (s := ((s.countRx r).setSession r.session.toNat (x.took r)).setSession r.session.toNat
        ((x.took r).accept (heldReq s r c))) rfl _) ?_)
      rw [session_setSession_ne _ _ _ _ hm, session_setSession_ne _ _ _ _ hm]; rfl
    exact ht.alone _ (mem_of_session h')
  have hnext : ((x.took r).accept (heldReq s r c)).next? = some (heldReq s r c) := by
    rw [hy]
    have h2 : (x.took r).waiting = none := ht.waiting
    have h3 : (x.took r).run = r.seq.toNat := ht.run
    simp [Session.next?, h2, h3, hheld, heldReq]
  have hrun := runNext_alone _ _ _ _ (accepted_session s r x c ht) hnext hall (accepted s r x c).turns
    (mem_turns (by rw [hhost]; exact key_mem_sset _ _ hyn))
  unfold State.drain
  rw [if_neg hsrv, hlen]
  simp only [State.runAll]
  rw [hrun]
  cases (accepted s r x c).execute r.session.toNat ((x.took r).accept (heldReq s r c)) (heldReq s r c) <;> rfl

/-- A request in turn that its role may send and nothing holds back is served in the state `served`. -/
theorem execute_served (s : State) (r : Req) (x : Session) (c : Cmd) (ht : Takes s r x) (hp : Permits s x c) :
    (accepted s r x c).execute r.session.toNat ((x.took r).accept (heldReq s r c)) (heldReq s r c) =
      match (served s r x c).serveCmd (callerOf s r x c) c with
      | .wait => none
      | .later on t => some (deferred t r c on)
      | .done status body t =>
        let t1 := answered t r c status body
        some (if c = .close then t1.endSession r.session.toNat else t1) := by
  have hsrv : (accepted s r x c).fld Reg.MBX_STATUS_SERVER = s.fld Reg.MBX_STATUS_SERVER := by
    simp only [accepted, State.accum]
    rw [fld_setFld_ne _ _ _ _ _ _ _ _ (by decide), setSession_fld, setSession_fld, countRx_fld _ _ _ rfl (by decide) (by decide)]
  have hrole : ((x.took r).accept (heldReq s r c)).role = x.role := by rw [accept_next s r x c ht.early ht.next]; rfl
  have hcode : (accepted s r x c).opcodeRefusal ((x.took r).accept (heldReq s r c)).role (opcodeOf c) = 0 := by
    rw [hrole]
    simpa only [State.opcodeRefusal, hsrv] using hp.listed
  have hch : (accepted s r x c).changing = s.changing := rfl
  have hfu : (accepted s r x c).logFull = s.logFull := rfl
  have hw : (accepted s r x c).mustWait (opcodeOf c) = false := by
    simp only [State.mustWait, hch, hfu]
    have h1 := hp.ahead
    have h2 := hp.now
    cases h3 : logsAhead (opcodeOf c) <;> cases h4 : logsNow (opcodeOf c) <;> simp_all
  have hf : ¬ (logsNow (opcodeOf c) = true ∧ (accepted s r x c).logFull = true) := by
    rw [hfu]; intro h; rw [hp.now h.1] at h; exact absurd h.2 (by simp)
  have hok : (heldReq s r c).ok = true := ht.body
  have hcmd : (heldReq s r c).cmd = c := rfl
  unfold State.execute
  simp only [hcmd, hcode, hok, hw, hf]
  simp only [ne_eq, not_true_eq_false, Bool.not_true, Bool.false_eq_true, if_false]
  show (match (served s r x c).serveCmd (callerOf s r x c) c with
    | .wait => none | .later on t => _ | .done status body t => _) = _
  cases (served s r x c).serveCmd (callerOf s r x c) c with
  | wait => rfl
  | later on t => cases on <;> rfl
  | done a b t => rfl

/-- In service a listed command is refused to no role that R383 names. -/
theorem opcodeRefusal_inTurn {s : State} {r : Req} {x : Session} {c : Cmd} (ht : InTurn s r x) (hc : ∀ op, c ≠ .unlisted op)
    (hr : x.role ∈ opcodeRoles (opcodeOf c)) : s.opcodeRefusal x.role (opcodeOf c) = 0 := by
  simp [State.opcodeRefusal, ht.server, listed_of_cmd c hc, hr]

/-- The session that a reply leaves. -/
def repliedSession (y : Session) (r : Req) (c : Cmd) (status : Nat) (body : Bytes) (proxy : Bool := false) : Session :=
  { y with
    waiting := none, run := (y.run + 1) % 2 ^ 32
    ctrOut := if proxy then y.ctrOut else y.ctrOut + 1, ctrProxy := if proxy then y.ctrProxy + 1 else y.ctrProxy
    done := ({ seq := r.seq.toNat, opcode := opcodeOf c, status := status, body := body } :: y.done).take 64 }

/-- What a reply does. -/
theorem answered_eq {u : State} {r : Req} {c : Cmd} (status : Nat) (body : Bytes) {y : Session} {l : Bool} (hs : u.lanternServes = l)
    (hy : u.session r.session.toNat = some y) (hw : y.waiting = some (r.seq.toNat, opcodeOf c))
    (hc : (if l then y.ctrProxy else y.ctrOut) < ctrLimit) (hp : u.hostIsUp y.port = true) :
    answered u r c status body =
      (u.setSession r.session.toNat (repliedSession y r c status body l)).sendDgram y.port y.addr y.udp typeReply r.session.toNat r.seq.toNat
        (opcodeOf c) status 0 ((if l then y.ctrProxy else y.ctrOut) + 1) l true body := by
  have hrole := role_of_session hy
  unfold answered State.reply
  simp only [hy, hw, ne_eq, not_true_eq_false, if_false]
  generalize hz : ({ y with
        waiting := none, run := (y.run + 1) % 2 ^ 32
        done := ({ seq := r.seq.toNat, opcode := opcodeOf c, status := status, body := body } :: y.done).take 64 } : Session) = z
  have hzr : z.role ≠ 3 := by rw [← hz]; exact hrole
  have hzn : z ≠ .closed := fun e => hzr (by rw [e]; rfl)
  unfold State.answerSession State.sessionSend
  rw [session_setSession _ _ _ hzr]
  have hl : (u.setSession r.session.toNat z).lanternServes = l := by
    simpa only [State.lanternServes, setSession_fld] using hs
  have hzc : z.ctrOut = y.ctrOut ∧ z.ctrProxy = y.ctrProxy := by rw [← hz]; exact ⟨rfl, rfl⟩
  have hout : (u.setSession r.session.toNat z).outPort z.port = some y.port := by
    have hzp : z.port = y.port := by rw [← hz]
    have : (u.setSession r.session.toNat z).hostIsUp y.port = true := by simpa only [State.hostIsUp, setSession_fld] using hp
    simp only [State.outPort, hzp, List.find?_cons, this]
  simp only [hl, hzc.1, hzc.2, hout, Nat.not_lt.2 (Nat.succ_le_of_lt hc), if_false]
  have key (w : Session) : (u.setSession r.session.toNat z).setSession r.session.toNat w = u.setSession r.session.toNat w := by
    simp only [State.setSession, sset_sset _ _ _ hzn]
  cases l <;>
  · simp only [reduceIte, Bool.false_eq_true, key]
    rw [← hz]; rfl

/-- A request in turn that is answered at once. -/
theorem mailbox_done (s : State) (r : Req) (x : Session) (c : Cmd) (ht : Takes s r x) (hp : Permits s x c)
    (hcl : c ≠ .close) {status : Nat} {body : Bytes} {u : State}
    (h : (served s r x c).serveCmd (callerOf s r x c) c = .done status body u) (hu : executing u r c) :
    s.mailbox r c = answered u r c status body := by
  rw [mailbox_accepted s r x c ht hp.awake, accepted_drain s r x c ht, execute_served s r x c ht hp, h]
  simp only [Option.getD_some, hcl, if_false]
  obtain ⟨y, hy, hw, hl, hp⟩ := hu
  have hrole := role_of_session hy
  have hd : (answered u r c status body).session r.session.toNat = some (repliedSession y r c status body u.lanternServes) := by
    rw [answered_eq status body rfl hy hw hl hp]; exact session_setSession _ _ _ hrole
  simp [hd, repliedSession]

/-- A request in turn whose reply is put off is acknowledged. -/
theorem mailbox_later (s : State) (r : Req) (x : Session) (c : Cmd) (ht : Takes s r x) (hp : Permits s x c)
    {on : Option WaitOn} {u : State} (h : (served s r x c).serveCmd (callerOf s r x c) c = .later on u)
    {y : Session} (hy : u.session r.session.toNat = some y) (hd : ∀ d ∈ y.done, d.seq ≠ r.seq.toNat) :
    s.mailbox r c = acked (deferred u r c on) r c := by
  rw [mailbox_accepted s r x c ht hp.awake, accepted_drain s r x c ht, execute_served s r x c ht hp, h]
  have hnone : (y.done.any fun d => decide (d.seq = r.seq.toNat)) = false := by
    simp only [List.any_eq_false, decide_eq_true_eq]; exact hd
  have : (deferred u r c on).session r.session.toNat = some y := by
    cases on with
    | none => exact hy
    | some w => exact hy
  simp only [Option.getD_some, this, hnone]
  rfl

end Sys2Proof.Laws
end

