-- ==== Sys2Proof/Laws/Mask.lean ====
section
/-! SUPPORT. The Spindrift mask (R482) at the ends of its probability, and the one output that eight elements share. -/
namespace Sys2Proof.Machine
open Sys2Proof

/-- A piece of a mask's output has sixteen bits. -/
theorem maskPiece_lt (n j : Nat) : bits n (16 * j + 15) (16 * j) < 65536 := by
  have h : 16 * j + 15 + 1 - 16 * j = 16 := by omega
  simpa [bits, h] using Nat.mod_lt (n >>> (16 * j)) (show 0 < 2 ^ 16 by decide)

/-- At k = 65,536 a mask keeps every element. -/
theorem maskKeeps_all (key stream tensor step i : Nat) : maskKeeps key stream tensor step 65536 i = true := by
  simpa [maskKeeps] using maskPiece_lt _ (i % 8)

/-- At k = 0 a mask keeps none. -/
theorem maskKeeps_none (key stream tensor step i : Nat) : maskKeeps key stream tensor step 0 i = false := by simp [maskKeeps]

/-- A mask of a larger k keeps what one of a smaller k keeps. -/
theorem maskKeeps_mono (key stream tensor step k l i : Nat) (hk : k ≤ l) (h : maskKeeps key stream tensor step k i = true) :
    maskKeeps key stream tensor step l i = true := by
  simp only [maskKeeps, decide_eq_true_eq] at h ⊢
  omega

end Sys2Proof.Machine
end

