-- ==== Sys2Proof/Laws/Residue.lean ====
section
/-! SUPPORT. The residue check of a cell (R458): what the residue is, and that one wrong bit always shows. -/
namespace Sys2Proof.Machine
open Sys2Proof

/-- The residue that a cell forms is that of the true partial (R458). -/
theorem cellResidue_eq (a b : List Int) : cellResidue a b = tilePartial a b % 15 := by
  have h : ∀ (l m : List Int) (n : Int), (n + (List.zipWith (fun x y => x % 15 * (y % 15)) l m).sum) % 15
      = (List.zipWith (· * ·) l m).foldl (· + ·) n % 15 := by
    intro l
    induction l with
    | nil => intro m n; simp
    | cons x l ih =>
      intro m n
      cases m with
      | nil => simp
      | cons y m =>
        simp only [List.zipWith_cons_cons, List.sum_cons, List.foldl_cons]
        rw [← ih m (n + x * y), ← Int.add_assoc]
        simp [Int.add_emod, Int.mul_emod]
  simpa [cellResidue, tilePartial] using h a b 0

/-- No power of two is a multiple of 15, so one wrong bit of a partial always shows (R458). -/
theorem two_pow_emod_fifteen (b : Nat) : (2 : Int) ^ b % 15 ≠ 0 := by
  have h : (2 : Int) ^ b % 15 ∈ [1, 2, 4, 8] := by
    induction b with
    | zero => decide
    | succ n ih =>
      rw [Int.pow_succ, Int.mul_emod]
      generalize (2 : Int) ^ n % 15 = v at ih
      simp only [List.mem_cons, List.not_mem_nil, or_false] at ih
      obtain rfl | rfl | rfl | rfl := ih <;> decide
  intro h0
  rw [h0] at h
  exact absurd h (by decide)

end Sys2Proof.Machine
end

