-- ==== Sys2Proof/WellFormed.lean ====
section
/-! DEFINITION. Which commands are well formed: every number fits the field that the manual gives it, every byte is a byte. The fields'
other rules are checked where the command runs, with the refusal that the manual names. -/
namespace Sys2Proof.WellFormed

open Sys2Proof

/-- A number that fits `w` bits. -/
def word (w n : Nat) : Bool := decide (n < 2 ^ w)

/-- A number that fits `w` bits, where one is given. -/
def optWord (w : Nat) (n : Option Nat) : Bool := n.all (word w)

/-- A run of bytes. -/
def bytesOk (b : Bytes) : Bool := b.all (word 8)

/-- A request's datagram carries at most the bytes that its LEN can count (R370). -/
def reqOk (r : Req) : Bool := word 16 r.len && word 16 r.bytes

/-- The fields of an OPEN body (R373): 8, 4, 256, 448 and 256 bits. -/
def openOk (b : OpenBody) : Bool := word 8 b.role && word 4 b.pitch && word 256 b.cred && word 448 b.hostKx && word 256 b.nonce

/-- The session and time of day of a register write (R370). -/
def actorOk (a : Actor) : Bool := word 32 a.session && word 64 a.tod

/-- The header fields of a packet and its payload (R344). -/
def packetOk (p : Packet) : Bool :=
  word 8 p.kind && word 4 p.subtype && word 4 p.pitch && word 16 p.job && word 12 p.src && word 12 p.dst && word 48 p.addr && word 32 p.seqn
    && word 16 p.tag && word 16 p.status && word 3 p.etype && word 4 p.hops && word 72 p.iv && word 1 p.vl && bytesOk p.body
    && decide (p.body.length ≤ 256)

/-- An RDMA packet's queue pair, rkey and address (R386). -/
def rdmaOk (p : Rdma) : Bool := word 24 p.qp && word 32 p.rkey && word 48 p.addr

/-- The lanes of a cycle report (R134). -/
def cyclesOk (c : Cycles) : Bool := c.lanes.all fun l => word 8 l.1

/-- The symbol positions in error of a codeword, or the bit positions of a Shelf line (R310, R329). -/
def errOk (e : ReadErr) : Bool := e.positions.all (word 10)

/-- The opcodes of R383. -/
def listed : List Nat :=
  [0x0001, 0x0002, 0x0003, 0x0101, 0x0102, 0x0103, 0x0104, 0x0201, 0x0202, 0x0203, 0x0204, 0x0301, 0x0302, 0x0303, 0x0304, 0x0305, 0x0401,
    0x0402, 0x0403, 0x0501, 0x0502, 0x0503, 0x0504, 0x0505, 0x0601, 0x0602, 0x0603, 0x0604, 0x0605, 0x0606, 0x0607, 0x0701, 0x0702, 0x0703,
    0x0801, 0x0802, 0x0803, 0x0804]

end Sys2Proof.WellFormed

namespace Sys2Proof

open Sys2Proof.WellFormed

/-- Whether a command is well formed. -/
def wellFormed : Instr → Bool
  | .openSession r body => reqOk r && openOk body
  | .close r => reqOk r
  | .ping r body => reqOk r && bytesOk body
  | .unlistedOpcodeRequest r opcode => reqOk r && word 16 opcode && !listed.contains opcode
  | .memRead r addr len lines => reqOk r && word 64 addr && word 16 len && lines.all fun e => e.all errOk
  | .memWrite r addr data => reqOk r && word 64 addr && bytesOk data
  | .winOpen r addr len access peer => reqOk r && word 64 addr && word 64 len && word 8 access && word 128 peer
  | .winClose r rkey => reqOk r && word 32 rkey
  | .jobStart r addr => reqOk r && word 64 addr
  | .jobSeed r seed nonce => reqOk r && word 256 seed && word 128 nonce
  | .jobEnd r _ => reqOk r
  | .jobStatus r => reqOk r
  | .streamStart r _ _ record => reqOk r && word 256 record
  | .streamResume r _ _ _ => reqOk r
  | .streamAbort r _ _ => reqOk r
  | .streamStatus r _ _ => reqOk r
  | .stashFree r mbatch => reqOk r && optWord 32 mbatch
  | .tallyRead r _ first count => reqOk r && word 16 first && word 16 count
  | .tallySet r _ _ _ _ => reqOk r
  | .guySet r _ _ => reqOk r
  | .fence r _ => reqOk r
  | .unfence r _ => reqOk r
  | .unitState r _ => reqOk r
  | .commitStatus r => reqOk r
  | .commitSettle r step attempt _ => reqOk r && word 32 step && word 8 attempt
  | .regRead r addrs => reqOk r && addrs.all (word 48)
  | .regWrite r pairs => reqOk r && (pairs.all fun p => word 48 p.1 && word 64 p.2)
  | .registerWrite a addr value => actorOk a && word 48 addr && word 64 value
  | .eventRead r _ => reqOk r
  | .telemRead r selector argument => reqOk r && word 8 selector && word 32 argument
  | .portCmd r _ _ => reqOk r
  | .powerState r target => reqOk r && word 8 target
  | .hbmTest r _ settings => reqOk r && (settings.all fun x => word 32 x.2.1 && word 64 x.2.2.1 && word 64 x.2.2.2.1 && word 64 x.2.2.2.2)
  | .logRead r _ => reqOk r
  | .logCheckpoint r => reqOk r
  | .attest r nonce => reqOk r && word 256 nonce
  | .fwStage r _ offset data => reqOk r && word 32 offset && bytesOk data
  | .fwVerify r _ _ => reqOk r
  | .fwActivate r _ _ => reqOk r
  | .fwStatus r => reqOk r
  | .assign a _ => actorOk a
  | .apply a _ => actorOk a
  | .seal a _ => actorOk a
  | .release a _ => actorOk a
  | .forceRelease a _ => actorOk a
  | .ownerTransfer a => actorOk a
  | .debugUnlock a => actorOk a
  | .debugLock a => actorOk a
  | .secTenantKeyWrite a _ _ => actorOk a
  | .secFab0KeyWrite a _ => actorOk a
  | .satBitClear a addr value => actorOk a && word 48 addr && word 64 value
  | .guyCfgWrite a _ _ => actorOk a
  | .hbmTgGo a _ _ _ => actorOk a
  | .lntWdogKick a _ => actorOk a
  | .hostLinkDown _ => true
  | .hostLinkUp _ _ => true
  | .lldpTransmit => true
  | .lldpReceive _ tlvs _ => bytesOk tlvs
  | .icmpv6Echo _ _ body _ => bytesOk body
  | .neighbourDiscovery _ _ _ => true
  | .rdmaWrite p data => rdmaOk p && bytesOk data
  | .rdmaRead p len => rdmaOk p && word 32 len
  | .roceUnsupportedOperation p => rdmaOk p
  | .sessionIdleTimeout n => word 32 n
  | .lanternClaim r opcode => reqOk r && word 16 opcode
  | .plSig _ _ _ => true
  | .plWait _ _ _ _ => true
  | .plTrywait _ _ _ _ => true
  | .plTake _ _ _ => true
  | .plTread _ _ _ => true
  | .plBar _ _ _ => true
  | .plWfence _ _ _ => true
  | .plStart _ _ _ _ => true
  | .plSstat _ _ _ => true
  | .plBf16 _ _ _ => true
  | .plE2m1 _ _ _ _ => true
  | .plSpd _ _ _ _ _ => true
  | .xpegIllegalInstruction _ _ => true
  | .pegBlockTimeout _ _ _ => true
  | .pegBlockInterrupt _ => true
  | .tallyLimitStore _ _ _ => true
  | .streamTakeRecord _ => true
  | .matmul _ => true
  | .quantise _ => true
  | .convert _ => true
  | .vprog _ => true
  | .dmaCopy _ => true
  | .dmaReduce _ => true
  | .gather _ => true
  | .signal _ => true
  | .wait _ => true
  | .take _ => true
  | .barrier _ => true
  | .stashPut _ => true
  | .stashGet _ => true
  | .digest _ => true
  | .commit _ => true
  | .fencePoint _ => true
  | .nop _ => true
  | .endStream _ => true
  | .descriptorComplete _ _ _ => true
  | .descWatchdog _ _ _ => true
  | .streamWaitTimeout _ => true
  | .forcedAbortComplete _ => true
  | .stashPutAcknowledged _ _ => true
  | .chainListDone _ => true
  | .gsAddRetry _ _ _ => true
  | .panelReady _ _ _ _ _ _ cyc => cyclesOk cyc
  | .amaxPrepassDone _ _ _ _ => true
  | .blockEnd _ _ _ cyc => cyclesOk cyc
  | .drainBankDone _ _ cyc => cyclesOk cyc
  | .writeAcknowledged _ _ _ => true
  | .arrayPark _ => true
  | .arrayUnpark _ => true
  | .rampDownDone _ => true
  | .feedStall _ _ _ _ cyc => cyclesOk cyc
  | .drainStall _ _ _ cyc => cyclesOk cyc
  | .engineWatchdog _ _ _ _ _ cyc => cyclesOk cyc
  | .marginOk _ => true
  | .marginDenied _ => true
  | .marginRelease _ => true
  | .remoteSignal pkt _ => packetOk pkt
  | .parkedSignalApply => true
  | .signalAhead _ => true
  | .guylineRelease _ _ => true
  | .fabricArrive pkt _ _ => packetOk pkt
  | .fabricRelease pkt _ _ => packetOk pkt
  | .fabricArriveResend _ => true
  | .longWaiter _ _ => true
  | .voteReady pkt _ => packetOk pkt
  | .voteAbort pkt _ => packetOk pkt
  | .decideCommit pkt _ => packetOk pkt
  | .decideAbort pkt _ => packetOk pkt
  | .decideAck pkt _ => packetOk pkt
  | .query pkt _ => packetOk pkt
  | .stateReply pkt _ => packetOk pkt
  | .voteTimeout _ => true
  | .decideResend _ => true
  | .decisionWaitTimeout _ => true
  | .collReady pkt _ => packetOk pkt
  | .collDone pkt _ => packetOk pkt
  | .collAbort pkt _ => packetOk pkt
  | .collPull pkt _ => packetOk pkt
  | .remoteRead pkt _ => packetOk pkt
  | .remoteWrite pkt _ => packetOk pkt
  | .remoteAdd pkt _ => packetOk pkt
  | .remoteAddReduce pkt _ => packetOk pkt
  | .remoteAmo pkt _ => packetOk pkt
  | .remoteCompletion pkt _ => packetOk pkt
  | .packetForward pkt _ => packetOk pkt
  | .fabricRequestTimeout _ => true
  | .pairEntryIdle _ _ => true
  | .fabricBusyResend _ => true
  | .dataFlitReceive _ _ _ _ _ _ _ fecUnc => word 32 fecUnc
  | .nakReceive _ _ _ _ => true
  | .idleFlitTimer _ => true
  | .replayTimeout _ => true
  | .linkRetrainDone _ _ => true
  | .linkRetrainTimeout _ _ _ => true
  | .downPortRetry _ => true
  | .hbmAccess _ line _ err _ => word 42 line && errOk err
  | .memoryAdd _ line _ _ _ _ err _ => word 42 line && errOk err
  | .shelfAccess _ line _ err _ => word 42 line && errOk err
  | .hbmRefresh _ => true
  | .hbmScrub _ err => errOk err
  | .shelfScrub _ err => errOk err
  | .hbmAccessTimeout _ line _ => word 42 line
  | .hbmRetrainDone _ => true
  | .hbmRetrainFail _ => true
  | .reformZeroingDone => true
  | .shelfReformDone _ => true
  | .pageZeroingDone _ => true
  | .slabZeroingDone _ _ => true
  | .pageMoveDone => true
  | .pageMoveTimeout => true
  | .retireRetry page => word 20 page
  | .tgRunDone _ words _ => words.all (word 24)
  | .flowOkFall => true
  | .flowOkRise => true
  | .coolantStop => true
  | .coolantIslandGate => true
  | .coolantResumed => true
  | .engineThermalTrip _ _ _ _ _ => true
  | .thermalReturn _ => true
  | .packageThermalTrip _ _ => true
  | .thermalStepDown _ _ _ => true
  | .thermalStepUp _ => true
  | .voltageAdjust _ _ _ _ => true
  | .fastPathLimit _ => true
  | .fastPathRelease => true
  | .moduleLimitSample _ _ => true
  | .energySample _ camps use => camps.all (word 32) && use.all (word 32)
  | .sensorSample _ _ => true
  | .coolantMonitorRead _ => true
  | .governorWindow _ acts _ runs _ => decide (acts.length ≤ 8) && decide (runs.length ≤ 8) && runs.all fun r => decide (r.cycles ≤ 256)
  | .pitchRebalance _ => true
  | .idleEntry => true
  | .idleWake => true
  | .dzisiaRestart _ _ _ => true
  | .dzisiaRestartRetry _ => true
  | .lanternRestart _ => true
  | .securityBlockPowerUp => true
  | .securityBlockPowerDown => true
  | .pwrEnFall => true
  | .pwrEnRise => true
  | .presentNRise => true
  | .inputUndervoltage _ => true
  | .inputOvervoltage _ => true
  | .inputOvercurrent => true
  | .inputRestored => true
  | .lanternPowerUp _ _ _ => true
  | .startHoldPassed _ => true
  | .railsDone => true
  | .railTimeout => true
  | .securityPhaseDone _ => true
  | .bootRomDone _ _ _ => true
  | .stage1Done _ => true
  | .trainingDone _ => true
  | .startTimeout => true
  | .startRetry => true
  | .handoffSwitch => true
  | .handoffComplete => true
  | .handoffTimeout => true
  | .fenceAcknowledged _ _ => true
  | .fenceTimeout _ _ => true
  | .heartbeatTick _ => true
  | .heartbeatRead _ => true
  | .selftestPeriodic _ _ => true
  | .selftestDone _ => true
  | .guestSlotsDrained _ => true
  | .crossingParityRefusal _ => true
  | .logFlush _ => true
  | .logAheadDone _ => true
  | .rampUpDone _ => true
  | .idleFlitReceive _ _ _ _ => true
  | .dozeExitDone => true
  | .dzisiaRestartDone _ => true
  | .lanternSummary => true
  | .powerRemoved => true

end Sys2Proof
end

