-- ==== Sys2Proof/Tests/Slice0.lean ====
section
/-! SUPPORT. The model's own tests: small states; for every clause of an obligation that has hypotheses, a state and operands that meet
them all (theorems witness_<obligation>_<clause>); the spec's worked examples; terms that WellFormed refuses. -/
namespace Sys2Proof.Tests

open Sys2Proof Sys2Proof.Machine Sys2Proof.Safety

set_option Elab.async false

/-- A request in turn, from facts that evaluation decides. -/
theorem takes {s : State} {r : Req} {x : Session}
    (h : (s.hostIsUp r.port.val = true ∧ r.frame = .plain ∧ frameOverhead + r.bytes ≤ 9216 ∧ r.dport.toNat = dzmpPort ∧ dzmpForm r true = true
        ∧ r.bodyOk = true ∧ r.tagOk = true)
      ∧ (s.session r.session.toNat = some x ∧ x.fresh r.ctr.toNat = true ∧ r.ctr.toNat ≤ ctrLimit
        ∧ (if s.lanternServes then x.ctrProxy else x.ctrOut) < ctrLimit ∧ s.fld Reg.MBX_STATUS_SERVER ≠ 1 ∧ s.starting = false)
      ∧ x.next = r.seq.toNat ∧ x.run = r.seq.toNat ∧ x.early = [] ∧ x.waiting = none ∧ (∀ e ∈ s.host.sessions, e.2.held = [])
      ∧ ∀ d ∈ x.done, d.seq ≠ r.seq.toNat) : Takes s r x :=
  let ⟨⟨a1, a2, a3, a4, a5, a6, a7⟩, ⟨b1, b2, b3, b4, b5, b6⟩, c1, c2, c3, c4, c5, c6⟩ := h
  ⟨a1, a2, a3, a4, a5, a6, a7, b1, b2, b3, b4, b5, b6, c1, c2, c3, c4, c5, c6⟩
theorem inTurn {s : State} {r : Req} {x : Session} (h : Takes s r x) (hs : s.fld Reg.MBX_STATUS_SERVER = 0) : InTurn s r x := ⟨h, hs⟩

/-- A group of facts in a row, decided at once. -/
theorem all3 {a b c r : Prop} (h : a ∧ b ∧ c) (k : r) : a ∧ b ∧ c ∧ r := ⟨h.1, h.2.1, h.2.2, k⟩
theorem all4 {a b c d r : Prop} (h : a ∧ b ∧ c ∧ d) (k : r) : a ∧ b ∧ c ∧ d ∧ r := ⟨h.1, all3 h.2 k⟩
theorem all5 {a b c d e r : Prop} (h : a ∧ b ∧ c ∧ d ∧ e) (k : r) : a ∧ b ∧ c ∧ d ∧ e ∧ r := ⟨h.1, all4 h.2 k⟩
theorem all6 {a b c d e f r : Prop} (h : a ∧ b ∧ c ∧ d ∧ e ∧ f) (k : r) : a ∧ b ∧ c ∧ d ∧ e ∧ f ∧ r := ⟨h.1, all5 h.2 k⟩
theorem all7 {a b c d e f g r : Prop} (h : a ∧ b ∧ c ∧ d ∧ e ∧ f ∧ g) (k : r) : a ∧ b ∧ c ∧ d ∧ e ∧ f ∧ g ∧ r := ⟨h.1, all6 h.2 k⟩
theorem all8 {a b c d e f g i r : Prop} (h : a ∧ b ∧ c ∧ d ∧ e ∧ f ∧ g ∧ i) (k : r) : a ∧ b ∧ c ∧ d ∧ e ∧ f ∧ g ∧ i ∧ r := ⟨h.1, all7 h.2 k⟩
theorem all9 {a b c d e f g i j r : Prop} (h : a ∧ b ∧ c ∧ d ∧ e ∧ f ∧ g ∧ i ∧ j) (k : r) : a ∧ b ∧ c ∧ d ∧ e ∧ f ∧ g ∧ i ∧ j ∧ r := ⟨h.1, all8 h.2 k⟩

/-- What an access answers, where it answers. -/
def got {α : Type} : Acc α → Option α
  | .ok x => some x
  | _ => none

theorem gotIt {α : Type} {a : Acc α} {x : α} (h : got a = some x) : a = .ok x := by
  cases a <;> simp_all [got]

/-- A session of a role in a pitch whose next SEQ is 1. -/
def ses (role pitch : Nat) : Session := { Session.closed with role := role, pitch := pitch, next := 1, run := 1 }
def war : Session := ses 0 0
def ten : Session := ses 1 1
def stw : Session := ses 2 0

/-- A good request of a session with SEQ 1 and CTR 1. -/
def rq (n : Nat) : Req :=
  { port := 0, frame := .plain, source := 0x1234, udp := 7, dport := 48480, bytes := 56, head := BitVec.ofNat 64 (dzmpHead 1 false)
    session := BitVec.ofNat 32 n, ctr := 1, seq := 1, tod := 0, len := 0, tagOk := true, bodyOk := true }

/-- The module in service: host port 0 up, a Warden, a Tenant and a Steward session, pitch 1 with camps 0 and 1, guyline 0, two
HBM pages and a slab of each die; every stream slot of priority 0. -/
def up : State :=
  ({ State.reset with
    ctl := []
    host := { HostSide.initial with sessions := [(1, war), (2, ten), (3, stw)] }
    ras := { State.reset.ras with owners := [(0, 1), (1, 1)], slabOwners := [(0, 1), (32, 1)] }
    sec := { State.reset.sec with
      pitches := [(1, { map := { camps := 3, guys := 1, pages := [0, 1], slabs0 := [0], slabs1 := [32], dark := 0 }, joiningPages := [], joiningSlabs := []
                        hbmKey := some 1, fabKey := some 1, spdKey := some 1, rotSeed := some 1 })] } }).setFld Reg.HE_STATUS_STATE 2 36

/-- Pitch 1 with a job. -/
def busy : State := { up with jobs := [(1, { Job.none with num := 1, gsize := 64 })] }

/-- The same, with no seed installed. -/
def seedless : State := { busy with sec := { busy.sec with pitches := busy.sec.pitches.map fun e => (e.1, { e.2 with rotSeed := none }) } }

/-- A job parameter block at the start of the pitch's HBM: job 1, one participant, device 0. -/
def jobMem : State := ({ up with mem := [(16, 1), (20, 0x10), (22, 2)] }).setFld Reg.TWY_DEV_ID_ID 0 0
def jobBlk : JobBlock :=
  { head := 2 ^ 128 + 2 ^ 164 + 2 ^ 177, scope := 0, guys := 0, parts := [0], tensors := [], placeAt := 392 }

/-- Engine 9 out of service. -/
def fencedEng : State :=
  ({ up with rel := { up.rel with records := [(locEngine 9, 2)] } }).setFld Reg.FEN_STATE_ENG_STATE 2 9

/-- A window of the Tenant's over the first 4,096 bytes of HBM, and a request that it admits. -/
def win : State :=
  { up with host := { up.host with windows := [(5, { noWindow with qp := 3, length := 4096, access := 3, peer := 9, session := 2, pitch := 1 })] } }
def rd : Rdma := { port := 0, frame := .plain, source := 9, qp := 3, rkey := 5, addr := 0, congested := false }

/-- A REG_WRITE of the Tenant's: PRIO and WAIT_LOG2 of slot 1 of camp 1. -/
def prioPairs : List (Nat × Nat) := [(Reg.STR_CFG_PRIO.addr 5 0, 0x301)]
def prioSet : State :=
  (State.writePairs (callerOf busy (rq 2) ten (.regWrite prioPairs)) prioPairs (served busy (rq 2) ten (.regWrite prioPairs))).2.2

theorem noWait {s : State} {c t : Nat} (h : s.sync.waits = []) : noWaiter s c t := by
  intro w hw; rw [h] at hw; cases hw

/-- Pitch 1 with a job, a tally of camp 0 at 3 of 7, and guyline 0 taking camps 0 and 1. -/
def syn : State :=
  (({ busy with sync := { busy.sync with tallies := [(5, { limit := 7, count := 3 })] } }).setFld Reg.GUY_CFG_CAMP_MASK 3 0).setFld Reg.GUY_CFG_PITCH 1 0
/-- The address of that tally. -/
def t5 : BitVec 64 := BitVec.ofNat 64 (tallyBase + 40)

/-- A descriptor may issue, from facts that evaluation decides. -/
theorem issues {s : State} {k t w : Nat} {x : StreamSlot} {r : StartRec} (hx : x = s.atNext k)
    (h : x.run = some r ∧ x.frame.entry x.frame.next = some (x.frame.next, 0, w) ∧ x.state = 1 ∧ s.campRuns (slotCamp k) = true
      ∧ x.allFlights.length < 32 ∧ x.frame.flights.length + x.frame.behind.length < 32 ∧ x.frame.flights.any holdsBack = false ∧ x.frame.count ≠ some x.frame.next
      ∧ (s.fld Reg.FEN_STATE_CAMP_STATE (slotCamp k) = 0 ∨ t = tFencePoint) ∧ dType w = t ∧ (dAfter w = true ∨ t ∈ [tFencePoint, tCommit, tEnd] → x.alone = true)
      ∧ decodeFault w x.frame.next (s.slotMap k).camps (dLeg w && r.legLen != 0) = none ∧ (x.chain = none ∨ t ∉ noChainTypes)
      ∧ s.touchFault k w = none ∧ rising s.slots = true) : Issuing s k t x r w :=
  let ⟨h1, h2, h3, h4, h5, h6, h7, h8, h9, h10, h11, h12, h13, h14, h15⟩ := h
  ⟨hx, h1, h2, h3, h4, h5, h6, h7, h8, h9, h10, h11, h12, h13, h14, h15⟩

theorem numbered {s : State}
    (h : (s.slots.flatMap fun e => e.2.allFlights.map (·.uid)).Nodup ∧ ∀ e ∈ s.slots, ∀ f ∈ e.2.allFlights, f.uid < s.issued) : Numbered s := h

/-- The bytes of a descriptor of a type, its fields by lowest bit. -/
def word (t : Nat) (fields : List (Nat × Nat)) : Nat := t + (fields.map fun f => f.2 * 2 ^ f.1).sum

/-- A start record of job 1. -/
def rec1 : StartRec := { list := 0, mbatch := 0, legLen := 0, endTally := 5, endCamp := 0, endEn := false }

/-- A running slot with a descriptor next. -/
def running (w : Nat) : StreamSlot :=
  { StreamSlot.idle with state := 1, run := some rec1, main := { Frame.empty with fetched := [(0, 0, w)] } }

/-- Slot 1 of camp 0 runs a list whose next descriptor is `w`. -/
def strm (w : Nat) : State := { syn with slots := [(1, running w)] }
def nxt (s : State) : StreamSlot := s.atNext 1

/-- A descriptor in flight. -/
def flight (w : Nat) : Flight :=
  { uid := 0, idx := 0, leg := 0, sect := none, sectMax := 0, word := w, bank := 0, map := busy.mapOf 1, left := 1, begun := true, done := true
    code := 0, keep := [] }

/-- The same slot with a NOP's flight before its next descriptor. -/
def strm2 (w : Nat) : State :=
  { syn with
    issued := 1
    slots := [(1, { running w with main := { Frame.empty with next := 1, fetched := [(0, 0, 0x3E), (1, 0, w)], flights := [flight 0x3E] } })] }
def nopWord : Nat := word tNop []
def sigWord (amount : Nat) : Nat := word tSignal [(81, 5), (128, amount)]
def sigFar (amount : Nat) : Nat := word tSignal [(81, 5), (76, 1), (64, 9), (128, amount)]
def takeWord (amount : Nat) : Nat := word tTake [(81, 5), (128, amount)]
def waitWord (amount : Nat) : Nat := word tWait [(81, 5), (128, amount)]
/-- No unit of camp 0 is in the fencing state, from its latch words. -/
theorem noFencing {s : State} (he : ∀ e < 8, s.latch (.engine e) ≠ 1) (hl : ∀ e < 8, ∀ m < 16, s.fld Reg.FEN_LANE_STATE e m = 0) :
    ∀ e, e / 8 = 0 → s.latch (.engine e) ≠ 1 ∧ ∀ l, l < 256 → s.laneLatch e l ≠ 1 := by
  intro e h
  have h8 : e < 8 := by omega
  refine ⟨he e h8, fun l hl2 => ?_⟩
  simp [State.laneLatch, hl e h8 (l / 16) (by omega), bits]

/-- The list's END signals tally 5 of camp 0. -/
def ending : State := { syn with slots := [(1, { running (word tEnd []) with run := some { rec1 with endEn := true } })] }

/-- A WAIT next, behind one of a Peg core that cannot be served. -/
def waiting : State :=
  { strm2 (waitWord 1) with sync := { syn.sync with waits := [{ camp := 0, tally := 5, agent := .peg 7, amount := 4 }] } }

/-- What an access answers, and whether it answers. -/
def theOk {α : Type} (d : α) : Acc α → α
  | .ok x => x
  | _ => d
def isOk {α : Type} : Acc α → Bool
  | .ok _ => true
  | _ => false
theorem okIs {α : Type} {a : Acc α} {d : α} (h : isOk a = true) : a = .ok (theOk d a) := by cases a <;> simp_all [isOk, theOk]
theorem someIs {α : Type} {a : Option α} {d : α} (h : a.isSome = true) : a = some (a.getD d) := by cases a <;> simp_all

/-- Two rows of 100 bytes from 0x40 to 0x1000; the same to device 9; a reduction of them. -/
def copyWord : Nat := word tDmaCopy [(64, 0x40), (128, 0x1000), (256, 2), (288, 100), (320, 128), (368, 256)]
def copyOut : Nat := copyWord + 2 ^ 190 + 9 * 2 ^ 178
def copyIn : Nat := copyWord + 2 ^ 126 + 9 * 2 ^ 114
def reduceWord : Nat := word tDmaReduce [(64, 0x40), (128, 0x1000), (256, 2), (288, 100), (320, 128), (368, 256)]
/-- A gather of two rows of 16 bytes, and the digest of 100 bytes. -/
def gatherWord : Nat := word tGather [(64, 0x40), (128, 0x1000), (192, 0x2000), (256, 2), (288, 16), (320, 32), (368, 64), (448, 7)]
def digestWord (mode : Nat) : Nat := word tDigest [(64, 0x40), (128, 0x1000), (256, 100), (304, mode)]
def strmMem (w : Nat) : State := { strm w with mem := [(0x41, 5), (0x44, 7), (0x2000, 3)] }

/-- What a DIGEST reads and writes. -/
def digRead (s : State) (k : SlotKey) (x : StreamSlot) (r : StartRec) (w : Nat) : Acc Bytes :=
  (s.setSlot k x).readAt (issuing s k x r w).pitch (issuing s k x r w).map ((s.setSlot k x).slotAt (issuing s k x r w) w 64) (gLen w)
def digWrite (s : State) (k : SlotKey) (x : StreamSlot) (r : StartRec) (w : Nat) (bs : Bytes) : Acc State :=
  (s.setSlot k x).writeAt (issuing s k x r w).pitch (issuing s k x r w).map (some (issuing s k x r w).camp)
    ((s.setSlot k x).slotAt (issuing s k x r w) w 128) (if gMode w = 0 then treeDigest bs else beacon bs)

/-- A put of 64 bytes of block 1, whose size is 128 bytes, and a get of them that releases. -/
def putWord : Nat := word tStashPut [(64, 0x100000), (128, 64), (160, 64), (192, 1), (256, 128)]
def getWord : Nat := word tStashGet [(64, 0x110000), (256, 64), (288, 64), (320, 1), (336, 1)]
/-- Slot 1 runs a descriptor; the Stash has one granule for data, which its entry 0 holds in a state, with pending puts. -/
def stashed (w state pending : Nat) : State :=
  ((({ strm w with mem := [(0x100001, 5)] }).setFld Reg.STH_GRANULES 2 1).setEntry 1 0
    (word 0 [(112, 1), (140, state), (144, 1), (160, 1), (176, pending), (192, 1)])).linkGranules 1 [1]
def firstOf (s : State) (k : SlotKey) (x : StreamSlot) (r : StartRec) (w : Nat) : Option State := (s.setSlot k x).firstPut (issuing s k x r w)

/-- A plain record's 32 bytes, at an address. -/
def plainRec (a fmt rows cols pitch base : Nat) (s : State) : State :=
  s.store a (toBytes 32 (word 0 [(224, fmt), (128, pitch), (96, cols), (64, rows)] + base))

/-- Operand records at 0x100 and 0x120, an output record at 0x200 whose destination's record stands at 0x140. -/
def arith (s : State) : State :=
  (plainRec 0x140 1 1 1 4 0x2000 (plainRec 0x120 0 1 2 4 0x1100 (plainRec 0x100 0 1 2 4 0x1000 s))).store 0x200 (toBytes 64 0x140)
def matWord : Nat := word tMatmul [(64, 0x100), (128, 0x120), (192, 0x200), (304, 1)]
def matSt : State := arith (strm matWord)
def quantWord : Nat := word tQuantise [(64, 0x160), (128, 0x180)]
/-- A BF16 source of 8 rows of 8 at 0x1000; a record at 0x180. -/
def quantSt : State :=
  ((plainRec 0x160 0 8 8 16 0x1000 { strm quantWord with sec := seedless.sec }).store 0x180
    (toBytes 32 (word 0 [(0, 8), (32, 8), (64, 0x2000), (112, 0x2040)]))).store 0x1000 [0, 0x40]
def convWord : Nat := word tConvert [(64, 0x160), (128, 0x1C0), (256, 3)]
def convSt : State := plainRec 0x1C0 1 2 8 32 0x2000 (plainRec 0x160 0 2 8 16 0x1000 (strm convWord))
/-- ADD of two rows of 8. -/
def addWord : Nat := word tVprog [(128, 0x240), (256, 0x0C), (264, 3)]
def addSt : State :=
  (plainRec 0x1A0 0 2 8 16 0x2000 (plainRec 0x180 0 2 8 16 0x1100 (plainRec 0x160 0 2 8 16 0x1000 (strm addWord)))).store 0x240
    (toBytes 24 (0x160 + 0x180 * 2 ^ 64 + 0x1A0 * 2 ^ 128))

/-- What a check answers, and whether it answers. -/
def passed {α : Type} : Chk α → Option α
  | .ok x => some x
  | .error _ => none
theorem passedIs {α : Type} {a : Chk α} {x : α} (h : passed a = some x) : a = .ok x := by
  cases a with
  | ok y => simp only [passed, Option.some.injEq] at h; rw [h]
  | error e => cases h

/-- What a QUANTISE, a CONVERT or a VPROG writes, and what an issue makes. -/
def quantOut (s : State) (k : SlotKey) (x : StreamSlot) (r : StartRec) (w : Nat) (p : QPlan) : Acc State :=
  let i := issuing s k x r w
  let s1 := s.setSlot k x
  (s1.zCoarse i.map p w).2.writeAll i.pitch i.map none (s1.zWrites i.map p w (s1.zCoarse i.map p w).1)
def convOut (s : State) (k : SlotKey) (x : StreamSlot) (r : StartRec) (w e : Nat) (c : Converted) : Acc State :=
  let i := issuing s k x r w
  ((s.setSlot k x).countConvert i e c).writeAll i.pitch i.map none c.writes
def vprogOut (s : State) (k : SlotKey) (x : StreamSlot) (r : StartRec) (w : Nat) (p : VPlan) : Acc State :=
  let i := issuing s k x r w
  (s.setSlot k x).vprogWork i.pitch i.camp i.map w i.leg p
def vprogIssue (s : State) (k : SlotKey) (x : StreamSlot) (r : StartRec) (w : Nat) : Option State :=
  (s.setSlot k x).issueVprog (issuing s k x r w)
def convP : Converted := { writes := [(8192, List.replicate 32 0), (8224, List.replicate 32 0)], nans := 0, overs := 0, poison := [], rows := 2 }
def addP : VPlan :=
  { recs := [5444517871368840715565001907804062093312, 5444517871368840715565001907804062093568, 5444517871368840715565001907804062097408]
    param := 0, hdr := 0, row0 := 0, rows := 2, last := true }
theorem okUnit {a : Acc Unit} (h : isOk a = true) : a = .ok () := by cases a <;> simp_all [isOk]
theorem passedGet {α : Type} {a : Chk α} {d : α} (h : (passed a).isSome = true) : a = .ok ((passed a).getD d) := by
  cases a with
  | ok y => rfl
  | error e => cases h
def quantP (s : State) (k : SlotKey) (x : StreamSlot) (r : StartRec) (w : Nat) : QPlan :=
  (passed ((s.setSlot k x).quantChecks (issuing s k x r w))).getD { whole := plainOf 0, src := plainOf 0, row0 := 0, k0 := 0, dst := 0, low := 0, home := 0, coarse := 0, signs := [] }
theorem quantOk {s : State} {k : SlotKey} {x : StreamSlot} {r : StartRec} {w : Nat}
    (h : (passed ((s.setSlot k x).quantChecks (issuing s k x r w))).isSome = true) :
    (s.setSlot k x).quantChecks (issuing s k x r w) = .ok (quantP s k x r w) := passedGet h

/-- Slot 1 runs with one descriptor in flight. -/
def aloft (f : Flight) : State :=
  { syn with
    issued := 1
    slots := [(1, { running nopWord with main := { Frame.empty with next := 1, fetched := [(0, 0, f.word), (1, 0, nopWord)], flights := [f] } })] }
/-- A descriptor whose parts have ended. -/
def ended (w : Nat) : Flight := { flight w with left := 0 }
/-- The same of a blocked slot. -/
def blocked (f : Flight) : State := { aloft f with slots := (aloft f).slots.map fun e => (e.1, { e.2 with state := 2 }) }
def midWait : State := { blocked (flight (waitWord 4)) with sync := { syn.sync with waits := [{ camp := 0, tally := 5, agent := .slot 1, amount := 4 }] } }
/-- A product of a MATMUL in flight, all of it drained. -/
def prod (w : Nat) : Product :=
  let o : Operand := { kind := 0, ax := 0, q := 0, record := 0, low := 0, whole := 0, coarse := 0, amax := 0, prepass := false }
  { uid := 0, slot := 1, pitch := 1, word := w, map := busy.mapOf 1, a := o, b := o, m := 1, n := 1, k := 1, m0 := 0, n0 := 0, k0 := 0, nAll := 1, orec := 0
    dst := 0, hdr := 0, bias := 0, table := 0, rung := 0, pinned := false, signs := [], carryIn := false, carryOut := false, runnel := false
    todo := [], tripped := false, floored := false, poison := false, loss := false, lostAt := [], wrote := true, added := false }
def withProd (s : State) (p : Product) : State := { s with eng := { s.eng with products := [p] } }
/-- A STASH_PUT in flight whose entry has it pending. -/
def putFlight : State := { stashed putWord 1 1 with issued := 1, slots := (aloft (flight putWord)).slots }
theorem noneBlocked : ∀ j, (putFlight.slot j).blockedGet = none := by
  intro j
  by_cases h : (1 : Nat) = j
  · subst h; decide
  · have : putFlight.slot j = .idle := by simp only [putFlight, aloft, State.slot, sget, if_neg h]
    rw [this]; decide

/-- A recompute chain whose list has ended, of a STASH_GET; block `cur` of `target`. -/
def chained (cur target : Nat) : State :=
  { syn with
    mem := [(0x3020, 0x40), (0x3026, 2)]
    issued := 1
    slots := [(1, { running getWord with
      main := { Frame.empty with next := 1, fetched := [(0, 0, (getWord - 2 ^ 336)), (1, 0, nopWord)], flights := [{ flight (getWord - 2 ^ 336) with done := false }] }
      chain := some ({ get := 0, table := 0x3000, target := target, cur := cur, dst := 0x110000 }, { Frame.empty with count := some 2, next := 2 }) })] }

def held (s : State) (f : Flight) : State := { s with eng := { s.eng with held := [f.uid] } }
/-- A product whose amax pre-pass over A, two BF16 values at 0x1000, is still to run. -/
def preProd : Product :=
  let o : Operand := { kind := 0, ax := 0, q := 0, record := 0, low := 0, whole := word 0 [(64, 1), (96, 2), (128, 4)] + 0x1000, coarse := 0
                       amax := 0, prepass := true }
  { prod matWord with todo := [{ row := 0, rows := 1, col := 0, cols := 1 }], a := o }

theorem noDeals {s : State} {c : Nat} (h : s.eng.products = [] ∧ ∀ e < 8, (s.engine (8 * c + e)).queue = [] ∧ (s.engine (8 * c + e)).denied = []) :
    noDeal s c := by
  refine ⟨h.1, fun e he => ?_⟩
  have := h.2 (e - 8 * c) (by omega)
  rwa [show 8 * c + (e - 8 * c) = e by omega] at this
def noCyc : Cycles :=
  { adv := 1, datum := 0, total := 2, feedA := 0, feedB := 0, req := 0, drain := 0, rnl := 0, rnlStall := 0, held := 0, policyNew := false, lanes := [], frozen := false }
def rect1 : Rect := { row := 0, rows := 1, col := 0, cols := 1 }
def panelA : PanelRec := { ofB := false, p := 0, j := 0 }
def panelB : PanelRec := { ofB := true, p := 0, j := 0 }
def plot (n : Nat) (fed : List PanelRec) : PlotRec := { plot := n, uid := 0, rect := rect1, fed := fed, fails := 0 }
/-- Engine 3 in a state, with its record. -/
def engSt (st : Nat) (x : EngRec) : State :=
  ({ busy with eng := { busy.eng with engs := [(3, x)] } }).setFld Reg.BRK_STATUS_STATE st 3
/-- A product of one BF16 value by another, its flight, and engine 3 in a state. -/
def mulProd : Product :=
  let o : Operand := { kind := 0, ax := 0, q := 0, record := word 0 [(64, 1), (96, 1), (128, 2)] + 0x1000, low := 0, whole := 0, coarse := 0x3F800000
                       amax := 0, prepass := false }
  { prod (word tMatmul [(304, 1)]) with a := o, b := { o with record := word 0 [(64, 1), (96, 1), (128, 2)] + 0x1100 }
                                        dst := word 0 [(224, 1), (64, 1), (96, 1), (128, 4)] + 0x2000 }
def mulSt (st : Nat) (x : EngRec) : State :=
  ({ aloft (flight (word tMatmul [(304, 1)])) with
    mem := [(0x1000, 0x80), (0x1001, 0x3F), (0x1101, 0x40)]
    eng := { busy.eng with engs := [(3, x)], products := [mulProd] } }).setFld Reg.BRK_STATUS_STATE st 3
def bank1 : BankRec := { plot := 0, uid := 0, rect := rect1, acc := [0x40000000], fails := 0 }

/-- This device is 1, and its job's participants are devices 1 and 9; the Tenant's pitch is assigned. -/
def fabricOf (s : State) (parts : List Nat) : State :=
  (({ s with jobs := [(1, { Job.none with num := 1, gsize := 1, parts := parts })] }).setFld Reg.TWY_DEV_ID_ID 1 0).setFld Reg.SEC_PITCH_CTL_STATE 2 1
def fab1 : State := fabricOf syn [1, 9]
def fab9 : State := fabricOf syn [9, 1]
/-- A packet of pitch 1 from device 9. -/
def pkt (kind subtype addr seqn : Nat) (body : Bytes) : Packet :=
  { blankPacket with kind := kind, subtype := subtype, pitch := 1, job := 1, src := 9, dst := 1, addr := addr, seqn := seqn, tag := 3, iv := 1, body := body }
def sigPkt (seqn amount : Nat) : Packet := pkt kindSignal 0 (tallyBase + 40) seqn (toBytes 4 amount)
def parked1 (wm : Nat) : Parked := { pitch := 1, source := 9, camp := 0, tally := 5, amount := 2, wm := wm, tag := 3, held := false }
def pooled (wm : Nat) : State := { fab1 with sync := { fab1.sync with pool := [parked1 wm] } }
/-- Guyline 0 with a round that camps 0 and 1 have reached, slot 1 waiting for it. -/
def round (fabric : Nat) (parts : List Nat) : State :=
  ({ fabricOf (blocked (flight (word tBarrier []))) parts with
    sync := { syn.sync with
      guys := [(0, { (syn.guy 0) with latchEven := 3, arrivals := 0x0101 })]
      guyWaits := [{ guy := 0, agent := .slot 1, round := 0 }] } }).setFld Reg.GUY_CFG_FABRIC fabric 0
/-- The body of an ARRIVE (kind 1) or a RELEASE (kind 2) of guyline 0 from a device. -/
def fbBody (kind dev : Nat) : Bytes := toBytes 16 (word 0 [(124, kind), (112, dev), (48, 1)])
def arriving (parts : List Nat) : State := { round 1 parts with sync := { (round 1 parts).sync with arriving := [(0, false)] } }

/-- A COMMIT next, of step 7, in a state of its pitch. -/
def commitWord : Nat := word tCommit [(64, 7)]
def cmtSt (state : Nat) : State := ((strm commitWord).setFld Reg.CMT_STATUS_STATE state 1).setFld Reg.CMT_STATUS_STEP (if state = 0 then 0 else 7) 1
/-- The pitch's attempt 0 of step 7 in a state, with what the commit unit holds. -/
def vote (state : Nat) (parts : List Nat) (x : CommitRec) : State :=
  (({ fabricOf syn parts with commits := [(1, x)] }).setFld Reg.CMT_STATUS_STATE state 1).setFld Reg.CMT_STATUS_STEP 7 1
/-- A commit message from device 9. -/
def cmtPkt (kind state cause : Nat) : Packet := pkt kindMessage 2 0 0 (toBytes 16 (word 0 [(0, 7), (48, 1), (80, kind), (84, state), (88, cause)]))

/-- A module that peers' requests reach, and a byte of HBM page 0. -/
def remSt : State := { fab1 with mem := [(0x41, 5)] }
/-- Requests of device 9 to address 0x40: a read of 8 bytes, a write, an INT32 add of two, an atomic add. -/
def askRead : Packet := pkt kindRead 0 0x40 8 []
def askWrite : Packet := pkt kindWrite 0 0x40 1 [1, 2, 3, 4, 5, 6, 7, 8]
def askAdd (kind : Nat) : Packet := { pkt kind 0 0x40 1 [1, 0, 0, 0, 2, 0, 0, 0] with etype := 3 }
def askAmo : Packet := pkt kindAmo 0 0x40 1 [1, 0, 0, 0, 0, 0, 0, 0]
def adder (p : Packet) : State := theOk remSt ((remSt.accept p true).2.addPacket p)
/-- A write of a DMA copy toward device 9, sent (1) or to be resent (2), tag 3; its flight; tag 3 that timed out. -/
def sentReq (stage : Nat) : FabReq :=
  { pkt := { pkt kindWrite 0 0x40 1 [1] with src := 1, dst := 9 }, origin := .flight 0 0, stage := stage }
def sentSt (stage : Nat) : State :=
  let s := fabricOf (aloft { flight copyOut with left := 2 }) [1, 9]
  { s with fab := { s.fab with reqs := [sentReq stage] } }
def lateSt : State := { fab1 with fab := { fab1.fab with late := [(3, false)] } }
/-- A COMPLETION of tag 3. -/
def answer3 (status : Nat) : Packet := { pkt kindCompletion 0 0 0 [] with status := status }
/-- A packet of device 9 for device 8, to which port 2 leads. -/
def passing (hops : Nat) : Packet := { askWrite with dst := 8, hops := hops }
def routed : State := (((fab1.setFld Reg.TWY_PORT_STATUS_STATE 2 2).setFld Reg.TWY_ROUTE_VALID 1 0 8).setFld Reg.TWY_ROUTE_C0 2 0 8)
/-- A pair entry of pitch 1 and device 9, beside another. -/
def paired : State := { fab1 with fab := { fab1.fab with pairs := [(4105, { top := 7, seen := [6, 4] }), (4107, { top := 2, seen := [1] })] } }
/-- Port 2 in a state of its link, with a flit in its replay buffer. -/
def linkSt (state : Nat) (r : PortRec) : State := { up with fab := { up.fab with ports := [(2, r)] } }.setFld Reg.TWY_PORT_STATUS_STATE state 2
def flit : FlitRec := { seq := 4095, cls := 0, vl := 0, pkts := [askWrite], payload := List.replicate 240 0 }
def link1 : PortRec := { PortRec.empty with nextSeq := 0, expected := 4095, buffer := [flit], wasDown := false }
/-- An all-gather of two rows of 4 bytes between devices 1 and 9, CID 7, and the messages about it. -/
def gather1 : Coll :=
  { pitch := 1, cid := 7, uid := 0, slot := 1, ctype := 1, op := 0, group := 0, rows := 2, rowBytes := 4, root := 0, member := 0, q := [1, 9]
    shards := 2, src := 0x40, srcPitch := 4, dst := 0x1000, dstPitch := 4, map := busy.mapOf 1, ready := [], doneFrom := [], doneTo := []
    sends := [], unacked := [], pulls := [], nextPull := 0, arrived := [], added := 0, toServe := 1 }
def collSt (l : List Coll) : State := let s := fabricOf (aloft (flight nopWord)) [1, 9]
  { s with fab := { s.fab with colls := l } }
def endedSt : State := { collSt [] with fab := { (collSt []).fab with collCount := [(64, 9)] } }
def collMsg (subtype rows : Nat) : Packet :=
  pkt kindMessage subtype 0 0 (toBytes 32 (word 0 [(0, 7), (58, 1), (66, 1), (90, rows), (122, 4)]))
def askPull : Packet := pkt kindPull 0 0 7 []

/-- The module with a byte in HBM line 1 and one in the first line of the Shelf; the first camp's pages as they are. -/
def lineSt : State := { up with mem := [(0x41, 5), (shelfBase + 1, 6)] }
def clean : ReadErr := { positions := [], escaped := none }
def shelfLine : Nat := shelfBase / 64
def wide : LineOp := .write (BitVec.allOnes 64) 0x0102
/-- The pseudo-channel of line 1. -/
def pc1 : Nat := (lineSt.place 64).1
def ras1 (f : Memories → Memories) : State := { lineSt with ras := f lineSt.ras }
/-- A page move of page 0 to page 5 under way, and a re-form of HBM. -/
def movingSt : State := ras1 fun r => { r with moving := some (0, 5), owners := [(0, 1), (1, 1), (5, 1)] }
def joining : State :=
  { lineSt with sec := { lineSt.sec with pitches := lineSt.sec.pitches.map fun e => (e.1, { e.2 with joiningPages := [7, 8], joiningSlabs := [33, 3] }) } }

/-- The module with its power side as given; in a power state. -/
def pwr (f : Power → Power) : State := { up with power := f up.power }
def inState (st : Nat) (s : State) : State := s.setFld Reg.LNT_STATUS_STATE st
/-- Every engine diode at 300 × 1/256 of a degree below, or at `t` degrees. -/
def hot (t : Nat) : State := pwr fun p => { p with sensors := [(12, { last := [256 * t], y := 256 * t, bad := 0, faulty := false })] }
/-- With fuses and keys that a start finds, and a boot side as given. -/
def start (phase : Nat) (f : Boot → Boot) : State := ({ up with boot := f up.boot }.setFld Reg.STU_STATUS_PHASE phase).setFld Reg.LNT_STATUS_STATE 5
def lines (n : Nat) (s : State) : State := (s.setFld Reg.LNT_STATUS_PWR_EN n).setFld Reg.LNT_STATUS_FLOW_OK n
def readyT : Training := { dead := [], pins := [], banks := [], engines := [], islands := [], ports := [], he0 := 0, he1 := 0 }
/-- Engine 9's latch in a state. -/
def latched (st : Nat) (s : State) : State := s.setFld Reg.FEN_STATE_ENG_STATE st 9
def crossing (n : Fin 4) : Crossing := { engine := none, camp := none, refused := n, recent := false, entry := none }
def moved0 : State := { up with rel := { up.rel with moved := [(0, 1)] } }
/-- A log-ahead entry that carries no change, and one that waits in the buffer. -/
def noteSt : State := { up with sec := { up.sec with log := { up.sec.log with ahead := [{ seq := 0, change := .note, reply := none }], buffered := [3, 4] } } }
theorem noHeldIs {s : State} (h : ∀ e ∈ s.host.sessions, e.2.held = []) : noHeld s := h
theorem fewLanes {s : State} {c : Nat} (h : ∀ e < 8, s.lanesFenced (8 * c + e) < 32) : ∀ i, i / 8 = c → s.lanesFenced i < 32 := by
  intro i hi
  have := h (i - 8 * c) (by omega)
  rwa [show 8 * c + (i - 8 * c) = i by omega] at this

/-- A request that its session executes, from facts that evaluation decides. -/
theorem executes {u : State} {r : Req} {c : Cmd}
    (h : ((u.session r.session.toNat).any fun y => decide (y.waiting = some (r.seq.toNat, opcodeOf c)
      ∧ (if u.lanternServes then y.ctrProxy else y.ctrOut) < ctrLimit ∧ u.hostIsUp y.port = true)) = true) : executing u r c := by
  cases hy : u.session r.session.toNat with
  | none => rw [hy] at h; cases h
  | some y => rw [hy] at h; exact ⟨y, hy, of_decide_eq_true h⟩
theorem unitIs {a : Except Nat FUnit} {u : FUnit} (h : a.toOption = some u) : a = .ok u := by
  cases a with
  | ok v => exact congrArg Except.ok (Option.some.inj h)
  | error e => cases h
theorem errorIs {α : Type} {a : Except Nat α} {c : Nat} (h : (match a with | .ok _ => none | .error e => some e) = some c) : a = .error c := by
  cases a with
  | ok v => cases h
  | error e => exact congrArg Except.error (Option.some.inj h)

/-- The module in Bivouac mode, the security block powered. -/
def bivouac : State := ((up.setFld Reg.STU_STATUS_PHASE 8).setFld Reg.MBX_STATUS_SERVER 3).setFld Reg.LNT_STATUS_STATE 3
theorem notStore {a : Option Region} (h : a = some .hbm) : ∀ n, a ≠ some (.store n) := by
  intro n; rw [h]; nofun

/-! Witnesses: what each clause of an obligation assumes can hold. -/

theorem witness_RoleRefusalsOfTheMailbox_1 : ∃ (s : State) (r : Req) (x : Session) (c : Cmd),
    (InTurn s r x) ∧ ((∀ op, c ≠ Cmd.unlisted op)) ∧ ((∀ a, c = Cmd.jobStart a → s.powerState ≠ 2)) ∧ (x.role ∉ opcodeRoles (opcodeOf c)) :=
  ⟨up, rq 2, ten, .logCheckpoint, inTurn (takes (by decide +kernel)) (by decide +kernel), fun _ => nofun, fun _ => nofun, by decide +kernel⟩

theorem witness_RoleRefusalsOfTheMailbox_2 : ∃ (s : State) (r : Req) (x : Session) (op : Nat),
    (InTurn s r x) ∧ (op ∉ listedOpcodes) :=
  ⟨up, rq 1, war, 0, inTurn (takes (by decide +kernel)) (by decide +kernel), by decide +kernel⟩

theorem witness_RoleRefusalsOfTheMailbox_3 : ∃ (s : State) (r : Req) (x : Session) (_ : Nat) (_ : Nat) (_ : List (Option ReadErr)),
    (InTurn s r x) ∧ (x.role = 2) :=
  ⟨up, rq 3, stw, 0, 0, [], inTurn (takes (by decide +kernel)) (by decide +kernel), by decide +kernel⟩

theorem witness_RoleRefusalsOfTheMailbox_4 : ∃ (s : State) (r : Req) (x : Session) (c : Cmd),
    (InBivouac s r x) ∧ ((∀ op, c ≠ Cmd.unlisted op)) ∧ ((∀ a, c = Cmd.jobStart a → s.powerState ≠ 2)) ∧ (x.role ∈ opcodeRoles (opcodeOf c)) ∧ (bivouacOp (opcodeOf c) = false) :=
  ⟨bivouac, rq 1, war, .fence 0, ⟨takes (by decide +kernel), by decide +kernel, by decide +kernel⟩, fun _ => nofun, fun _ => nofun, by decide +kernel⟩

theorem witness_ReplyIsSentOnceAndKept_1 : ∃ (u : State) (r : Req) (c : Cmd) (_ : Nat) (_ : Bytes) (y : Session),
    (u.fld Reg.MBX_STATUS_SERVER = 0) ∧ (u.session r.session.toNat = some y) ∧ (y.waiting = some (r.seq.toNat, opcodeOf c)) ∧ (y.ctrOut < ctrLimit) ∧ (u.hostIsUp y.port = true) :=
  ⟨{ up with host := { HostSide.initial with sessions := [(2, { ten with waiting := some (1, opcodeOf .jobStatus) })] } }, rq 2, .jobStatus, 0, [], { ten with waiting := some (1, opcodeOf .jobStatus) }, by decide +kernel⟩

theorem witness_SessionCommandsComplete_1 : ∃ (s : State) (r : Req) (body : OpenBody),
    (s.hostIsUp r.port.val = true) ∧ (r.frame = .plain) ∧ (frameOverhead + r.bytes ≤ 9216) ∧ (r.dport.toNat = dzmpPort) ∧ (dzmpForm r false = true) ∧ (r.session = 0) ∧ (s.fld Reg.MBX_STATUS_SERVER ≠ 1) ∧ (((s.countRx r).plain r typeAck 0 0 []).openRefusal r body = 0) :=
  ⟨up.setFld Reg.SEC_PITCH_CTL_STATE 2 1, { rq 0 with bytes := 40 }, { role := 1, pitch := 1, cred := keyDigest 0, hostKx := 0, nonce := 0, initSeq := 5, sigOk := true }, by decide +kernel⟩

theorem witness_SessionCommandsComplete_2 : ∃ (s : State) (r : Req) (x : Session),
    (InTurn s r x) ∧ (rising s.host.sessions = true) ∧ (x.role ≤ 2) :=
  ⟨up, rq 1, war, inTurn (takes (by decide +kernel)) (by decide +kernel), by decide +kernel⟩

theorem witness_SessionCommandsComplete_3 : ∃ (s : State) (r : Req) (x : Session) (_ : Bytes),
    (InTurn s r x) ∧ (x.role ≤ 2) :=
  ⟨up, rq 3, stw, [1], inTurn (takes (by decide +kernel)) (by decide +kernel), by decide +kernel⟩

theorem witness_SessionCommandsComplete_4 : ∃ (s : State) (n : Nat) (x : Session),
    (s.session n = some x) ∧ (rising s.host.sessions = true) :=
  ⟨up, 2, ten, by decide +kernel⟩

theorem witness_MemoryAndWindowCommandsComplete_1 : ∃ (s : State) (r : Req) (x : Session) (field : Nat) (len : Nat),
    (InTurn s r x) ∧ (x.role ≤ 1) ∧ (fieldOk field = true) ∧ (0 < len) ∧ (len ≤ 4032) ∧
    let u := served s r x (.memRead field len [])
    ∃ (bs : Bytes),
    (u.readAt x.pitch (u.mapOf x.pitch) (u.fieldAddr x.pitch field) len = .ok bs) :=
  ⟨up, rq 2, ten, 0, 4032, inTurn (takes (by decide +kernel)) (by decide +kernel), all3 (by decide +kernel) ⟨by decide +kernel, List.replicate 4032 0, gotIt (by decide +kernel)⟩⟩

theorem witness_MemoryAndWindowCommandsComplete_2 : ∃ (s : State) (r : Req) (x : Session) (field : Nat) (len : Nat) (lines : List (Option ReadErr)),
    (InTurn s r x) ∧ (x.role ≤ 1) ∧ (fieldOk field = true) ∧ (0 < len) ∧ (len ≤ 4032) ∧ (lines ≠ []) ∧
    let c := Cmd.memRead field len lines
    let u := served s r x c
    let a := u.fieldAddr x.pitch field
    let m := u.mapOf x.pitch
    ∃ (bs : Bytes),
    (u.readAt x.pitch m a len = .ok bs) ∧
    let v := State.readLines x.pitch m ((linePieces a len).zipIdx.map fun y => (y.1, lines.getD y.2 (some .clean))) u
    (executing v.2 r c) :=
  ⟨up, rq 2, ten, 0, 64, [some clean], inTurn (takes (by decide +kernel)) (by decide +kernel), all5 (by decide +kernel) ⟨List.replicate 64 0, gotIt (by decide +kernel), executes (by decide +kernel)⟩⟩

theorem witness_MemoryAndWindowCommandsComplete_3 : ∃ (s : State) (r : Req) (x : Session) (field : Nat) (data : List Nat),
    (InTurn s r x) ∧ (x.role ≤ 1) ∧ (fieldOk field = true) ∧ (data ≠ []) ∧ (data.length ≤ 4032) ∧
    let c := Cmd.memWrite field data
    let u := served s r x c
    let m := u.mapOf x.pitch
    ((data.length = 4 → ∀ camp off, (translate m (u.fieldAddr x.pitch field)).map region ≠ some (.tally camp off))) ∧
    let ps := linePieces (u.fieldAddr x.pitch field) data.length
    (u.writeGate x.pitch m none ps = (0, 0)) :=
  ⟨up, rq 2, ten, 2 ^ 22 - 1, [1], inTurn (takes (by decide +kernel)) (by decide +kernel), all4 (by decide +kernel) ⟨fun h => absurd h (by decide), by decide +kernel⟩⟩

theorem witness_MemoryAndWindowCommandsComplete_4 : ∃ (s : State) (r : Req) (x : Session) (field : Nat) (data : Bytes) (camp : Nat) (off : Nat),
    (InTurn s r x) ∧ (rising s.sync.tallies = true) ∧ (x.role ≤ 1) ∧ (fieldOk field = true) ∧ (data.length = 4) ∧
    let c := Cmd.memWrite field data
    let u := served s r x c
    ((translate (u.mapOf x.pitch) (u.fieldAddr x.pitch field)).map region = some (.tally camp off)) ∧ (off % 8 = 4) ∧ (off < 2 ^ 13) ∧ (u.tallyReachable camp = true) ∧ (u.limitOk camp (off / 8) (ofBytes data) = true) :=
  ⟨up, rq 2, ten, tallyBase + 4, [1, 0, 0, 0], 0, 4, inTurn (takes (by decide +kernel)) (by decide +kernel), all4 (by decide +kernel) (by decide +kernel)⟩

theorem witness_MemoryAndWindowCommandsComplete_5 : ∃ (s : State) (r : Req) (x : Session) (field : Nat) (len : Nat) (access : Nat) (peer : Nat),
    (InTurn s r x) ∧ (x.role ≤ 1) ∧ (fieldOk field = true) ∧ (0 < access) ∧ (access ≤ 3) ∧
    let c := Cmd.winOpen field len access peer
    let u := served s r x c
    (u.fieldAddr x.pitch field % 4096 = 0) ∧ (len % 4096 = 0) ∧ (0 < len) ∧ (len ≤ 2 ^ 40) ∧ (s.host.windows.length < 256) :=
  ⟨up, rq 1, war, 0, 4096, 1, 0, inTurn (takes (by decide +kernel)) (by decide +kernel), all4 (by decide +kernel) (by decide +kernel)⟩

theorem witness_MemoryAndWindowCommandsComplete_6 : ∃ (s : State) (r : Req) (x : Session) (rkey : Nat),
    (InTurn s r x) ∧ (x.role ≤ 1) ∧ (rising s.host.windows = true) ∧ ((sget noWindow s.host.windows rkey).session = r.session.toNat) :=
  ⟨{ up with host := { up.host with windows := [(5, { noWindow with session := 2 })] } }, rq 2, ten, 5, inTurn (takes (by decide +kernel)) (by decide +kernel), by decide +kernel⟩

theorem witness_JobCommandsComplete_1 : ∃ (s : State) (r : Req) (x : Session) (field : Nat),
    (InTurn s r x) ∧ (x.role = 1) ∧ (s.powerState ≠ 2) ∧ (s.logFull = false) ∧
    let c := Cmd.jobStart field
    let u := served s r x c
    ∃ (b : JobBlock),
    ((u.job x.pitch).num = 0) ∧ (u.readJob x.pitch field = .ok b) ∧
    let place := placeTensors (b.tensors.map fun t => tensorBytes t.2) (bits b.head 211 206 * 2 ^ 26) (bits b.head 217 212 * 2 ^ 26)
    ((place = [] ∨ u.writeGate x.pitch (u.mapOf x.pitch) none (linePieces b.placeAt place.length) = (0, 0))) ∧ (bits b.head 143 128 ≠ 0) :=
  ⟨jobMem, rq 2, ten, 0, inTurn (takes (by decide +kernel)) (by decide +kernel), by decide +kernel, by decide +kernel, by decide +kernel, jobBlk, by decide +kernel, gotIt (by decide +kernel), by decide +kernel⟩

theorem witness_JobCommandsComplete_2 : ∃ (s : State) (r : Req) (x : Session) (seed : Nat) (nonce : Nat),
    (InTurn s r x) ∧ (x.role = 1) ∧ (s.changing = false) ∧ (s.logFull = false) ∧ (s.sec.log.refuses = false) ∧ (s.seedRefused x.pitch seed nonce = false) :=
  ⟨seedless, rq 2, ten, 1, 1, inTurn (takes (by decide +kernel)) (by decide +kernel), by decide +kernel⟩

theorem witness_JobCommandsComplete_3 : ∃ (s : State) (r : Req) (x : Session) (force : Bool),
    (InTurn s r x) ∧ (x.role ≤ 1) ∧ (rising s.jobs = true) ∧ (s.changing = false) ∧ (s.logFull = false) ∧ ((s.job x.pitch).num ≠ 0) ∧ ((s.job x.pitch).ending = false) ∧ ((force = true ∨ s.slotsBusy x.pitch = false)) :=
  ⟨busy, rq 2, ten, true, inTurn (takes (by decide +kernel)) (by decide +kernel), by decide +kernel⟩

theorem witness_JobCommandsComplete_4 : ∃ (s : State) (r : Req) (x : Session),
    (InTurn s r x) ∧ (x.role ≤ 1) :=
  ⟨busy, rq 2, ten, inTurn (takes (by decide +kernel)) (by decide +kernel), by decide +kernel⟩

theorem witness_StreamCommandsComplete_1 : ∃ (s : State) (r : Req) (x : Session) (camp : Camp) (_ : Slot) (_ : Nat),
    (InTurn s r x) ∧ (x.role = 1) ∧ (s.powerState = 0) ∧ ((s.mapOf x.pitch).camps.testBit camp.val = true) ∧ ((s.job x.pitch).ending = false) :=
  ⟨busy, rq 2, ten, 0, 0, 2 ^ 192, inTurn (takes (by decide +kernel)) (by decide +kernel), by decide +kernel⟩

theorem witness_StreamCommandsComplete_2 : ∃ (s : State) (r : Req) (x : Session) (camp : Camp) (slot : Slot) (_ : Bool),
    (InTurn s r x) ∧ (x.role = 1) ∧ (s.powerState = 0) ∧ ((s.mapOf x.pitch).camps.testBit camp.val = true) ∧ ((s.slot (s.slotFor camp slot)).state = 4) ∧ (s.campFenced (slotCamp (s.slotFor camp slot)) = false) :=
  ⟨{ busy with slots := [(5, { StreamSlot.idle with state := 4 })] }, rq 2, ten, 1, 1, true, inTurn (takes (by decide +kernel)) (by decide +kernel), by decide +kernel⟩

theorem witness_StreamCommandsComplete_3 : ∃ (s : State) (r : Req) (x : Session) (camp : Camp) (_ : Slot),
    (InTurn s r x) ∧ (x.role ≤ 1) ∧ (s.powerState = 0) ∧ ((x.role = 1 → (s.mapOf x.pitch).camps.testBit camp.val = true)) :=
  ⟨{ busy with slots := [(5, { StreamSlot.idle with state := 4 })] }, rq 2, ten, 1, 1, inTurn (takes (by decide +kernel)) (by decide +kernel), by decide +kernel⟩

theorem witness_StreamCommandsComplete_4 : ∃ (s : State) (r : Req) (x : Session) (camp : Camp) (_ : Slot),
    (InTurn s r x) ∧ (x.role = 1) ∧ (s.powerState = 0) ∧ ((s.mapOf x.pitch).camps.testBit camp.val = true) :=
  ⟨busy, rq 2, ten, 1, 3, inTurn (takes (by decide +kernel)) (by decide +kernel), by decide +kernel⟩

theorem witness_StreamCommandsComplete_5 : ∃ (s : State) (r : Req) (x : Session) (_ : Option Nat),
    (InTurn s r x) ∧ (x.role = 1) :=
  ⟨busy, rq 2, ten, none, inTurn (takes (by decide +kernel)) (by decide +kernel), by decide +kernel⟩

theorem witness_TallyAndGuylineCommandsComplete_1 : ∃ (s : State) (r : Req) (x : Session) (camp : Camp) (first : Nat) (count : Nat),
    (InTurn s r x) ∧ (x.role = 1) ∧ (s.powerState = 0) ∧ ((s.mapOf x.pitch).camps.testBit camp.val = true) ∧ (0 < count) ∧ (count ≤ 500) ∧ (first + count ≤ 1024) ∧ (s.tallyReachable camp = true) :=
  ⟨busy, rq 2, ten, 1, 524, 500, inTurn (takes (by decide +kernel)) (by decide +kernel), by decide +kernel⟩

theorem witness_TallyAndGuylineCommandsComplete_2 : ∃ (s : State) (r : Req) (x : Session) (camp : Camp) (t : Fin 1024) (_ : Option (BitVec 32)) (_ : Option (BitVec 32)),
    (InTurn s r x) ∧ (x.role = 1) ∧ (rising s.sync.tallies = true) ∧ (s.powerState = 0) ∧ (s.logFull = false) ∧ ((s.mapOf x.pitch).camps.testBit camp.val = true) ∧ (s.tallyReachable camp = true) ∧ ((∀ w ∈ s.sync.waits, ¬ (w.camp = camp.val ∧ w.tally = t.val))) :=
  ⟨busy, rq 2, ten, 1, 1023, some 3, none, inTurn (takes (by decide +kernel)) (by decide +kernel), by decide +kernel⟩

theorem witness_TallyAndGuylineCommandsComplete_3 : ∃ (s : State) (r : Req) (x : Session) (g : Guyline) (camp : Camp),
    (InTurn s r x) ∧ (x.role = 1) ∧ (s.powerState = 0) ∧ (s.logFull = false) ∧ ((s.mapOf x.pitch).guys.testBit g.val = true) ∧ ((s.mapOf x.pitch).camps.testBit camp.val = true) ∧ ((s.fld Reg.GUY_CFG_CAMP_MASK g).testBit camp.val = true) :=
  ⟨busy.setFld Reg.GUY_CFG_CAMP_MASK 3 0, rq 2, ten, 0, 1, inTurn (takes (by decide +kernel)) (by decide +kernel), by decide +kernel⟩

theorem witness_UnitAndCommitCommandsComplete_1 : ∃ (s : State) (r : Req) (x : Session) (loc : BitVec 32) (code : Nat),
    (InTurn s r x) ∧ (x.role = 0) ∧ (s.logFull = false) ∧ (unitOf loc.toNat = .error code) :=
  ⟨up, rq 1, war, BitVec.ofNat 32 locLantern, Code.FENCE_UNIT_INVALID, inTurn (takes (by decide +kernel)) (by decide +kernel), by decide +kernel, by decide +kernel, errorIs (by decide +kernel)⟩

theorem witness_UnitAndCommitCommandsComplete_2 : ∃ (s : State) (r : Req) (x : Session) (loc : BitVec 32) (u : FUnit),
    (InTurn s r x) ∧ (x.role = 0) ∧ (s.logFull = false) ∧ (unitOf loc.toNat = .ok u) ∧ (s.latch u = 2) ∧ ((∀ w ∈ s.rel.testing, FUnit.engine w.1 ≠ u)) :=
  ⟨fencedEng, rq 1, war, BitVec.ofNat 32 (locEngine 9), .engine 9, inTurn (takes (by decide +kernel)) (by decide +kernel), by decide +kernel, by decide +kernel, unitIs (by decide +kernel), by decide +kernel⟩

theorem witness_UnitAndCommitCommandsComplete_3 : ∃ (s : State) (r : Req) (x : Session) (loc : BitVec 32) (u : FUnit),
    (InTurn s r x) ∧ (x.role = 0) ∧ (s.powerState = 0) ∧ (s.logFull = false) ∧ (unitOf loc.toNat = .ok u) ∧ (((∃ e l, u = .lane e l) ∨ (∃ e, u = .engine e) ∨ ∃ c, u = .camp c)) ∧ (s.latch u ≤ 1) ∧ (s.parentStopped u = false) :=
  ⟨up, rq 1, war, BitVec.ofNat 32 (locEngine 127), .engine 127, inTurn (takes (by decide +kernel)) (by decide +kernel), all3 (by decide +kernel) ⟨unitIs (by decide +kernel), .inr (.inl ⟨_, rfl⟩), by decide +kernel⟩⟩

theorem witness_UnitAndCommitCommandsComplete_4 : ∃ (s : State) (r : Req) (x : Session) (loc : BitVec 32) (u : FUnit),
    (InTurn s r x) ∧ (x.role = 0) ∧ (s.logFull = false) ∧ (unitOf loc.toNat = .ok u) ∧ (((∃ e l, u = .lane e l) ∨ (∃ e, u = .engine e) ∨ ∃ c, u = .camp c)) ∧ (s.latch u = 3) ∧
    let c := Cmd.fence loc
    let v := ((served s r x c).endReturn u).logFence (callerOf s r x c) u.loc 0 2
    (executing v r c) :=
  ⟨latched 3 up, rq 1, war, BitVec.ofNat 32 (locEngine 9), .engine 9, inTurn (takes (by decide +kernel)) (by decide +kernel), by decide +kernel, by decide +kernel, unitIs (by decide +kernel), .inr (.inl ⟨_, rfl⟩), by decide +kernel, executes (by decide +kernel)⟩

theorem witness_UnitAndCommitCommandsComplete_5 : ∃ (s : State) (r : Req) (x : Session) (loc : BitVec 32) (d : Nat),
    (InTurn s r x) ∧ (x.role = 0) ∧ (s.powerState = 0) ∧ (s.logFull = false) ∧ (unitOf loc.toNat = .ok (.die d)) ∧ ((∀ i, i < 8 → s.fld Reg.FEN_STATE_CAMP_STATE (8 * d + i) = 0)) :=
  ⟨up, rq 1, war, BitVec.ofNat 32 ((FUnit.die 1).loc), 1, inTurn (takes (by decide +kernel)) (by decide +kernel), all3 (by decide +kernel) ⟨unitIs (by decide +kernel), by decide +kernel⟩⟩

theorem witness_UnitAndCommitCommandsComplete_6 : ∃ (s : State) (r : Req) (x : Session) (loc : BitVec 32) (u : FUnit),
    (InTurn s r x) ∧ (x.role = 0) ∧ (s.logFull = false) ∧ (unitOf loc.toNat = .ok u) ∧ (s.latch u ≠ 2) ∧ u = .port 5
      ∧ (executing (((served s r x (.fence loc)).holdPort 5).logFence (callerOf s r x (.fence loc)) loc.toNat 0 2) r (.fence loc)) :=
  ⟨up.setFld Reg.TWY_PORT_STATUS_STATE 2 5, rq 1, war, BitVec.ofNat 32 (locPort 5), .port 5, inTurn (takes (by decide +kernel)) (by decide +kernel), by decide +kernel, by decide +kernel,
    unitIs (by decide +kernel), by decide +kernel, rfl, executes (by decide +kernel)⟩

theorem witness_UnitAndCommitCommandsComplete_7 : ∃ (s : State) (r : Req) (x : Session) (loc : BitVec 32) (u : FUnit),
    (InTurn s r x) ∧ (x.role = 0) ∧ (s.logFull = false) ∧ (unitOf loc.toNat = .ok u) ∧ (((∃ e l, u = .lane e l) ∨ (∃ e, u = .engine e) ∨ ∃ c, u = .camp c)) :=
  ⟨up, rq 1, war, BitVec.ofNat 32 (locEngine 127), .engine 127, inTurn (takes (by decide +kernel)) (by decide +kernel), by decide +kernel, by decide +kernel, unitIs (by decide +kernel), .inr (.inl ⟨_, rfl⟩)⟩

theorem witness_UnitAndCommitCommandsComplete_8 : ∃ (s : State) (r : Req) (x : Session) (loc : BitVec 32) (u : FUnit),
    (InTurn s r x) ∧ (x.role = 0) ∧ (s.powerState = 0) ∧ (s.logFull = false) ∧ (unitOf loc.toNat = .ok u) ∧ (((∃ e l, u = .lane e l) ∨ (∃ e, u = .engine e) ∨ ∃ c, u = .camp c)) ∧ (s.latch u = 2) ∧ ((∀ e l, u = .lane e l → s.campFenced (e / 8) = false)) :=
  ⟨fencedEng, rq 1, war, BitVec.ofNat 32 (locEngine 9), .engine 9, inTurn (takes (by decide +kernel)) (by decide +kernel), all3 (by decide +kernel) ⟨unitIs (by decide +kernel), .inr (.inl ⟨_, rfl⟩), by decide +kernel, nofun⟩⟩

theorem witness_UnitAndCommitCommandsComplete_9 : ∃ (s : State) (r : Req) (x : Session) (loc : BitVec 32) (d : Nat),
    (InTurn s r x) ∧ (x.role = 0) ∧ (s.powerState = 0) ∧ (s.logFull = false) ∧ (unitOf loc.toNat = .ok (.die d)) :=
  ⟨up.setFld Reg.FEN_STATE_CAMP_STATE 2 3, rq 1, war, BitVec.ofNat 32 ((FUnit.die 0).loc), 0, inTurn (takes (by decide +kernel)) (by decide +kernel), all3 (by decide +kernel) (unitIs (by decide +kernel))⟩

theorem witness_UnitAndCommitCommandsComplete_10 : ∃ (s : State) (r : Req) (x : Session) (loc : BitVec 32) (u : FUnit),
    (InTurn s r x) ∧ (x.role = 0) ∧ (s.logFull = false) ∧ (unitOf loc.toNat = .ok u) ∧ (((∃ n, u = .pc n) ∨ (∃ d b, u = .bank d b) ∨ (∃ n, u = .port n) ∨ ∃ n, u = .host n)) :=
  ⟨up, rq 1, war, BitVec.ofNat 32 (locPort 5), .port 5, inTurn (takes (by decide +kernel)) (by decide +kernel), by decide +kernel, by decide +kernel, unitIs (by decide +kernel), .inr (.inr (.inl ⟨_, rfl⟩))⟩

theorem witness_UnitAndCommitCommandsComplete_11 : ∃ (s : State) (r : Req) (x : Session) (loc : BitVec 32) (u : FUnit),
    (InTurn s r x) ∧ (x.role ≤ 1) ∧ (unitOf loc.toNat = .ok u) :=
  ⟨fencedEng, rq 2, ten, BitVec.ofNat 32 (locEngine 9), .engine 9, inTurn (takes (by decide +kernel)) (by decide +kernel), by decide +kernel, unitIs (by decide +kernel)⟩

theorem witness_UnitAndCommitCommandsComplete_12 : ∃ (s : State) (r : Req) (x : Session),
    (InTurn s r x) ∧ (x.role = 1) :=
  ⟨busy, rq 2, ten, inTurn (takes (by decide +kernel)) (by decide +kernel), by decide +kernel⟩

theorem witness_UnitAndCommitCommandsComplete_13 : ∃ (s : State) (r : Req) (x : Session) (_ : Nat) (_ : Nat) (_ : Bool),
    (InTurn s r x) ∧ (x.role = 1) ∧ (s.logFull = false) :=
  ⟨(busy.setFld Reg.CMT_STATUS_STATE 3 1).setFld Reg.CMT_STATUS_STEP 7 1, rq 2, ten, 7, 0, true, inTurn (takes (by decide +kernel)) (by decide +kernel), by decide +kernel⟩

theorem witness_RegisterCommandsComplete_1 : ∃ (s : State) (r : Req) (x : Session) (addrs : List Nat),
    (InTurn s r x) ∧ (x.role ≤ 2) ∧ (addrs ≠ []) ∧ (addrs.length ≤ 64) ∧ ((∀ a ∈ addrs, runsOn a = false)) :=
  ⟨up, rq 2, ten, [Reg.STR_CFG_PRIO.addr 5 0, 0], inTurn (takes (by decide +kernel)) (by decide +kernel), by decide +kernel⟩

theorem witness_RegisterCommandsComplete_2 : ∃ (s : State) (r : Req) (x : Session) (pairs : List (Nat × Nat)) (v : State),
    (InTurn s r x) ∧ (x.role ≤ 1) ∧ (s.changing = false) ∧ (s.logFull = false) ∧ (pairs ≠ []) ∧ (pairs.length ≤ 32) ∧
    let c := Cmd.regWrite pairs
    (State.writePairs (callerOf s r x c) pairs (served s r x c) = (0, none, v)) ∧ (v.changing = false) ∧ (executing v r c) :=
  ⟨busy, rq 2, ten, prioPairs, prioSet, inTurn (takes (by decide +kernel)) (by decide +kernel), all5 (by decide +kernel) ⟨Prod.ext (by decide +kernel) (Prod.ext (by decide +kernel) rfl), by decide +kernel, executes (by decide +kernel)⟩⟩

theorem witness_RegisterCommandsComplete_3 : ∃ (s : State) (a : Actor) (x : Session) (k : Fin 64) (_ : Nat),
    (a.session ≠ 0) ∧ (s.session a.session = some x) ∧ (x.role = 1) ∧ (s.campPitch (k / 4) = x.pitch) ∧ (s.changing = false) ∧ (s.logFull = false) ∧ (registersWf s) :=
  ⟨busy, { session := 2, tod := 0 }, ten, 5, 0x31F, by decide +kernel⟩

theorem witness_RegisterCommandsComplete_4 : ∃ (s : State) (a : Actor) (x : Session) (e : Engine) (value : Nat),
    (a.session ≠ 0) ∧ (s.session a.session = some x) ∧ (x.role = 1) ∧ (s.campPitch (e / 8) = x.pitch) ∧ (s.changing = false) ∧ (s.logFull = false) ∧ (registersWf s) ∧ (value.testBit 0 = true) :=
  ⟨(busy.setFld Reg.DTM_LOSS 5 9).setFld Reg.DTM_STAT_SAT_LOSS_SAT 1 9, { session := 2, tod := 0 }, ten, 9, 1, by decide +kernel⟩

theorem witness_RegisterCommandsComplete_5 : ∃ (s : State) (a : Actor) (x : Session) (g : Guyline) (_ : BitVec 32),
    (a.session ≠ 0) ∧ (s.session a.session = some x) ∧ (x.role = 0) ∧ (s.changing = false) ∧ (s.logFull = false) ∧ (s.sealed (s.ownerOf 7 g) = false) ∧ ((s.job (s.ownerOf 7 g)).num = 0) ∧ (registersWf s) ∧ (rising s.sync.guys = true) :=
  ⟨up, { session := 1, tod := 0 }, war, 0, 0x1F0003FF, by decide +kernel⟩

theorem witness_RegisterCommandsComplete_6 : ∃ (s : State) (a : Actor) (x : Session) (n : PseudoCh) (_ : Fin 4) (_ : Bool),
    (a.session ≠ 0) ∧ (s.session a.session = some x) ∧ (x.role = 0) ∧ (s.changing = false) ∧ (s.logFull = false) ∧ (registersWf s) ∧ (s.fld Reg.HBM_MAP_STATE = 2) ∧ (s.pcLive n = true) ∧ (s.fld Reg.HBM_TG_CFG_GO n = 0) :=
  ⟨up.setFld Reg.HBM_MAP_STATE 2 0, { session := 1, tod := 0 }, war, 511, 3, true, by decide +kernel⟩

theorem witness_RegisterCommandsComplete_7 : ∃ (s : State) (r : Req) (x : Session) (_ : BitVec 64),
    (InTurn s r x) ∧ (x.role ≤ 2) :=
  ⟨{ up with evs := { nextSeq := 3, rings := [(1, { first := 1, recs := [{ code := 1, severity := 0, pitch := 1, location := 0, seq := 2, detail := 0 }] })] } }, rq 2, ten, 0, inTurn (takes (by decide +kernel)) (by decide +kernel), by decide +kernel⟩

theorem witness_RegisterCommandsComplete_8 : ∃ (s : State) (r : Req) (x : Session) (_ : Nat) (_ : Nat),
    (InTurn s r x) ∧ (x.role ≤ 2) :=
  ⟨up, rq 3, stw, 6, 0, inTurn (takes (by decide +kernel)) (by decide +kernel), by decide +kernel⟩

theorem witness_PortPowerAndTestCommandsComplete_1 : ∃ (s : State) (r : Req) (x : Session) (port : TwPort),
    (InTurn s r x) ∧ (x.role = 0) ∧ (s.fld Reg.TWY_PORT_STATUS_STATE port = 0) ∧ (registersWf s) :=
  ⟨up, rq 1, war, 35, inTurn (takes (by decide +kernel)) (by decide +kernel), by decide +kernel⟩

theorem witness_PortPowerAndTestCommandsComplete_2 : ∃ (s : State) (r : Req) (x : Session),
    (InTurn s r x) ∧ (x.role = 0) ∧ (s.powerState = 0) :=
  ⟨up, rq 1, war, inTurn (takes (by decide +kernel)) (by decide +kernel), by decide +kernel⟩

theorem witness_PortPowerAndTestCommandsComplete_3 : ∃ (s : State) (r : Req) (x : Session),
    (InTurn s r x) ∧ (x.role = 0) ∧ (s.powerState = 0) ∧ (s.phase = 0) ∧ (s.anyJob = false) :=
  ⟨up, rq 1, war, inTurn (takes (by decide +kernel)) (by decide +kernel), by decide +kernel⟩

theorem witness_PortPowerAndTestCommandsComplete_4 : ∃ (s : State) (r : Req) (x : Session),
    (InTurn s r x) ∧ (x.role = 0) ∧ (s.phase = 0) ∧ (s.fld Reg.HBM_MAP_STATE = 0) ∧ ((∀ e ∈ s.ras.owners, ¬ (1 ≤ e.2 ∧ e.2 ≤ 8))) :=
  ⟨{ up with ras := State.reset.ras }, rq 1, war, inTurn (takes (by decide +kernel)) (by decide +kernel), by decide +kernel⟩

theorem witness_PortPowerAndTestCommandsComplete_5 : ∃ (s : State) (r : Req) (x : Session),
    (InTurn s r x) ∧ ((x.role = 0 ∨ x.role = 2)) ∧ (s.fld Reg.HBM_MAP_STATE = 0) :=
  ⟨up, rq 3, stw, inTurn (takes (by decide +kernel)) (by decide +kernel), by decide +kernel⟩

theorem witness_LogbookAndAttestationCommandsComplete_1 : ∃ (s : State) (r : Req) (x : Session) (_ : BitVec 64),
    (InTurn s r x) ∧ (x.role ≤ 2) :=
  ⟨up, rq 3, stw, 0, inTurn (takes (by decide +kernel)) (by decide +kernel), by decide +kernel⟩

theorem witness_LogbookAndAttestationCommandsComplete_2 : ∃ (s : State) (r : Req) (x : Session),
    (InTurn s r x) ∧ (x.role = 0) ∧ (s.changing = false) ∧ (s.sec.log.refuses = false) ∧ (s.sec.log.entries.length + 2 ≤ logCap) ∧ (s.logSeq % 256 ≠ 0) :=
  ⟨up.setFld Reg.SEC_LOG_SEQ_SEQ 255 0, rq 1, war, inTurn (takes (by decide +kernel)) (by decide +kernel), by decide +kernel⟩

theorem witness_LogbookAndAttestationCommandsComplete_3 : ∃ (s : State) (r : Req) (x : Session) (_ : Nat),
    (InTurn s r x) ∧ (x.role ≤ 2) :=
  ⟨up, rq 2, ten, 1, inTurn (takes (by decide +kernel)) (by decide +kernel), by decide +kernel⟩

theorem witness_FirmwareCommandsComplete_1 : ∃ (s : State) (r : Req) (x : Session) (k : Fin 2) (off : Nat) (data : List Nat),
    (InTurn s r x ∨ InBivouac s r x) ∧ (x.role = 0) ∧ (s.logFull = false) ∧ ((s.phase = 8 ∨ s.fld Reg.STU_STATUS_SLOT ≠ k.val)) ∧ (data ≠ []) ∧ (data.length ≤ 4032) ∧ (off % 64 = 0) ∧ (off + data.length ≤ 2 ^ 26) ∧ (rising (s.fwSlot k).bytes = true) :=
  ⟨up, rq 1, war, 1, 2 ^ 26 - 64, List.replicate 64 1, .inl (inTurn (takes (by decide +kernel)) (by decide +kernel)), by decide +kernel⟩

theorem witness_FirmwareCommandsComplete_1_bivouac : ∃ (s : State) (r : Req) (x : Session) (k : Fin 2) (off : Nat) (data : List Nat),
    (InTurn s r x ∨ InBivouac s r x) ∧ (x.role = 0) ∧ (s.logFull = false) ∧ ((s.phase = 8 ∨ s.fld Reg.STU_STATUS_SLOT ≠ k.val)) ∧ (data ≠ []) ∧ (data.length ≤ 4032) ∧ (off % 64 = 0) ∧ (off + data.length ≤ 2 ^ 26) ∧ (rising (s.fwSlot k).bytes = true) :=
  ⟨bivouac, rq 1, war, 0, 0, [1], .inr ⟨takes (by decide +kernel), by decide +kernel, by decide +kernel⟩, by decide +kernel⟩

theorem witness_FirmwareCommandsComplete_2 : ∃ (s : State) (r : Req) (x : Session) (_ : Fin 2) (_ : Nat) (data : List Nat),
    (InTurn s r x) ∧ (x.role = 0) ∧ (s.logFull = false) ∧ (data ≠ []) ∧ (data.length ≤ 4032) :=
  ⟨up, rq 1, war, 1, 1, [1], inTurn (takes (by decide +kernel)) (by decide +kernel), by decide +kernel⟩

theorem witness_FirmwareCommandsComplete_3 : ∃ (s : State) (r : Req) (x : Session) (_ : Fin 2) (_ : Bool),
    (InTurn s r x ∨ InBivouac s r x) ∧ (x.role = 0) ∧ (s.logFull = false) :=
  ⟨up, rq 1, war, 1, true, .inl (inTurn (takes (by decide +kernel)) (by decide +kernel)), by decide +kernel⟩

theorem witness_FirmwareCommandsComplete_4 : ∃ (s : State) (r : Req) (x : Session) (k : Fin 2) (_ : Bool),
    (InTurn s r x ∨ InBivouac s r x) ∧ (x.role = 0) ∧ (s.changing = false) ∧ ((s.phase = 8 ∨ s.handBlocked = false)) ∧ ((s.fwSlot k).state = 2) ∧ ((s.phase = 8 ∨ s.fld Reg.STU_STATUS_SLOT ≠ k.val)) ∧ (s.sec.log.refuses = false) :=
  ⟨{ up with boot := { up.boot with slotB := { FwSlot.initial with state := 2 } } }, rq 1, war, 1, true, .inl (inTurn (takes (by decide +kernel)) (by decide +kernel)), by decide +kernel⟩

theorem witness_FirmwareCommandsComplete_5 : ∃ (s : State) (r : Req) (x : Session) (k : Fin 2) (_ : Bool),
    (InTurn s r x ∨ InBivouac s r x) ∧ (x.role = 0) ∧ (s.changing = false) ∧ ((s.phase = 8 ∨ s.handBlocked = false)) ∧ (((s.fwSlot k).state ≠ 2 ∨ s.phase ≠ 8 ∧ s.fld Reg.STU_STATUS_SLOT = k.val)) :=
  ⟨up, rq 1, war, 0, false, .inl (inTurn (takes (by decide +kernel)) (by decide +kernel)), by decide +kernel⟩

theorem witness_FirmwareCommandsComplete_6 : ∃ (s : State) (r : Req) (x : Session),
    (InTurn s r x ∨ InBivouac s r x) ∧ ((x.role = 0 ∨ x.role = 2)) :=
  ⟨up, rq 3, stw, .inl (inTurn (takes (by decide +kernel)) (by decide +kernel)), by decide +kernel⟩

theorem witness_PitchActionsComplete_1 : ∃ (s : State) (a : Actor) (x : Session) (p : Fin 8),
    (a.session ≠ 0) ∧ (s.session a.session = some x) ∧ (x.role ≤ 1) ∧ ((x.role = 1 → x.pitch = p.val + 1)) ∧ (s.changing = false) ∧ (s.logFull = false) ∧ (s.sec.log.refuses = false) ∧
    ∃ (row : Nat × Instr × Change),
    (row ∈ [(1, Instr.assign a p, Change.assign (p.val + 1)), (2, .apply a p, .apply (p.val + 1)), (3, .seal a p, .seal (p.val + 1)), (4, .release a p, .release (p.val + 1)), (5, .forceRelease a p, .forceRelease (p.val + 1))]) ∧ (s.actionRefusal (p.val + 1) row.1 x.role = 0) :=
  ⟨up.setFld Reg.SEC_TENANT_KEY_KEY 1 2, { session := 1, tod := 0 }, war, 1, all6 (by decide +kernel) ⟨by decide +kernel, (1, .assign { session := 1, tod := 0 } 1, .assign 2), by decide +kernel⟩⟩

theorem witness_PitchActionsComplete_1_apply : ∃ (s : State) (a : Actor) (x : Session) (p : Fin 8),
    (a.session ≠ 0) ∧ (s.session a.session = some x) ∧ (x.role ≤ 1) ∧ ((x.role = 1 → x.pitch = p.val + 1)) ∧ (s.changing = false) ∧ (s.logFull = false) ∧ (s.sec.log.refuses = false) ∧
    ∃ (row : Nat × Instr × Change),
    (row ∈ [(1, Instr.assign a p, Change.assign (p.val + 1)), (2, .apply a p, .apply (p.val + 1)), (3, .seal a p, .seal (p.val + 1)), (4, .release a p, .release (p.val + 1)), (5, .forceRelease a p, .forceRelease (p.val + 1))]) ∧ (s.actionRefusal (p.val + 1) row.1 x.role = 0) :=
  ⟨up.setFld Reg.SEC_PITCH_CTL_STATE 2 2, { session := 1, tod := 0 }, war, 1, all6 (by decide +kernel) ⟨by decide +kernel, (2, .apply { session := 1, tod := 0 } 1, .apply 2), by decide +kernel⟩⟩

theorem witness_PitchActionsComplete_1_seal : ∃ (s : State) (a : Actor) (x : Session) (p : Fin 8),
    (a.session ≠ 0) ∧ (s.session a.session = some x) ∧ (x.role ≤ 1) ∧ ((x.role = 1 → x.pitch = p.val + 1)) ∧ (s.changing = false) ∧ (s.logFull = false) ∧ (s.sec.log.refuses = false) ∧
    ∃ (row : Nat × Instr × Change),
    (row ∈ [(1, Instr.assign a p, Change.assign (p.val + 1)), (2, .apply a p, .apply (p.val + 1)), (3, .seal a p, .seal (p.val + 1)), (4, .release a p, .release (p.val + 1)), (5, .forceRelease a p, .forceRelease (p.val + 1))]) ∧ (s.actionRefusal (p.val + 1) row.1 x.role = 0) :=
  ⟨up.setFld Reg.SEC_PITCH_CTL_STATE 2 1, { session := 2, tod := 0 }, ten, 0, all6 (by decide +kernel) ⟨by decide +kernel, (3, .seal { session := 2, tod := 0 } 0, .seal 1), by decide +kernel⟩⟩

theorem witness_PitchActionsComplete_1_release : ∃ (s : State) (a : Actor) (x : Session) (p : Fin 8),
    (a.session ≠ 0) ∧ (s.session a.session = some x) ∧ (x.role ≤ 1) ∧ ((x.role = 1 → x.pitch = p.val + 1)) ∧ (s.changing = false) ∧ (s.logFull = false) ∧ (s.sec.log.refuses = false) ∧
    ∃ (row : Nat × Instr × Change),
    (row ∈ [(1, Instr.assign a p, Change.assign (p.val + 1)), (2, .apply a p, .apply (p.val + 1)), (3, .seal a p, .seal (p.val + 1)), (4, .release a p, .release (p.val + 1)), (5, .forceRelease a p, .forceRelease (p.val + 1))]) ∧ (s.actionRefusal (p.val + 1) row.1 x.role = 0) :=
  ⟨up.setFld Reg.SEC_PITCH_CTL_STATE 3 1, { session := 2, tod := 0 }, ten, 0, all6 (by decide +kernel) ⟨by decide +kernel, (4, .release { session := 2, tod := 0 } 0, .release 1), by decide +kernel⟩⟩

theorem witness_PitchActionsComplete_1_force : ∃ (s : State) (a : Actor) (x : Session) (p : Fin 8),
    (a.session ≠ 0) ∧ (s.session a.session = some x) ∧ (x.role ≤ 1) ∧ ((x.role = 1 → x.pitch = p.val + 1)) ∧ (s.changing = false) ∧ (s.logFull = false) ∧ (s.sec.log.refuses = false) ∧
    ∃ (row : Nat × Instr × Change),
    (row ∈ [(1, Instr.assign a p, Change.assign (p.val + 1)), (2, .apply a p, .apply (p.val + 1)), (3, .seal a p, .seal (p.val + 1)), (4, .release a p, .release (p.val + 1)), (5, .forceRelease a p, .forceRelease (p.val + 1))]) ∧ (s.actionRefusal (p.val + 1) row.1 x.role = 0) :=
  ⟨up.setFld Reg.SEC_PITCH_CTL_STATE 3 8, { session := 1, tod := 0 }, war, 7, all6 (by decide +kernel) ⟨by decide +kernel, (5, .forceRelease { session := 1, tod := 0 } 7, .forceRelease 8), by decide +kernel⟩⟩

theorem witness_PitchActionsComplete_2 : ∃ (s : State) (a : Actor) (x : Session) (_ : Fin 8),
    (a.session ≠ 0) ∧ (s.session a.session = some x) ∧ (x.role = 2) :=
  ⟨up, { session := 3, tod := 0 }, stw, 0, by decide +kernel⟩

theorem witness_OwnershipDebugAndKeyCommandsComplete_1 : ∃ (s : State) (a : Actor) (x : Session),
    (a.session ≠ 0) ∧ (s.session a.session = some x) ∧ (x.role = 0) ∧ (s.changing = false) ∧ (s.logFull = false) ∧ (s.sec.log.refuses = false) ∧ (s.transferRefusal 0 = 0) :=
  ⟨up.setFld Reg.SEC_OWNER_NEXT_KEY 1 0, { session := 1, tod := 0 }, war, by decide +kernel⟩

theorem witness_OwnershipDebugAndKeyCommandsComplete_1_lock : ∃ (s : State) (a : Actor) (x : Session),
    (a.session ≠ 0) ∧ (s.session a.session = some x) ∧ (x.role = 0) ∧ (s.changing = false) ∧ (s.logFull = false) ∧ (s.sec.log.refuses = false) ∧ (s.sec.unlocked.isSome = true) :=
  ⟨{ up with sec := { up.sec with unlocked := some 1 } }, { session := 1, tod := 0 }, war, by decide +kernel⟩

theorem witness_OwnershipDebugAndKeyCommandsComplete_2 : ∃ (s : State) (a : Actor) (x : Session) (p : Fin 8) (_ : BitVec 456),
    (a.session ≠ 0) ∧ (s.session a.session = some x) ∧ (x.role = 0) ∧ (s.changing = false) ∧ (s.logFull = false) ∧ (s.fld Reg.SEC_PITCH_CTL_STATE (p.val + 1) = 0) ∧ (registersWf s) :=
  ⟨up, { session := 1, tod := 0 }, war, 7, 1, by decide +kernel⟩

theorem witness_OwnershipDebugAndKeyCommandsComplete_3 : ∃ (s : State) (a : Actor) (x : Session) (key : BitVec 256),
    (a.session ≠ 0) ∧ (s.session a.session = some x) ∧ (x.role = 0) ∧ (s.changing = false) ∧ (s.logFull = false) ∧ (s.sec.log.refuses = false) ∧ (registersWf s) ∧ (s.sec.fabDigests.contains (fabricDigest key.toNat) = false) :=
  ⟨up, { session := 1, tod := 0 }, war, 1, by decide +kernel⟩

theorem witness_HostPortRowsComplete_1 : ∃ (s : State) (port : HePort),
    (s.fld Reg.HE_STATUS_STATE (36 + port.val) = 2) ∧ (registersWf s) :=
  ⟨up, 0, by decide +kernel⟩

theorem witness_HostPortRowsComplete_2 : ∃ (s : State) (port : HePort) (lanes : Fin 16),
    (s.portPowered port.val = true) ∧ ((s.hostPort port.val).held = false) ∧ (lanes.val ≠ 0) ∧ (s.fld Reg.HE_STATUS_STATE (36 + port.val) ≠ 2) :=
  ⟨State.reset, 1, 15, by decide +kernel⟩

theorem witness_HostPortRowsComplete_3 : ∃ (s : State),
    (s.hostIsUp 0 = true) ∧ (s.hostIsUp 1 = false) :=
  ⟨up, by decide +kernel⟩

theorem witness_HostPortRowsComplete_4 : ∃ (s : State) (port : HePort) (tlvs : Bytes),
    (s.hostIsUp port.val = true) ∧ (bareFrame + tlvs.length ≤ 9216) :=
  ⟨up, 0, [1, 2], by decide +kernel⟩

theorem witness_HostPortRowsComplete_5 : ∃ (s : State) (port : HePort) (_ : BitVec 128) (body : Bytes),
    (s.hostIsUp port.val = true) ∧ (ipFrame + 8 + body.length ≤ 9216) :=
  ⟨up, 0, 1, [1], by decide +kernel⟩

theorem witness_HostPortRowsComplete_6 : ∃ (s : State) (port : HePort),
    (s.hostIsUp port.val = true) :=
  ⟨up, 0, by decide +kernel⟩

theorem witness_HostPortRowsComplete_7 : ∃ (s : State) (port : HePort) (_ : Rdma) (_ : FrameForm) (_ : Bytes) (_ : BitVec 128) (_ : Bytes) (_ : NdMessage) (_ : Bytes) (_ : Nat),
    (s.hostIsUp port.val = true) ∧ (s.fld Reg.HE_FCS (36 + port.val) + 1 < ctrMax) ∧ (registersWf s) :=
  ⟨up, 0, rd, .vlan, [], 1, [], .router 1, [], 0, by decide +kernel⟩

theorem witness_RoceRowsComplete_1 : ∃ (s : State) (p : Rdma) (data : Bytes),
    (s.hostIsUp p.port.val = true) ∧ (p.frame = .plain) ∧ ((sget noWindow s.host.windows p.rkey).admits p data.length 1 = true) ∧
    let w := sget noWindow s.host.windows p.rkey
    let u := (s.gotFrame p.port.val (roceBytes data.length 16)).congestion p
    let ps := linePieces p.addr data.length
    (u.writeGate w.pitch (u.mapOf w.pitch) none ps = (0, 0)) :=
  ⟨win, rd, [7], all3 (by decide +kernel) (by decide +kernel)⟩

theorem witness_RoceRowsComplete_2 : ∃ (s : State) (p : Rdma) (len : Nat) (bs : Bytes),
    (s.hostIsUp p.port.val = true) ∧ (p.frame = .plain) ∧ ((sget noWindow s.host.windows p.rkey).admits p len 0 = true) ∧
    let w := sget noWindow s.host.windows p.rkey
    let u := (s.gotFrame p.port.val (roceBytes 0 16)).congestion p
    (u.readAt w.pitch (u.mapOf w.pitch) p.addr len = .ok bs) :=
  ⟨win, rd, 64, List.replicate 64 0, all3 (by decide +kernel) (gotIt (by decide +kernel))⟩

theorem witness_RoceRowsComplete_3 : ∃ (s : State) (p : Rdma),
    (s.hostIsUp p.port.val = true) ∧ (p.frame = .plain) :=
  ⟨up, rd, by decide +kernel⟩

theorem witness_RoceRowsComplete_4 : ∃ (s : State) (p : Rdma) (data : Bytes),
    (s.hostIsUp p.port.val = true) ∧ (p.frame = .plain) ∧ ((sget noWindow s.host.windows p.rkey).admits p data.length 1 = false) ∧ (p.congested = false) :=
  ⟨up, rd, [7], by decide +kernel⟩

theorem witness_LanternAnswersBusy_1 : ∃ (s : State) (r : Req) (x : Session) (_ : Nat),
    (s.hostIsUp r.port.val = true) ∧ (s.fld Reg.MBX_STATUS_SERVER < 2) ∧ (r.frame = .plain) ∧ (frameOverhead + r.bytes ≤ 9216) ∧ (r.dport.toNat = dzmpPort) ∧ (dzmpForm r true = true) ∧ (s.session r.session.toNat = some x) ∧ (x.fresh r.ctr.toNat = true) ∧ (r.tagOk = true) ∧ (r.ctr.toNat ≤ ctrLimit) ∧ (x.ctrProxy < ctrLimit) :=
  ⟨up.setFld Reg.MBX_STATUS_SERVER 1 0, rq 1, war, 0x0601, by decide +kernel⟩

theorem witness_XpegTallyInstructionsComplete_1 : ∃ (s : State) (core : PegCore) (_ : Fin 32) (rs1 : BitVec 64) (_ : BitVec 64) (c : Nat) (t : Nat),
    (s.pegRuns core = true) ∧ (PegOrder s core) ∧ (s.pegTally core rs1 = some (c, t)) ∧ (s.tallyReachable c = true) ∧ (noWaiter s c t) :=
  ⟨syn, 7, 9, t5, 3, 0, 5, by decide +kernel, ⟨by decide +kernel, by decide +kernel, by decide +kernel⟩, by decide +kernel, by decide +kernel, noWait rfl⟩

theorem witness_XpegSignalsOtherDevicesAndTraps_1 : ∃ (s : State) (core : PegCore) (rs1 : BitVec 64) (rs2 : BitVec 64),
    (s.pegRuns core = true) ∧ (rs1.getLsbD 60 = true) ∧ (bits rs2.toNat 31 0 ≠ 0) :=
  ⟨busy, 0, BitVec.ofNat 64 (2 ^ 60 + 9 * 2 ^ 48 + tallyBase), 1, by decide +kernel⟩

theorem witness_XpegSignalsOtherDevicesAndTraps_2 : ∃ (s : State) (core : PegCore) (_ : Fin 32) (rs1 : BitVec 64) (_ : BitVec 64),
    (s.pegRuns core = true) ∧ (rs1.getLsbD 60 = false) ∧ (s.pegTally core rs1 = none) :=
  ⟨busy, 0, 1, BitVec.ofNat 64 (tallyBase + 4), 1, by decide +kernel⟩

theorem witness_XpegSignalsOtherDevicesAndTraps_3 : ∃ (s : State) (core : PegCore) (rs1 : BitVec 64) (rs2 : BitVec 64) (c : Nat) (t : Nat),
    (s.pegRuns core = true) ∧ (s.pegTally core rs1 = some (c, t)) ∧ (s.tallyReachable c = true) ∧
    let amount := bits rs2.toNat 31 0
    ((s.tally c t).limit < (s.tally c t).count + amount) ∧ (0 < amount) ∧ (s.pegStores core = false) :=
  ⟨syn, 7, t5, 5, 0, 5, all3 (by decide +kernel) (by decide +kernel)⟩

theorem witness_XpegSignalsOtherDevicesAndTraps_4 : ∃ (s : State) (core : PegCore) (rs1 : BitVec 64) (rs2 : BitVec 64) (c : Nat) (t : Nat),
    (s.pegRuns core = true) ∧ (s.pegTally core rs1 = some (c, t)) ∧ (s.tallyReachable c = true) ∧
    let amount := bits rs2.toNat 31 0
    ((s.tally c t).count < amount) :=
  ⟨syn, 7, t5, 4, 0, 5, all3 (by decide +kernel) (by decide +kernel)⟩

theorem witness_XpegSignalsOtherDevicesAndTraps_5 : ∃ (s : State) (core : PegCore) (_ : Fin 32) (rs1 : BitVec 64) (rs2 : BitVec 64) (c : Nat) (t : Nat),
    (s.pegRuns core = true) ∧ (s.pegTally core rs1 = some (c, t)) ∧ (s.tallyReachable c = false) ∧ (s.pegStores core = false) ∧
    let amount := bits rs2.toNat 31 0
    (0 < amount) :=
  ⟨syn.setFld Reg.FEN_STATE_CAMP_STATE 2 0, 7, 9, t5, 1, 0, 5, all4 (by decide +kernel) (by decide +kernel)⟩

theorem witness_XpegSignalsOtherDevicesAndTraps_6 : ∃ (s : State) (core : PegCore) (word : BitVec 32),
    (s.pegRuns core = true) ∧ (xpegOpcode word.toNat = true) ∧ (xpegListed word.toNat = false) ∧ (word.toNat ≠ 0) :=
  ⟨up, 63, 0x0000708B, by decide +kernel⟩

theorem witness_XpegSignalsOtherDevicesAndTraps_7 : ∃ (s : State) (core : PegCore) (addr : BitVec 48) (value : BitVec 32) (c : Nat) (off : Nat),
    (s.pegRuns core = true) ∧ (rising s.sync.tallies = true) ∧ ((translate (s.mapOf (s.pegPitch core)) addr.toNat).map region = some (.tally c off)) ∧ (off % 8 = 4) ∧ (off < 2 ^ 13) ∧ (s.tallyReachable c = true) ∧ (s.limitOk c (off / 8) value.toNat = true) :=
  ⟨syn, 7, BitVec.ofNat 48 (tallyBase + 44), 3, 0, 44, by decide +kernel⟩

theorem witness_XpegBarriersAndFencesComplete_1 : ∃ (s : State) (core : PegCore) (_ : Fin 32) (rs1 : BitVec 64) (round : Nat) (s1 : State),
    (s.pegRuns core = true) ∧ ((∀ a ∈ (s.peg core).arrivals, a.1 ≠ bits rs1.toNat 4 0)) ∧ (s.arrive (bits rs1.toNat 4 0) (.peg core) (rs1.getLsbD 8) = (0, round, s1)) :=
  ⟨syn, 7, 9, 0, 0, (syn.arrive 0 (.peg 7) false).2.2, by decide +kernel, by decide +kernel, Prod.ext (by decide +kernel) (Prod.ext (by decide +kernel) rfl)⟩

theorem witness_XpegBarriersAndFencesComplete_2 : ∃ (s : State) (core : PegCore) (_ : Fin 32) (rs1 : BitVec 64) (code : Nat) (round : Nat) (s1 : State),
    (s.pegRuns core = true) ∧ ((∀ a ∈ (s.peg core).arrivals, a.1 ≠ bits rs1.toNat 4 0)) ∧ (s.arrive (bits rs1.toNat 4 0) (.peg core) (rs1.getLsbD 8) = (code, round, s1)) ∧ (code ≠ 0) :=
  ⟨syn, 7, 9, 5, Code.BARRIER_NOT_MEMBER, 0, (syn.arrive 5 (.peg 7) false).2.2, by decide +kernel, by decide +kernel, Prod.ext (by decide +kernel) (Prod.ext (by decide +kernel) rfl), by decide +kernel⟩

theorem witness_XpegBarriersAndFencesComplete_3 : ∃ (s : State) (core : PegCore) (_ : Fin 32) (rs1 : BitVec 64) (round : Nat),
    (s.pegRuns core = true) ∧ ((s.peg core).arrivals.find? (fun x => decide (x.1 = bits rs1.toNat 4 0)) = some (bits rs1.toNat 4 0, round)) :=
  ⟨{ syn with pegs := [(7, { PegRec.idle with arrivals := [(0, 2)] })] }, 7, 9, 0, 2, by decide +kernel⟩

theorem witness_XpegBarriersAndFencesComplete_4 : ∃ (s : State) (core : PegCore) (_ : Fin 32) (_ : BitVec 64),
    (s.pegRuns core = true) ∧ (PegOrder s core) :=
  ⟨{ syn with pegs := [(7, { PegRec.idle with outstanding := [(4096, 1)], failed := [9] })] }, 7, 9, 9, by decide +kernel, ⟨by decide +kernel, by decide +kernel, by decide +kernel⟩⟩

theorem witness_XpegBarriersAndFencesComplete_5 : ∃ (s : State) (core : PegCore) (b : PegBlock) (_ : BitVec 5) (_ : BitVec 32),
    (s.campsGated = false) ∧ ((s.peg core).block = some b) ∧ (PegOrder s core) :=
  ⟨{ syn with pegs := [(7, { PegRec.idle with block := some (.wait 9 0 5 4) })], sync := { syn.sync with waits := [{ camp := 0, tally := 5, agent := .peg 7, amount := 4 }] } }, 7, .wait 9 0 5 4, 31, BitVec.ofNat 32 (2 ^ 31), by decide +kernel, by decide +kernel, ⟨by decide +kernel, by decide +kernel, by decide +kernel⟩⟩

theorem witness_XpegStreamAndNumberInstructionsComplete_1 : ∃ (s : State) (core : PegCore) (_ : Fin 32) (rs1 : BitVec 64) (_ : BitVec 64) (w : Nat),
    (s.pegRuns core = true) ∧ (PegOrder s core) ∧ (s.readNum (s.pegPitch core) (s.mapOf (s.pegPitch core)) (bits rs1.toNat 47 0) 32 = .ok w) :=
  ⟨{ busy with mem := [(24, 1)] }, 7, 9, 0, 0x11, 2 ^ 192, by decide +kernel, ⟨by decide +kernel, by decide +kernel, by decide +kernel⟩, gotIt (by decide +kernel)⟩

theorem witness_XpegStreamAndNumberInstructionsComplete_2 : ∃ (s : State) (core : PegCore) (_ : Fin 32) (_ : BitVec 64) (_ : BitVec 64),
    (s.pegRuns core = true) ∧ (PegOrder s core) :=
  ⟨busy, 7, 9, 0x11, 0x40000000, by decide +kernel, ⟨by decide +kernel, by decide +kernel, by decide +kernel⟩⟩

theorem witness_StreamControlDescriptorsComplete_1 : ∃ (s : State) (k : SlotKey) (r : StartRec) (rest : List StartRec),
    (rising s.slots = true) ∧ ((s.slot k).state = 0) ∧ ((s.slot k).queue = r :: rest) ∧ (s.campRuns (slotCamp k) = true) ∧ (s.fld Reg.FEN_STATE_CAMP_STATE (slotCamp k) = 0) :=
  ⟨{ syn with slots := [(1, { StreamSlot.idle with queue := [rec1] })] }, 1, rec1, [], by decide +kernel⟩

theorem witness_StreamControlDescriptorsComplete_2 : ∃ (s : State) (k : SlotKey) (x : StreamSlot) (r : StartRec) (w : Nat),
    (Issuing s k tNop x r w) :=
  ⟨strm nopWord, 1, nxt (strm nopWord), rec1, nopWord, issues rfl (by decide +kernel)⟩

theorem witness_StreamControlDescriptorsComplete_3 : ∃ (s : State) (k : SlotKey) (x : StreamSlot) (r : StartRec) (w : Nat),
    (Issuing s k tFencePoint x r w) :=
  ⟨strm (word tFencePoint [(64, 9)]), 1, nxt (strm (word tFencePoint [(64, 9)])), rec1, word tFencePoint [(64, 9)], issues rfl (by decide +kernel)⟩

theorem witness_StreamControlDescriptorsComplete_4 : ∃ (s : State) (k : SlotKey) (x : StreamSlot) (r : StartRec) (w : Nat),
    (Issuing s k tEnd x r w) ∧ (registersWf s) ∧ (residue x.touched = none) ∧ (r.endEn = false) :=
  ⟨strm (word tEnd []), 1, nxt (strm (word tEnd [])), rec1, word tEnd [], issues rfl (by decide +kernel), by decide +kernel⟩

theorem witness_StreamControlDescriptorsComplete_5 : ∃ (s : State) (k : SlotKey) (x : StreamSlot) (r : StartRec) (w : Nat),
    (Issuing s k tEnd x r w) ∧ (rising s.sync.tallies = true) ∧ (residue x.touched = none) ∧ (r.endEn = true) ∧ (s.tallyReachable r.endCamp = true) ∧ (noWaiter s r.endCamp r.endTally) ∧ ((s.tally r.endCamp r.endTally).count < (s.tally r.endCamp r.endTally).limit) :=
  ⟨ending, 1, nxt ending, { rec1 with endEn := true }, word tEnd [], issues rfl (by decide +kernel), all4 (by decide +kernel) ⟨noWait rfl, by decide +kernel⟩⟩

theorem witness_SignalsAndTakesComplete_1 : ∃ (s : State) (k : SlotKey) (x : StreamSlot) (r : StartRec) (w : Nat),
    (Issuing s k tSignal x r w) ∧ (x.alone = false) :=
  ⟨strm2 (sigWord 1), 1, nxt (strm2 (sigWord 1)), rec1, sigWord 1, issues rfl (by decide +kernel), by decide +kernel⟩

theorem witness_SignalsAndTakesComplete_2 : ∃ (s : State) (k : SlotKey) (x : StreamSlot) (r : StartRec) (w : Nat),
    (Issuing s k tSignal x r w) ∧ (Numbered s) ∧ (x.alone = true) ∧ (yAmount w = 0) :=
  ⟨strm (sigWord 0), 1, nxt (strm (sigWord 0)), rec1, sigWord 0, issues rfl (by decide +kernel), numbered (by decide +kernel), by decide +kernel⟩

theorem witness_SignalsAndTakesComplete_3 : ∃ (s : State) (k : SlotKey) (x : StreamSlot) (r : StartRec) (w : Nat),
    (Issuing s k tSignal x r w) ∧ (Numbered s) ∧ (rising s.sync.tallies = true) ∧ (x.alone = true) ∧ (yAmount w ≠ 0) ∧ (bit w 76 = false) ∧ (s.tallyReachable (yCamp w) = true) ∧ (noWaiter s (yCamp w) (yTally w)) ∧
    let y := s.tally (yCamp w) (yTally w)
    (y.count + yAmount w ≤ y.limit) :=
  ⟨strm (sigWord 4), 1, nxt (strm (sigWord 4)), rec1, sigWord 4, issues rfl (by decide +kernel), numbered (by decide +kernel), all5 (by decide +kernel) ⟨noWait rfl, by decide +kernel⟩⟩

theorem witness_SignalsAndTakesComplete_4 : ∃ (s : State) (k : SlotKey) (x : StreamSlot) (r : StartRec) (w : Nat),
    (Issuing s k tSignal x r w) ∧ (Numbered s) ∧ (x.alone = true) ∧ (yAmount w ≠ 0) ∧ (bit w 76 = true) :=
  ⟨strm (sigFar 1), 1, nxt (strm (sigFar 1)), rec1, sigFar 1, issues rfl (by decide +kernel), numbered (by decide +kernel), by decide +kernel⟩

theorem witness_SignalsAndTakesComplete_5 : ∃ (s : State) (k : SlotKey) (x : StreamSlot) (r : StartRec) (w : Nat),
    (Issuing s k tTake x r w) ∧ (yAmount w = 0) :=
  ⟨strm2 (takeWord 0), 1, nxt (strm2 (takeWord 0)), rec1, takeWord 0, issues rfl (by decide +kernel), by decide +kernel⟩

theorem witness_SignalsAndTakesComplete_6 : ∃ (s : State) (k : SlotKey) (x : StreamSlot) (r : StartRec) (w : Nat),
    (Issuing s k tTake x r w) ∧ (rising s.sync.tallies = true) ∧ (yAmount w ≠ 0) ∧ (s.tallyReachable (yCamp w) = true) ∧
    let y := s.tally (yCamp w) (yTally w)
    (yAmount w ≤ y.count) :=
  ⟨strm2 (takeWord 3), 1, nxt (strm2 (takeWord 3)), rec1, takeWord 3, issues rfl (by decide +kernel), all3 (by decide +kernel) (by decide +kernel)⟩

theorem witness_WaitsAndBarriersComplete_1 : ∃ (s : State) (k : SlotKey) (x : StreamSlot) (r : StartRec) (w : Nat),
    (Issuing s k tWait x r w) ∧ (yAmount w = 0) :=
  ⟨strm (waitWord 0), 1, nxt (strm (waitWord 0)), rec1, waitWord 0, issues rfl (by decide +kernel), by decide +kernel⟩

theorem witness_WaitsAndBarriersComplete_2 : ∃ (s : State) (k : SlotKey) (x : StreamSlot) (r : StartRec) (w : Nat),
    (Issuing s k tWait x r w) ∧ (rising s.sync.tallies = true) ∧ (yAmount w ≠ 0) ∧ (s.tallyReachable (yCamp w) = true) ∧ (noWaiter s (yCamp w) (yTally w)) :=
  ⟨strm2 (waitWord 3), 1, nxt (strm2 (waitWord 3)), rec1, waitWord 3, issues rfl (by decide +kernel), all3 (by decide +kernel) (noWait rfl)⟩

theorem witness_WaitsAndBarriersComplete_3 : ∃ (s : State) (k : SlotKey) (x : StreamSlot) (r : StartRec) (w : Nat) (w0 : WaitRec),
    (Issuing s k tWait x r w) ∧ (yAmount w ≠ 0) ∧ (s.tallyReachable (yCamp w) = true) ∧ (s.sync.waits.find? (fun v => decide (v.camp = yCamp w ∧ v.tally = yTally w)) = some w0) ∧ ((s.tally (yCamp w) (yTally w)).count < w0.amount) ∧ (yAmount w ≤ (s.tally (yCamp w) (yTally w)).limit) :=
  ⟨waiting, 1, nxt waiting, rec1, waitWord 1, { camp := 0, tally := 5, agent := .peg 7, amount := 4 }, issues rfl (by decide +kernel), by decide +kernel⟩

theorem witness_WaitsAndBarriersComplete_4 : ∃ (s : State) (k : SlotKey) (x : StreamSlot) (r : StartRec) (w : Nat) (round : Nat) (s2 : State),
    (Issuing s k tBarrier x r w) ∧ ((s.setSlot k x).arrive (bits w 68 64) (.slot k) (bit w 69) = (0, round, s2)) :=
  ⟨strm2 (word tBarrier []), 1, nxt (strm2 (word tBarrier [])), rec1, word tBarrier [], 0, (((strm2 (word tBarrier [])).setSlot 1 (nxt (strm2 (word tBarrier [])))).arrive 0 (.slot 1) false).2.2, issues rfl (by decide +kernel), Prod.ext (by decide +kernel) (Prod.ext (by decide +kernel) rfl)⟩

theorem witness_MovingDescriptorsComplete_1 : ∃ (s : State) (k : SlotKey) (x : StreamSlot) (r : StartRec) (w : Nat),
    (Issuing s k tDmaCopy x r w) :=
  ⟨strmMem copyWord, 1, nxt (strmMem copyWord), rec1, copyWord, issues rfl (by decide +kernel)⟩

theorem witness_MovingDescriptorsComplete_2 : ∃ (s : State) (k : SlotKey) (x : StreamSlot) (r : StartRec) (w : Nat),
    (Issuing s k tDmaReduce x r w) :=
  ⟨strmMem reduceWord, 1, nxt (strmMem reduceWord), rec1, reduceWord, issues rfl (by decide +kernel)⟩

theorem witness_MovingDescriptorsComplete_3 : ∃ (s : State) (k : SlotKey) (x : StreamSlot) (r : StartRec) (w : Nat),
    (Issuing s k tGather x r w) :=
  ⟨strmMem gatherWord, 1, nxt (strmMem gatherWord), rec1, gatherWord, issues rfl (by decide +kernel)⟩

theorem witness_MovingDescriptorsComplete_4 : ∃ (s : State) (k : SlotKey) (x : StreamSlot) (r : StartRec) (w : Nat) (bs : Bytes) (s2 : State),
    (Issuing s k tDigest x r w) ∧
    let i := issuing s k x r w
    let s1 := s.setSlot k x
    let out := if gMode w = 0 then treeDigest bs else beacon bs
    (s1.readAt i.pitch i.map (s1.slotAt i w 64) (gLen w) = .ok bs) ∧ (s1.writeAt i.pitch i.map (some i.camp) (s1.slotAt i w 128) out = .ok s2) :=
  ⟨strmMem (digestWord 1), 1, nxt (strmMem (digestWord 1)), rec1, digestWord 1, theOk [] (digRead (strmMem (digestWord 1)) 1 (nxt (strmMem (digestWord 1))) rec1 (digestWord 1)), theOk up (digWrite (strmMem (digestWord 1)) 1 (nxt (strmMem (digestWord 1))) rec1 (digestWord 1) (theOk [] (digRead (strmMem (digestWord 1)) 1 (nxt (strmMem (digestWord 1))) rec1 (digestWord 1)))), issues rfl (by decide +kernel), okIs (by decide +kernel), okIs (by decide +kernel)⟩

theorem witness_StashDescriptorsComplete_1 : ∃ (s : State) (k : SlotKey) (x : StreamSlot) (r : StartRec) (w : Nat) (e : Nat),
    (Issuing s k tStashPut x r w) ∧
    let i := issuing s k x r w
    let s1 := s.setSlot k x
    (s1.findEntry i.pitch i.mbatch (bits w 207 192) = some e) ∧ (bits w 191 160 + bits w 159 128 ≤ bits w 287 256) ∧ ((∀ n, s1.keySize i.pitch i.mbatch (bits w 207 192) = some n → n = bits w 287 256)) :=
  ⟨stashed putWord 1 0, 1, nxt (stashed putWord 1 0), rec1, putWord, 0, issues rfl (by decide +kernel), by decide +kernel, by decide +kernel, by intro n h; have : (none : Option Nat) = some n := h; cases this⟩

theorem witness_StashDescriptorsComplete_2 : ∃ (s : State) (k : SlotKey) (x : StreamSlot) (r : StartRec) (w : Nat) (s3 : State),
    (Issuing s k tStashPut x r w) ∧
    let i := issuing s k x r w
    let s1 := s.setSlot k x
    (s1.findEntry i.pitch i.mbatch (bits w 207 192) = none) ∧ (bits w 191 160 + bits w 159 128 ≤ bits w 287 256) ∧ (s1.firstPut i = some s3) :=
  ⟨strm putWord, 1, nxt (strm putWord), rec1, putWord, (firstOf (strm putWord) 1 (nxt (strm putWord)) rec1 putWord).getD up, issues rfl (by decide +kernel), by decide +kernel, by decide +kernel, someIs (by decide +kernel)⟩

theorem witness_StashDescriptorsComplete_3 : ∃ (s : State) (k : SlotKey) (x : StreamSlot) (r : StartRec) (w : Nat) (e : Nat),
    (Issuing s k tStashGet x r w) ∧ (Numbered s) ∧
    let i := issuing s k x r w
    ((s.setSlot k x).findEntry i.pitch i.mbatch (bits w 335 320) = some e) :=
  ⟨stashed getWord 1 0, 1, nxt (stashed getWord 1 0), rec1, getWord, 0, issues rfl (by decide +kernel), numbered (by decide +kernel), by decide +kernel⟩

theorem witness_StashDescriptorsComplete_4 : ∃ (s : State) (k : SlotKey) (x : StreamSlot) (r : StartRec) (w : Nat),
    (Issuing s k tStashGet x r w) ∧
    let i := issuing s k x r w
    ((s.setSlot k x).findEntry i.pitch i.mbatch (bits w 335 320) = none) :=
  ⟨strm getWord, 1, nxt (strm getWord), rec1, getWord, issues rfl (by decide +kernel), by decide +kernel⟩

theorem witness_ArithmeticDescriptorsComplete_1 : ∃ (s : State) (k : SlotKey) (x : StreamSlot) (r : StartRec) (w : Nat),
    (Issuing s k tMatmul x r w) :=
  ⟨matSt, 1, nxt matSt, rec1, matWord, issues rfl (by decide +kernel)⟩

theorem witness_ArithmeticDescriptorsComplete_2 : ∃ (s : State) (k : SlotKey) (x : StreamSlot) (r : StartRec) (w : Nat) (p : QPlan) (s3 : State),
    (Issuing s k tQuantise x r w) ∧
    let i := issuing s k x r w
    let s1 := s.setSlot k x
    (s1.enginesFor i.camp w ≠ []) ∧ (s1.quantChecks i = .ok p) ∧ (s1.mayRead i.pitch i.map p.src.runs = .ok ()) ∧
    let ws := s1.zWrites i.map p w (s1.zCoarse i.map p w).1
    ((s1.zCoarse i.map p w).2.writeAll i.pitch i.map none ws = .ok s3) :=
  ⟨quantSt, 1, nxt quantSt, rec1, quantWord, (quantP quantSt 1 (nxt quantSt) rec1 quantWord), theOk up (quantOut quantSt 1 (nxt quantSt) rec1 quantWord (quantP quantSt 1 (nxt quantSt) rec1 quantWord)), issues rfl (by decide +kernel), by decide +kernel, quantOk (by decide +kernel), okUnit (by decide +kernel), okIs (by decide +kernel)⟩

theorem witness_ArithmeticDescriptorsComplete_3 : ∃ (s : State) (k : SlotKey) (x : StreamSlot) (r : StartRec) (w : Nat) (e : Nat) (es : List Nat) (c : Converted) (s3 : State),
    (Issuing s k tConvert x r w) ∧
    let i := issuing s k x r w
    let s1 := s.setSlot k x
    (s1.enginesFor i.camp w = e :: es) ∧ (s1.convert i = .ok c) ∧ ((s1.countConvert i e c).writeAll i.pitch i.map none c.writes = .ok s3) :=
  ⟨convSt, 1, nxt convSt, rec1, convWord, 0, [1, 2, 3, 4, 5, 6, 7], convP, theOk up (convOut convSt 1 (nxt convSt) rec1 convWord 0 convP), issues rfl (by decide +kernel), by decide +kernel, passedIs (by decide +kernel), okIs (by decide +kernel)⟩

theorem witness_ArithmeticDescriptorsComplete_4 : ∃ (s : State) (k : SlotKey) (x : StreamSlot) (r : StartRec) (w : Nat) (p : VPlan) (s3 : State),
    (Issuing s k tVprog x r w) ∧
    let i := issuing s k x r w
    let s1 := s.setSlot k x
    (pProg w ∉ [0x07, 0xFF]) ∧ (s1.vprogChecks i = .ok p) ∧ (s1.vprogWork i.pitch i.camp i.map w i.leg p = .ok s3) ∧ ((pProg w = 1 → updateOk p.param (s.job i.pitch).bf16Master = true ∧ ((s.job i.pitch).bf16Master = true → (s.pitchRec i.pitch).spdKey.isSome = true))) :=
  ⟨addSt, 1, nxt addSt, rec1, addWord, addP, theOk up (vprogOut addSt 1 (nxt addSt) rec1 addWord addP), issues rfl (by decide +kernel), by decide +kernel, passedIs (by decide +kernel), okIs (by decide +kernel), fun h => absurd h (by decide +kernel)⟩

theorem witness_ArithmeticDescriptorsComplete_5 : ∃ (s : State) (k : SlotKey) (x : StreamSlot) (r : StartRec) (w : Nat) (s3 : State),
    (Issuing s k tVprog x r w) ∧ ((s.setSlot k x).issueVprog (issuing s k x r w) = some s3) :=
  ⟨addSt, 1, nxt addSt, rec1, addWord, (vprogIssue addSt 1 (nxt addSt) rec1 addWord).getD up, issues rfl (by decide +kernel), someIs (by decide +kernel)⟩

theorem witness_DescriptorFaultsStopTheSlot_1 : ∃ (s : State) (k : SlotKey) (x : StreamSlot) (r : StartRec) (w : Nat) (t : Nat) (code : Nat) (pos : Nat),
    (x = s.atNext k) ∧ (x.run = some r) ∧ (x.chain = none) ∧ (x.frame.entry x.frame.next = some (x.frame.next, 0, w)) ∧ (x.state = 1) ∧ (s.campRuns (slotCamp k) = true) ∧ (x.main.flights = []) ∧ (x.faulted = []) ∧ (x.aborting = false) ∧ (s.fld Reg.FEN_STATE_CAMP_STATE (slotCamp k) = 0) ∧ (rising s.slots = true) ∧ (registersWf s) ∧ (x.main.count = none) ∧ ((dType w = t ∨ dType w ∉ listedTypes)) ∧ (s.cmtState (s.slotPitch k) ≠ 1) ∧ (s.fld Reg.STR_FAULTS (s.slotHome k) + 1 < ctrMax) ∧ (decodeFault w x.frame.next (s.slotMap k).camps (dLeg w && r.legLen != 0) = some (code, pos)) ∧ (code < 2 ^ 16) ∧
    ∃ (row : Instr × Nat),
    (row ∈ [(Instr.nop k, tNop), (.signal k, tSignal), (.wait k, tWait), (.take k, tTake), (.barrier k, tBarrier), (.dmaCopy k, tDmaCopy), (.dmaReduce k, tDmaReduce), (.gather k, tGather), (.stashPut k, tStashPut), (.stashGet k, tStashGet), (.digest k, tDigest), (.matmul k, tMatmul), (.quantise k, tQuantise), (.convert k, tConvert), (.vprog k, tVprog), (.commit k, tCommit), (.fencePoint k, tFencePoint), (.endStream k, tEnd)]) ∧ (row.2 = t) :=
  ⟨strm (nopWord + 2 ^ 64), 1, nxt (strm (nopWord + 2 ^ 64)), rec1, nopWord + 2 ^ 64, tNop, Code.DESC_RESERVED_SET, 64, all9 (by decide +kernel) (all9 (by decide +kernel) (by decide +kernel))⟩

theorem witness_DescriptorFaultsStopTheSlot_2 : ∃ (s : State) (k : SlotKey),
    ((s.slot k).state ≠ 1) ∧ ((s.slot k).blockedGet = none) :=
  ⟨busy, 5, by decide +kernel⟩

theorem witness_DescriptorsComplete_1 : ∃ (s : State) (k : SlotKey) (chain : Bool) (n : Fin 32) (f : Flight),
    (InFlight s k chain n f) ∧ (registersWf s) ∧ ((s.slot k).aborting = false) ∧ ((s.slot k).state ≠ 3) ∧ (f.left = 0) ∧ (f.code = 0) ∧ (f.done = true) ∧ ((f.begun = true ∨ dType f.word ≠ tSignal)) ∧ (dType f.word ≠ tFencePoint) ∧ (s.product f.uid = none) ∧ ((dType f.word ≠ tVprog ∨ f.keep = [])) ∧ (dSigEn f.word = false) :=
  ⟨aloft (ended nopWord), 1, false, 0, ended nopWord, ⟨by decide +kernel, numbered (by decide +kernel), by decide +kernel, by decide +kernel⟩, by decide +kernel⟩

theorem witness_DescriptorsComplete_1_sig : ∃ (s : State) (k : SlotKey) (chain : Bool) (n : Fin 32) (f : Flight),
    (InFlight s k chain n f) ∧ (registersWf s) ∧ ((s.slot k).aborting = false) ∧ ((s.slot k).state ≠ 3) ∧ (f.left = 0) ∧ (f.code = 0) ∧ (f.done = true) ∧ ((f.begun = true ∨ dType f.word ≠ tSignal)) ∧ (dType f.word ≠ tFencePoint) ∧ (s.product f.uid = none) ∧ ((dType f.word ≠ tVprog ∨ f.keep = [])) ∧ (dSigEn f.word = true) :=
  ⟨aloft (ended (nopWord + 2 ^ 10 + 5 * 2 ^ 15)), 1, false, 0, ended (nopWord + 2 ^ 10 + 5 * 2 ^ 15), ⟨by decide +kernel, numbered (by decide +kernel), by decide +kernel, by decide +kernel⟩, by decide +kernel⟩

theorem witness_DescriptorsComplete_2 : ∃ (s : State) (k : SlotKey) (chain : Bool) (n : Fin 32) (f : Flight) (p : Product),
    (InFlight s k chain n f) ∧ ((s.slot k).aborting = false) ∧ (f.left = 0) ∧ (f.code = 0) ∧ (f.done = true) ∧ (dType f.word = tMatmul) ∧ (s.product f.uid = some p) :=
  ⟨withProd (aloft (ended matWord)) (prod matWord), 1, false, 0, ended matWord, prod matWord, ⟨by decide +kernel, numbered (by decide +kernel), by decide +kernel, by decide +kernel⟩, by decide +kernel⟩

theorem witness_DescriptorsComplete_3 : ∃ (s : State) (k : SlotKey) (chain : Bool) (n : Fin 32) (f : Flight),
    (InFlight s k chain n f) ∧ ((s.slot k).aborting = false) ∧ (f.left = 0) ∧ (f.code = 0) ∧ (f.done = true) ∧ (dType f.word = tFencePoint) ∧ (s.product f.uid = none) ∧ (dSigEn f.word = false) :=
  ⟨aloft (ended (word tFencePoint [(64, 9)])), 1, false, 0, ended (word tFencePoint [(64, 9)]), ⟨by decide +kernel, numbered (by decide +kernel), by decide +kernel, by decide +kernel⟩, by decide +kernel⟩

theorem witness_DescriptorsComplete_4 : ∃ (s : State) (k : SlotKey) (f : Flight),
    (InFlight s k false 0 f) ∧ ((s.slot k).aborting = false) ∧ (f.left = 0) ∧ (f.code = 0) ∧ (f.begun = false) ∧ (dType f.word = tSignal) ∧ (bit f.word 76 = false) ∧ (yAmount f.word ≠ 0) ∧ (rising s.sync.tallies = true) ∧
    let c := yCamp f.word
    let t := yTally f.word
    (s.tallyReachable c = true) ∧ (noWaiter s c t) ∧ ((s.tally c t).count + yAmount f.word ≤ (s.tally c t).limit) :=
  ⟨aloft { ended (sigWord 4) with begun := false, done := false }, 1, { ended (sigWord 4) with begun := false, done := false }, ⟨by decide +kernel, numbered (by decide +kernel), by decide +kernel, by decide +kernel⟩, all8 (by decide +kernel) ⟨by decide +kernel, noWait rfl, by decide +kernel⟩⟩

theorem witness_DescriptorsComplete_5 : ∃ (s : State) (k : SlotKey) (chain : Bool) (n : Fin 32) (f : Flight),
    (InFlight s k chain n f) ∧ ((s.slot k).aborting = false) ∧ (f.left = 0) ∧ (f.code ≠ 0) :=
  ⟨aloft { ended copyWord with code := 0x0208 }, 1, false, 0, { ended copyWord with code := 0x0208 }, ⟨by decide +kernel, numbered (by decide +kernel), by decide +kernel, by decide +kernel⟩, by decide +kernel⟩

theorem witness_DescriptorsComplete_6_mat : ∃ (s : State) (k : SlotKey) (chain : Bool) (n : Fin 32) (f : Flight),
    (InFlight s k chain n f) ∧ (f.left = 1) ∧ (f.uid ∉ s.eng.held) ∧ (((dType f.word ∈ [tQuantise, tConvert, tVprog] ∧ s.product f.uid = none) ∨ (dType f.word = tMatmul ∧ ∃ p, s.product f.uid = some p ∧ s.productDrained p = true ∧ p.a.prepass = false ∧ p.b.prepass = false))) :=
  ⟨withProd (aloft { flight matWord with done := false }) (prod matWord), 1, false, 0, { flight matWord with done := false }, ⟨by decide +kernel, numbered (by decide +kernel), by decide +kernel, by decide +kernel⟩, by decide +kernel, by decide +kernel, Or.inr ⟨by decide +kernel, prod matWord, by decide +kernel⟩⟩

theorem witness_DescriptorsComplete_6 : ∃ (s : State) (k : SlotKey) (chain : Bool) (n : Fin 32) (f : Flight),
    (InFlight s k chain n f) ∧ (f.left = 1) ∧ (f.uid ∉ s.eng.held) ∧ (((dType f.word ∈ [tQuantise, tConvert, tVprog] ∧ s.product f.uid = none) ∨ (dType f.word = tMatmul ∧ ∃ p, s.product f.uid = some p ∧ s.productDrained p = true ∧ p.a.prepass = false ∧ p.b.prepass = false))) :=
  ⟨aloft { flight convWord with done := false }, 1, false, 0, { flight convWord with done := false }, ⟨by decide +kernel, numbered (by decide +kernel), by decide +kernel, by decide +kernel⟩, by decide +kernel, by decide +kernel, Or.inl (by decide +kernel)⟩

theorem witness_DescriptorsComplete_7 : ∃ (s : State) (k : SlotKey) (n : Fin 32) (f : Flight) (e : Nat),
    (InFlight s k false n f) ∧ (dType f.word = tStashPut) ∧ (f.left ≠ 0) ∧
    let p := s.slotPitch k
    (s.findEntry p (s.slot k).mbatch (bits f.word 207 192) = some e) ∧ ((∀ j, (s.slot j).blockedGet = none)) :=
  ⟨putFlight, 1, 0, flight putWord, 0, ⟨by decide +kernel, numbered (by decide +kernel), by decide +kernel, by decide +kernel⟩, by decide +kernel, by decide +kernel, by decide +kernel, noneBlocked⟩

theorem witness_WatchdogsAndLimitsHaltTheSlot_1 : ∃ (s : State) (k : SlotKey) (f : Flight),
    (InFlight s k false 0 f) ∧ (registersWf s) ∧ (dType f.word ∈ [tDmaCopy, tDmaReduce, tGather, tDigest]) ∧ ((s.slot k).chain = none) ∧ ((s.slot k).main.flights = [f]) ∧ ((s.slot k).state = 1) ∧ ((s.slot k).aborting = false) ∧ ((s.slot k).faulted = []) ∧ (s.product f.uid = none) ∧ (s.cmtState (s.slotPitch k) ≠ 1) ∧ (s.fld Reg.STR_FAULTS (s.slotHome k) + 1 < ctrMax) :=
  ⟨aloft { flight copyIn with done := false }, 1, { flight copyIn with done := false }, ⟨by decide +kernel, numbered (by decide +kernel), by decide +kernel, by decide +kernel⟩, by decide +kernel⟩

theorem witness_WatchdogsAndLimitsHaltTheSlot_2 : ∃ (s : State) (k : SlotKey) (chain : Bool) (n : Fin 32) (f : Flight),
    (InFlight s k chain n f) ∧ (dType f.word ∈ [tVprog, tDmaCopy, tDmaReduce, tGather, tStashPut, tDigest]) ∧ ((s.slot k).aborting = false) :=
  ⟨aloft { flight addWord with done := false }, 1, false, 0, { flight addWord with done := false }, ⟨by decide +kernel, numbered (by decide +kernel), by decide +kernel, by decide +kernel⟩, by decide +kernel⟩

theorem witness_WatchdogsAndLimitsHaltTheSlot_3 : ∃ (s : State) (k : SlotKey) (n : Fin 32) (f : Flight),
    (InFlight s k false n f) ∧ (dType f.word = tStashGet) ∧ ((s.slot k).chain = none) ∧ ((s.slot k).aborting = false) :=
  ⟨blocked { flight getWord with done := false }, 1, 0, { flight getWord with done := false }, ⟨by decide +kernel, numbered (by decide +kernel), by decide +kernel, by decide +kernel⟩, by decide +kernel⟩

theorem witness_WatchdogsAndLimitsHaltTheSlot_4 : ∃ (s : State) (_ : SlotKey) (_ : Flight),
    (s.campsGated = false) :=
  ⟨midWait, 1, flight (waitWord 4), by decide +kernel⟩

theorem witness_WatchdogsAndLimitsHaltTheSlot_5 : ∃ (s : State) (k : SlotKey) (f : Flight),
    (s.campsGated = false) ∧ (registersWf s) ∧ (rising s.slots = true) ∧ ((s.slot k).state = 2) ∧ ((s.slot k).chain = none) ∧ ((s.slot k).main.flights = [f]) ∧ ((s.slot k).aborting = false) ∧ ((s.slot k).faulted = []) ∧ (s.cmtState (s.slotPitch k) ≠ 1) ∧ ((∀ w ∈ s.sync.waits, w.agent ≠ .slot k)) ∧ (s.fld Reg.STR_FAULTS (s.slotHome k) + 1 < ctrMax) :=
  ⟨{ blocked (flight getWord) with sync := syn.sync }, 1, flight getWord, by decide +kernel⟩

theorem witness_WatchdogsAndLimitsHaltTheSlot_6 : ∃ (s : State) (k : SlotKey) (w : WaitRec) (f : Flight),
    (s.campsGated = false) ∧ (registersWf s) ∧ (rising s.slots = true) ∧ ((s.slot k).state = 2) ∧ ((s.slot k).chain = none) ∧ ((s.slot k).main.flights = [f]) ∧ ((s.slot k).aborting = false) ∧ ((s.slot k).faulted = []) ∧ (s.cmtState (s.slotPitch k) ≠ 1) ∧ (s.sync.waits = [w]) ∧ (w.agent = .slot k) ∧ (s.fld Reg.STR_FAULTS (s.slotHome k) + 1 < ctrMax) :=
  ⟨midWait, 1, { camp := 0, tally := 5, agent := .slot 1, amount := 4 }, flight (waitWord 4), by decide +kernel⟩

theorem witness_WatchdogsAndLimitsHaltTheSlot_7 : ∃ (s : State) (k : SlotKey),
    (rising s.slots = true) ∧ ((s.slot k).abortDone = true) ∧ ((∀ e ∈ s.host.sessions, e.2.held = [])) ∧ ((s.job (s.slotPitch k)).ending = false) ∧ (s.fld Reg.SEC_PITCH_CTL_STATE (s.slotPitch k) ≠ 4) :=
  ⟨{ syn with slots := [(1, { StreamSlot.idle with state := 5, aborting := true })] }, 1, by decide +kernel⟩

theorem witness_ChainsAndHeldAddsGoOn_1 : ∃ (s : State) (k : SlotKey) (x : StreamSlot) (ch : Chain) (fr : Frame) (f : Flight),
    (s.campsGated = false) ∧ (rising s.slots = true) ∧ (x = StreamSlot.normalise 80 (s.slot k)) ∧ (x.chain = some (ch, fr)) ∧ (fr.flights = []) ∧ (fr.count = some fr.next) ∧ (x.state = 1) ∧ (x.main.flights = [f]) ∧ (ch.get = f.uid) ∧ (dType f.word = tStashGet) ∧ (Numbered s) :=
  ⟨chained 0 1, 1, StreamSlot.normalise 80 ((chained 0 1).slot 1), { get := 0, table := 0x3000, target := 1, cur := 0, dst := 0x110000 }, { Frame.empty with count := some 2, next := 2 }, { flight (getWord - 2 ^ 336) with done := false }, all9 (by decide +kernel) ⟨by decide +kernel, numbered (by decide +kernel)⟩⟩

theorem witness_ChainsAndHeldAddsGoOn_2 : ∃ (s : State) (k : SlotKey) (chain : Bool) (n : Fin 32) (f : Flight) (_ : Nat),
    (InFlight s k chain n f) ∧ (f.uid ∈ s.eng.held) :=
  ⟨held (withProd (aloft (flight matWord)) { prod matWord with hdr := 0x3000, todo := [{ row := 0, rows := 1, col := 0, cols := 1 }] }) (flight matWord), 1, false, 0, flight matWord, 0, ⟨by decide +kernel, numbered (by decide +kernel), by decide +kernel, by decide +kernel⟩, by decide +kernel⟩

theorem witness_ChainsAndHeldAddsGoOn_3 : ∃ (s : State) (e : Engine) (k : SlotKey) (chain : Bool) (n : Fin 32) (f : Flight) (p : Product),
    (s.engGated = false) ∧ (s.flightAt k chain n = some f) ∧ (s.product f.uid = some p) ∧ ((p.a.prepass = true ∨ p.b.prepass = true)) ∧ (p.uid ∉ s.eng.held) ∧ (e.val / 8 = p.camp) ∧ (s.engineUp e = true) ∧ (p.todo ≠ []) ∧ ((p.k ≠ 0 ∨ p.carryIn = true)) ∧ (s.mayRead p.pitch p.map ((if p.a.prepass then wholeReads p.a.whole else []) ++ (if p.b.prepass then wholeReads p.b.whole else [])) = .ok ()) ∧
    let runs := ofBool p.a.prepass + ofBool p.b.prepass
    (registersWf s) ∧ (s.fld Reg.LAD_PREPASS e + runs < ctrMax) :=
  ⟨withProd (aloft (flight matWord)) (preProd), 3, 1, false, 0, flight matWord, preProd, all9 (by decide +kernel) ⟨okUnit (by decide +kernel), by decide +kernel⟩⟩

theorem witness_ArraysRampAndParkAndHoldTheMargin_1 : ∃ (s : State) (e : Engine),
    (s.engGated = false) ∧ (registersWf s) ∧ (s.engState e ∈ [2, 3]) ∧ ((s.engine e).plots ≠ []) :=
  ⟨engSt 2 { EngRec.empty with plots := [plot 0 []] }, 3, by decide +kernel⟩

theorem witness_ArraysRampAndParkAndHoldTheMargin_1_down : ∃ (s : State) (e : Engine),
    (s.engGated = false) ∧ (registersWf s) ∧ (s.engState e = 4) ∧ ((s.engine e).plots ≠ []) :=
  ⟨engSt 4 { EngRec.empty with plots := [plot 0 []] }, 3, by decide +kernel⟩

theorem witness_ArraysRampAndParkAndHoldTheMargin_1_again : ∃ (s : State) (e : Engine),
    (s.engGated = false) ∧ (registersWf s) ∧ (s.engState e = 6) ∧ ((s.engine e).plots ≠ []) :=
  ⟨engSt 6 { EngRec.empty with plots := [plot 0 []] }, 3, by decide +kernel⟩

theorem witness_ArraysRampAndParkAndHoldTheMargin_1_idle : ∃ (s : State) (e : Engine),
    (s.engGated = false) ∧ (registersWf s) ∧ (s.engState e = 6) ∧ ((s.engine e).plots = []) ∧ (noDeal s (e / 8)) :=
  ⟨engSt 6 EngRec.empty, 3, all4 (by decide +kernel) (noDeals (by decide +kernel))⟩

theorem witness_ArraysRampAndParkAndHoldTheMargin_1_unpark : ∃ (s : State) (e : Engine),
    (s.engGated = false) ∧ (registersWf s) ∧ (s.engState e = 5) :=
  ⟨engSt 5 EngRec.empty, 3, by decide +kernel⟩

theorem witness_ArraysRampAndParkAndHoldTheMargin_1_ramped : ∃ (s : State) (e : Engine),
    (s.engGated = false) ∧ (registersWf s) ∧ (s.engState e = 1) ∧ ((s.engine e).plots ≠ []) ∧ ((s.engine e).banks = []) ∧ (noDeal s (e / 8)) :=
  ⟨engSt 1 { EngRec.empty with plots := [plot 0 []] }, 3, all5 (by decide +kernel) (noDeals (by decide +kernel))⟩

theorem witness_ArraysRampAndParkAndHoldTheMargin_2 : ∃ (s : State) (e : Engine),
    (s.engGated = false) ∧ (s.engState e = 1) :=
  ⟨engSt 1 { EngRec.empty with plots := [plot 0 []] }, 3, by decide +kernel⟩

theorem witness_ArraysRampAndParkAndHoldTheMargin_3 : ∃ (s : State) (e : Engine),
    (s.engGated = false) ∧ (registersWf s) ∧ (s.fld Reg.BRK_STATUS_MARGIN_REQ e = 1) :=
  ⟨((engSt 2 EngRec.empty).setFld Reg.BRK_STATUS_MARGIN_REQ 1 3).setFld Reg.GOV_PITCH_CFG_MARGIN_ALLOW 1 1, 3, by decide +kernel⟩

theorem witness_ArraysRampAndParkAndHoldTheMargin_4 : ∃ (s : State) (e : Engine),
    (s.engGated = false) ∧ (registersWf s) ∧ ((s.engine e).queue = []) ∧ ((∀ q ∈ (s.engine e).plots, q.plot ≠ 16)) :=
  ⟨engSt 2 { EngRec.empty with plots := [plot 0 []] }, 3, by decide +kernel⟩

theorem witness_BlocksRunToTheDrain_1 : ∃ (s : State) (e : Engine) (plot : Fin 17) (ofB : Bool) (p : Nat) (j : Nat) (_ : Bool) (_ : Cycles) (q : PlotRec) (pr : Product),
    (s.engGated = false) ∧ (rising s.eng.engs = true) ∧ ((s.engine e).plots.find? (fun q => decide (q.plot = plot.val)) = some q) ∧ (s.product q.uid = some pr) ∧
    let o := if ofB then pr.b else pr.a
    let r : PanelRec := { ofB := ofB, p := p, j := j }
    (p ∈ (if ofB then panelSpan q.rect.col q.rect.cols else panelSpan q.rect.row q.rect.rows)) ∧ (j < pr.chunks) ∧ (r ∉ q.fed) ∧ ((q.uid, r) ∉ (s.engine e).kept) ∧ (s.mayRead pr.pitch pr.map (o.reads p j) = .ok ()) ∧ (s.reservedTile pr.map o (if ofB then pr.n0 else pr.m0) pr.k0 p j = none) :=
  ⟨mulSt 2 { EngRec.empty with plots := [plot 0 [panelB]] }, 3, 0, false, 0, 0, true, noCyc, plot 0 [panelB], mulProd, all4 (by decide +kernel) (all4 (by decide +kernel) ⟨okUnit (by decide +kernel), by decide +kernel⟩)⟩

theorem witness_BlocksRunToTheDrain_2 : ∃ (s : State) (e : Engine) (plot : Fin 17) (_ : Cycles) (q : PlotRec) (p : Product),
    (s.engGated = false) ∧ (rising s.eng.engs = true) ∧ ((s.engine e).plots.find? (fun q => decide (q.plot = plot.val)) = some q) ∧ (s.product q.uid = some p) ∧ (s.engState e ∈ (if plot.val = 16 then [7] else [2, 3])) ∧ ((s.engine e).drainFrozen s.eng.products = false) ∧ ((s.engine e).allFed q p = true) ∧ ((∀ l, l < 256 → s.laneLatch e l ≠ 1)) :=
  ⟨mulSt 2 { EngRec.empty with plots := [plot 0 [panelA, panelB]] }, 3, 0, noCyc, plot 0 [panelA, panelB], mulProd, by decide +kernel⟩

theorem witness_BlocksRunToTheDrain_3 : ∃ (s : State) (e : Engine) (plot : Fin 17) (check : BlockCheck) (_ : Cycles) (q : PlotRec) (p : Product),
    (s.engGated = false) ∧ ((s.engine e).plots.find? (fun q => decide (q.plot = plot.val)) = some q) ∧ (s.product q.uid = some p) ∧ (s.engState e ∈ (if plot.val = 16 then [7] else [2, 3])) ∧ ((s.engine e).drainFrozen s.eng.products = false) ∧ ((s.engine e).allFed q p = true) ∧ (s.checkSeen p q.rect check ≠ .pass) :=
  ⟨mulSt 2 { EngRec.empty with plots := [plot 0 [panelA, panelB]] }, 3, 0, .engine false 1 0 true, noCyc, plot 0 [panelA, panelB], mulProd, by decide +kernel⟩

theorem witness_BlocksRunToTheDrain_4 : ∃ (s : State) (e : Engine) (cyc : Cycles) (b : BankRec) (p : Product),
    (s.engGated = false) ∧ (rising s.eng.engs = true) ∧ ((s.engine e).inDrain = some b) ∧ (s.product b.uid = some p) ∧
    let d := (s.countCycles e cyc).drainBlock e p b.rect b.acc
    (d.code = 0) :=
  ⟨mulSt 2 { EngRec.empty with banks := [bank1], draining := some 0 }, 3, noCyc, bank1, mulProd, all4 (by decide +kernel) (by decide +kernel)⟩

theorem witness_BlocksRunToTheDrain_5 : ∃ (s : State) (e : Engine) (_ : Cycles) (b : BankRec) (p : Product),
    (s.engGated = false) ∧ ((s.engine e).inDrain = some b) ∧ (s.product b.uid = some p) :=
  ⟨mulSt 2 { EngRec.empty with banks := [bank1], draining := some 0 }, 3, noCyc, bank1, mulProd, by decide +kernel⟩

theorem witness_BlocksRunToTheDrain_6 : ∃ (s : State) (e : Engine) (_ : BitVec 32) (_ : Bool) (_ : Cycles),
    (s.engGated = false) ∧ ((s.engine e).plots ≠ []) ∧ (s.engState e ≠ 7) :=
  ⟨mulSt 2 { EngRec.empty with plots := [plot 0 [panelA]] }, 3, 9, true, noCyc, by decide +kernel⟩

theorem witness_BlocksRunToTheDrain_7 : ∃ (s : State) (e : Engine) (l : Fin 256) (_ : BitVec 32) (_ : Bool) (_ : Cycles),
    (s.engGated = false) ∧ (s.engState e ≠ 7) ∧ (s.laneBusy e l = true) ∧ (s.laneLatch e l < 2) :=
  ⟨mulSt 2 { EngRec.empty with plots := [plot 0 [panelA]] }, 3, 0, 9, true, noCyc, by decide +kernel⟩

theorem witness_BlocksRunToTheDrain_8 : ∃ (s : State) (e : Engine) (_ : BitVec 32) (_ : Bool) (_ : Cycles),
    (s.engGated = false) ∧ ((s.engine e).plots ≠ []) ∧ (s.engState e = 7) :=
  ⟨mulSt 7 { EngRec.empty with plots := [plot 16 [panelA]] }, 3, 9, true, noCyc, by decide +kernel⟩

theorem witness_BlocksRunToTheDrain_9 : ∃ (s : State) (e : Engine) (_ : BitVec 32) (_ : Bool) (_ : Cycles),
    (s.engGated = false) ∧ ((s.engine e).drainFrozen s.eng.products = true) ∧ (s.engState e ≠ 8) :=
  ⟨mulSt 3 { EngRec.empty with plots := [plot 0 [panelA]], banks := [bank1, bank1] }, 3, 9, true, noCyc, by decide +kernel⟩

theorem witness_BlocksRunToTheDrain_10 : ∃ (s : State) (e : Engine) (k : SlotKey) (chain : Bool) (n : Fin 32) (_ : BitVec 32) (_ : Cycles) (f : Flight) (p : Product) (d : Nat × Nat),
    (s.engGated = false) ∧ (s.flightAt k chain n = some f) ∧ (s.product f.uid = some p) ∧ ((s.engine e).descriptors.find? (fun d => decide (d.1 = p.uid)) = some d) :=
  ⟨mulSt 2 { EngRec.empty with plots := [plot 0 [panelA]] }, 3, 1, false, 0, 9, noCyc, flight (word tMatmul [(304, 1)]), mulProd, (0, 0), by decide +kernel⟩

theorem witness_BlocksRunToTheDrain_11 : ∃ (s : State) (e : Engine) (k : SlotKey) (chain : Bool) (n : Fin 32) (_ : BitVec 32) (_ : Cycles) (f : Flight),
    (s.engGated = false) ∧ (s.flightAt k chain n = some f) ∧ (s.product f.uid = none) ∧ (dType f.word ∈ [tQuantise, tConvert]) ∧ (e.val ∈ s.enginesFor (slotCamp k) f.word) ∧ ((s.slot k).aborting = false) :=
  ⟨(aloft (flight quantWord)).setFld Reg.BRK_STATUS_STATE 2 3, 3, 1, false, 0, 9, noCyc, flight quantWord, by decide +kernel⟩

theorem witness_BlocksRunToTheDrain_12 : ∃ (s : State) (p : Product) (r : Rect) (_ : Fin 256) (_ : Fin 256) (elem : Nat) (index : Nat) (_ : Nat) (_ : Bool) (_ : Bool),
    (s.residues p r elem index 0 ≠ none) :=
  ⟨mulSt 2 EngRec.empty, { mulProd with word := 1 <<< 304 }, { row := 0, rows := 1, col := 0, cols := 1 }, 0, 0, 0, 0, 0, true, true, by decide +kernel⟩

theorem witness_SignalsFromPeersComplete_1 : ∃ (s : State) (pkt : Packet) (tagOk : Bool) (s0 : State) (c : Nat) (t : Nat),
    (pkt.pitch < 9) ∧ (s.takes pkt kindSignal = true) ∧ (s.accept pkt tagOk = (true, s0)) ∧ (pkt.body.length = 4) ∧
    let s1 := s0.wake
    (pkt.addr % 8 = 0) ∧ (region pkt.addr ≠ .control) ∧ (pkt.job = (s.job pkt.pitch).num) ∧ (pkt.job ≠ 0) ∧ (s1.signalTally pkt.pitch pkt.addr = some (c, t)) :=
  ⟨fab1, sigPkt 0 4, true, (fab1.accept (sigPkt 0 4) true).2, 0, 5, by decide +kernel, by decide +kernel, Prod.ext (by decide +kernel) rfl, by decide +kernel, by decide +kernel⟩

theorem witness_SignalsFromPeersComplete_2 : ∃ (s : State) (x : Parked),
    (s.sync.pool.find? (fun x => !s.signalWaits x) = some x) ∧ (s.fld Reg.LNT_STATUS_STATE = 0) ∧ (rising s.sync.tallies = true) ∧ (s.tallyReachable x.camp = true) ∧ (noWaiter s x.camp x.tally) ∧ (0 < x.amount) ∧
    let y := s.tally x.camp x.tally
    (y.count + x.amount ≤ y.limit) :=
  ⟨pooled 0, parked1 0, all4 (by decide +kernel) ⟨noWait rfl, by decide +kernel, by decide +kernel⟩⟩

theorem witness_SignalsFromPeersComplete_3 : ∃ (s : State) (n : Nat) (x : Parked),
    (s.sync.pool[n]? = some x) ∧ (s.signalWaits x = true) :=
  ⟨pooled 1, 0, parked1 1, by decide +kernel⟩

theorem witness_GuylineRoundsComplete_1 : ∃ (s : State) (guy : Guyline) (_ : BitVec 16),
    (s.roundComplete guy = true) ∧ (s.fld Reg.GUY_CFG_FABRIC guy = 0) ∧ (rising s.sync.guys = true) ∧ (rising s.slots = true) :=
  ⟨round 0 [1, 9], 0, 5, by decide +kernel⟩

theorem witness_GuylineRoundsComplete_2 : ∃ (s : State) (guy : Guyline) (_ : BitVec 16),
    (s.roundComplete guy = true) ∧ (s.fld Reg.GUY_CFG_FABRIC guy ≠ 0) ∧ ((∀ x ∈ s.sync.arriving, x.1 ≠ guy.val)) :=
  ⟨round 1 [1, 9], 0, 5, by decide +kernel⟩

theorem witness_GuylineRoundsComplete_3 : ∃ (s : State) (pkt : Packet) (tagOk : Bool) (_ : BitVec 16) (s1 : State),
    (s.takesMessage pkt 1 = true) ∧ (s.accept pkt tagOk = (true, s1)) ∧
    let b := ofBytes pkt.body
    let g := bits b 68 64
    let dev := bits b 123 112
    let j := s.job pkt.pitch
    (bits b 127 124 = 1) ∧ (s.fld Reg.GUY_CFG_PITCH g = pkt.pitch) ∧ (j.num = bits b 63 48) ∧ (j.num ≠ 0) ∧ (dev ∈ j.parts) ∧ (j.parts.head? = some s.devId) ∧ (s.fld Reg.GUY_CFG_FABRIC g ≠ 0) ∧ (bits b 31 0 = (s.guy g).fbRound) :=
  ⟨round 1 [1, 9], pkt kindMessage 1 0 0 (fbBody 1 9), true, 7, ((round 1 [1, 9]).accept (pkt kindMessage 1 0 0 (fbBody 1 9)) true).2, by decide +kernel, Prod.ext (by decide +kernel) rfl, by decide +kernel⟩

theorem witness_GuylineRoundsComplete_4 : ∃ (s : State) (pkt : Packet) (tagOk : Bool) (_ : BitVec 16) (s1 : State),
    (pkt.pitch < 9) ∧ (s.takesMessage pkt 1 = true) ∧ (s.accept pkt tagOk = (true, s1)) ∧
    let b := ofBytes pkt.body
    let g := bits b 68 64
    let j := s.job pkt.pitch
    (bits b 127 124 = 2) ∧ (s.fld Reg.GUY_CFG_PITCH g = pkt.pitch) ∧ (j.num = bits b 63 48) ∧ (j.num ≠ 0) ∧ (bits b 123 112 ∈ j.parts) ∧ (s.fld Reg.GUY_CFG_FABRIC g ≠ 0) ∧ (bits b 31 0 = (s.guy g).fbRound) ∧ (s.sync.arriving.any (fun x => decide (x.1 = g)) = true) ∧ (rising s.sync.guys = true) :=
  ⟨arriving [9, 1], pkt kindMessage 1 0 0 (fbBody 2 9), true, 7, ((arriving [9, 1]).accept (pkt kindMessage 1 0 0 (fbBody 2 9)) true).2, by decide +kernel, by decide +kernel, Prod.ext (by decide +kernel) rfl, by decide +kernel⟩

theorem witness_GuylineRoundsComplete_5 : ∃ (s : State) (guy : Guyline) (thr : Bool),
    (s.sync.arriving.find? (fun x => decide (x.1 = guy.val)) = some (guy.val, thr)) ∧ ((s.job (s.fld Reg.GUY_CFG_PITCH guy)).parts.head? ≠ some s.devId) ∧ (registersWf s) ∧ (s.fld Reg.FB_RESENDS (s.fld Reg.GUY_CFG_PITCH guy) + 1 < ctrMax) :=
  ⟨arriving [9, 1], 0, false, by decide +kernel⟩

theorem witness_GuylineRoundsComplete_6 : ∃ (s : State) (peg : Bool) (n : SlotKey),
    (s.campsGated = false) ∧
    let a := if peg then Agent.peg (n.val % 64) else Agent.slot n.val
    (((∃ w ∈ s.sync.waits, w.agent = a) ∨ ∃ w ∈ s.sync.guyWaits, w.agent = a)) ∧ (a ∉ s.sync.longWaits) :=
  ⟨round 0 [1], false, 1, by decide +kernel, Or.inr (by decide +kernel), by decide +kernel⟩

theorem witness_CommitOfAStepCompletes_1 : ∃ (s : State) (k : SlotKey) (x : StreamSlot) (r : StartRec) (w : Nat),
    (Issuing s k tCommit x r w) :=
  ⟨cmtSt 0, 1, nxt (cmtSt 0), rec1, commitWord, issues rfl (by decide +kernel)⟩

theorem witness_CommitOfAStepCompletes_2 : ∃ (s : State) (pkt : Packet) (tagOk : Bool) (s1 : State),
    (pkt.pitch < 9) ∧ (s.takesMessage pkt 2 = true) ∧ (s.accept pkt tagOk = (true, s1)) ∧
    let b := ofBytes pkt.body
    let p := pkt.pitch
    ((s.job p).num ≠ 0) ∧ (bits b 63 48 = (s.job p).num) ∧ (pkt.src ∈ (s.job p).parts) ∧ (pkt.src ≠ s.devId) ∧ (s1.sameAttempt p b = true) ∧ (bits (ofBytes pkt.body) 83 80 = voteReady) ∧ (s.leads pkt.pitch = true) :=
  ⟨(vote 1 [1, 9] { CommitRec.none with vote := 1 }), (cmtPkt voteReady 0 5), true, ((vote 1 [1, 9] { CommitRec.none with vote := 1 }).accept (cmtPkt voteReady 0 5) true).2, by decide +kernel, by decide +kernel, Prod.ext (by decide +kernel) rfl, by decide +kernel⟩

theorem witness_CommitOfAStepCompletes_2_abort : ∃ (s : State) (pkt : Packet) (tagOk : Bool) (s1 : State),
    (pkt.pitch < 9) ∧ (s.takesMessage pkt 2 = true) ∧ (s.accept pkt tagOk = (true, s1)) ∧
    let b := ofBytes pkt.body
    let p := pkt.pitch
    ((s.job p).num ≠ 0) ∧ (bits b 63 48 = (s.job p).num) ∧ (pkt.src ∈ (s.job p).parts) ∧ (pkt.src ≠ s.devId) ∧ (s1.sameAttempt p b = true) ∧ (bits (ofBytes pkt.body) 83 80 = voteAbort) ∧ (s.leads pkt.pitch = true) :=
  ⟨(vote 1 [1, 9] CommitRec.none), (cmtPkt voteAbort 0 5), true, ((vote 1 [1, 9] CommitRec.none).accept (cmtPkt voteAbort 0 5) true).2, by decide +kernel, by decide +kernel, Prod.ext (by decide +kernel) rfl, by decide +kernel⟩

theorem witness_CommitOfAStepCompletes_2_commit : ∃ (s : State) (pkt : Packet) (tagOk : Bool) (s1 : State),
    (pkt.pitch < 9) ∧ (s.takesMessage pkt 2 = true) ∧ (s.accept pkt tagOk = (true, s1)) ∧
    let b := ofBytes pkt.body
    let p := pkt.pitch
    ((s.job p).num ≠ 0) ∧ (bits b 63 48 = (s.job p).num) ∧ (pkt.src ∈ (s.job p).parts) ∧ (pkt.src ≠ s.devId) ∧ (s1.sameAttempt p b = true) ∧ (bits (ofBytes pkt.body) 83 80 = decideCommit) :=
  ⟨(vote 3 [9, 1] { CommitRec.none with vote := 1 }), (cmtPkt decideCommit 0 5), true, ((vote 3 [9, 1] { CommitRec.none with vote := 1 }).accept (cmtPkt decideCommit 0 5) true).2, by decide +kernel, by decide +kernel, Prod.ext (by decide +kernel) rfl, by decide +kernel⟩

theorem witness_CommitOfAStepCompletes_2_quash : ∃ (s : State) (pkt : Packet) (tagOk : Bool) (s1 : State),
    (pkt.pitch < 9) ∧ (s.takesMessage pkt 2 = true) ∧ (s.accept pkt tagOk = (true, s1)) ∧
    let b := ofBytes pkt.body
    let p := pkt.pitch
    ((s.job p).num ≠ 0) ∧ (bits b 63 48 = (s.job p).num) ∧ (pkt.src ∈ (s.job p).parts) ∧ (pkt.src ≠ s.devId) ∧ (s1.sameAttempt p b = true) ∧ (bits (ofBytes pkt.body) 83 80 = decideAbort) :=
  ⟨(vote 2 [9, 1] { CommitRec.none with vote := 1 }), (cmtPkt decideAbort 0 5), true, ((vote 2 [9, 1] { CommitRec.none with vote := 1 }).accept (cmtPkt decideAbort 0 5) true).2, by decide +kernel, by decide +kernel, Prod.ext (by decide +kernel) rfl, by decide +kernel⟩

theorem witness_CommitOfAStepCompletes_2_ack : ∃ (s : State) (pkt : Packet) (tagOk : Bool) (s1 : State),
    (pkt.pitch < 9) ∧ (s.takesMessage pkt 2 = true) ∧ (s.accept pkt tagOk = (true, s1)) ∧
    let b := ofBytes pkt.body
    let p := pkt.pitch
    ((s.job p).num ≠ 0) ∧ (bits b 63 48 = (s.job p).num) ∧ (pkt.src ∈ (s.job p).parts) ∧ (pkt.src ≠ s.devId) ∧ (s1.sameAttempt p b = true) ∧ (bits (ofBytes pkt.body) 83 80 = decideAck) ∧ (s.leads pkt.pitch = true) :=
  ⟨(vote 4 [1, 9] { CommitRec.none with vote := 1, decided := 1 }), (cmtPkt decideAck 0 5), true, ((vote 4 [1, 9] { CommitRec.none with vote := 1, decided := 1 }).accept (cmtPkt decideAck 0 5) true).2, by decide +kernel, by decide +kernel, Prod.ext (by decide +kernel) rfl, by decide +kernel⟩

theorem witness_CommitOfAStepCompletes_2_late : ∃ (s : State) (pkt : Packet) (tagOk : Bool) (s1 : State),
    (pkt.pitch < 9) ∧ (s.takesMessage pkt 2 = true) ∧ (s.accept pkt tagOk = (true, s1)) ∧
    let b := ofBytes pkt.body
    let p := pkt.pitch
    ((s.job p).num ≠ 0) ∧ (bits b 63 48 = (s.job p).num) ∧ (pkt.src ∈ (s.job p).parts) ∧ (pkt.src ≠ s.devId) ∧ (s1.sameAttempt p b = true) ∧ (bits (ofBytes pkt.body) 83 80 = decideAck) ∧ (s.leads pkt.pitch = true) :=
  ⟨(vote 2 [1, 9] { CommitRec.none with vote := 1, decided := 1 }), (cmtPkt decideAck 0 5), true, ((vote 2 [1, 9] { CommitRec.none with vote := 1, decided := 1 }).accept (cmtPkt decideAck 0 5) true).2, by decide +kernel, by decide +kernel, Prod.ext (by decide +kernel) rfl, by decide +kernel⟩

theorem witness_CommitOfAStepCompletes_2_query : ∃ (s : State) (pkt : Packet) (tagOk : Bool) (s1 : State),
    (pkt.pitch < 9) ∧ (s.takesMessage pkt 2 = true) ∧ (s.accept pkt tagOk = (true, s1)) ∧
    let b := ofBytes pkt.body
    let p := pkt.pitch
    ((s.job p).num ≠ 0) ∧ (bits b 63 48 = (s.job p).num) ∧ (pkt.src ∈ (s.job p).parts) ∧ (pkt.src ≠ s.devId) ∧ (s1.sameAttempt p b = true) ∧ (bits (ofBytes pkt.body) 83 80 = queryKind) :=
  ⟨(vote 2 [9, 1] { CommitRec.none with vote := 1 }), (cmtPkt queryKind 0 5), true, ((vote 2 [9, 1] { CommitRec.none with vote := 1 }).accept (cmtPkt queryKind 0 5) true).2, by decide +kernel, by decide +kernel, Prod.ext (by decide +kernel) rfl, by decide +kernel⟩

theorem witness_CommitOfAStepCompletes_2_reply : ∃ (s : State) (pkt : Packet) (tagOk : Bool) (s1 : State),
    (pkt.pitch < 9) ∧ (s.takesMessage pkt 2 = true) ∧ (s.accept pkt tagOk = (true, s1)) ∧
    let b := ofBytes pkt.body
    let p := pkt.pitch
    ((s.job p).num ≠ 0) ∧ (bits b 63 48 = (s.job p).num) ∧ (pkt.src ∈ (s.job p).parts) ∧ (pkt.src ≠ s.devId) ∧ (s1.sameAttempt p b = true) ∧ (bits (ofBytes pkt.body) 83 80 = stateReply) ∧ (s.leads pkt.pitch = false) :=
  ⟨(vote 3 [9, 1] { CommitRec.none with vote := 1 }), (cmtPkt stateReply 4 5), true, ((vote 3 [9, 1] { CommitRec.none with vote := 1 }).accept (cmtPkt stateReply 4 5) true).2, by decide +kernel, by decide +kernel, Prod.ext (by decide +kernel) rfl, by decide +kernel⟩

theorem witness_CommitOfAStepCompletes_3 : ∃ (s : State) (p : Pitch),
    (s.leads p = true) ∧ ((s.cmtState p = 1 ∨ s.cmtState p = 2)) ∧ ((s.commitRec p).decided = 0) ∧ (((s.commitRec p).ready ≠ [] ∨ (s.commitRec p).vote ≠ 0)) ∧ (registersWf s) :=
  ⟨(vote 1 [1, 9] { CommitRec.none with vote := 1 }), 1, by decide +kernel⟩

theorem witness_CommitOfAStepCompletes_4 : ∃ (s : State) (p : Pitch),
    (s.leads p = true) :=
  ⟨(vote 4 [1, 9] { CommitRec.none with vote := 1, decided := 1 }), 1, by decide +kernel⟩

theorem witness_CommitOfAStepCompletes_5 : ∃ (s : State) (p : Pitch),
    (s.leads p = false) ∧ (rising s.commits = true) ∧ (registersWf s) ∧ ((s.commitRec p).rounds < max 1 (s.fld Reg.CMT_CFG_QUERY_ROUNDS p)) :=
  ⟨(vote 2 [9, 1] { CommitRec.none with vote := 1 }), 1, by decide +kernel⟩

theorem witness_CommitOfAStepCompletes_5_doubt : ∃ (s : State) (p : Pitch),
    (s.leads p = false) ∧ (rising s.commits = true) ∧ (registersWf s) ∧ (max 1 (s.fld Reg.CMT_CFG_QUERY_ROUNDS p) ≤ (s.commitRec p).rounds) :=
  ⟨(vote 2 [9, 1] { CommitRec.none with vote := 1, rounds := 250 }), 1, by decide +kernel⟩

theorem witness_RequestsFromPeersComplete_1 : ∃ (s : State) (pkt : Packet) (tagOk : Bool) (s1 : State) (bs : Bytes),
    (s.takes pkt kindRead = true) ∧ (s.accept pkt tagOk = (true, s1)) ∧ (s1.requestCheck pkt (within256 pkt.addr pkt.seqn) = 0) ∧ (s1.readAt pkt.pitch (s1.mapOf pkt.pitch) pkt.addr pkt.seqn = .ok bs) :=
  ⟨remSt, askRead, true, (remSt.accept askRead true).2, [0, 5, 0, 0, 0, 0, 0, 0], by decide +kernel, Prod.ext (by decide +kernel) rfl, by decide +kernel, gotIt (by decide +kernel)⟩

theorem witness_RequestsFromPeersComplete_2 : ∃ (s : State) (pkt : Packet) (tagOk : Bool) (s1 : State) (t : State),
    (s.takes pkt kindWrite = true) ∧ (s.accept pkt tagOk = (true, s1)) ∧ (s1.requestCheck pkt (within256 pkt.addr pkt.body.length) = 0) ∧ (s1.writeAt pkt.pitch (s1.mapOf pkt.pitch) none pkt.addr pkt.body = .ok t) ∧ (s.fab.colls = []) ∧ (pkt.seqn = (sget 0 s.sync.settled (pkt.pitch * 4096 + pkt.src) + 1) % 2 ^ 32) :=
  ⟨remSt, askWrite, true, (remSt.accept askWrite true).2, theOk remSt ((remSt.accept askWrite true).2.writeAt 1 ((remSt.accept askWrite true).2.mapOf 1) none 0x40 [1, 2, 3, 4, 5, 6, 7, 8]), by decide +kernel, Prod.ext (by decide +kernel) rfl, by decide +kernel, okIs (by decide +kernel), by decide +kernel⟩

theorem witness_RequestsFromPeersComplete_3 : ∃ (s : State) (pkt : Packet) (tagOk : Bool) (s1 : State) (t : State),
    (s.takes pkt kindAdd = true) ∧ (s.accept pkt tagOk = (true, s1)) ∧ (s1.requestCheck pkt (addFormOk pkt) = 0) ∧ (s1.addPacket pkt = .ok t) :=
  ⟨remSt, (askAdd kindAdd), true, (remSt.accept (askAdd kindAdd) true).2, adder (askAdd kindAdd), by decide +kernel, Prod.ext (by decide +kernel) rfl, by decide +kernel, okIs (by decide +kernel)⟩

theorem witness_RequestsFromPeersComplete_4 : ∃ (s : State) (pkt : Packet) (tagOk : Bool) (s1 : State) (t : State) (bs : Bytes),
    (s.takes pkt kindAddReduce = true) ∧ (s.accept pkt tagOk = (true, s1)) ∧ (s1.requestCheck pkt (addFormOk pkt) = 0) ∧
    let n := pkt.body.length / (AddType.ofCode pkt.etype).addend * (AddType.ofCode pkt.etype).size
    (s1.addPacket pkt = .ok t) ∧ (t.readAt pkt.pitch (t.mapOf pkt.pitch) pkt.addr n = .ok bs) :=
  ⟨remSt, (askAdd kindAddReduce), true, (remSt.accept (askAdd kindAddReduce) true).2, adder (askAdd kindAddReduce), [1, 5, 0, 0, 2, 0, 0, 0], by decide +kernel, Prod.ext (by decide +kernel) rfl, by decide +kernel, okIs (by decide +kernel), gotIt (by decide +kernel)⟩

theorem witness_RequestsFromPeersComplete_5 : ∃ (s : State) (pkt : Packet) (tagOk : Bool) (s1 : State) (old : Nat) (t : State),
    (s.takes pkt kindAmo = true) ∧ (s.accept pkt tagOk = (true, s1)) ∧ (s1.requestCheck pkt (pkt.subtype ≤ 8 && pkt.body.length == 8 && pkt.addr % 8 == 0) = 0) ∧ ((∀ n, (translate (s1.mapOf pkt.pitch) pkt.addr).map region ≠ some (.store n))) ∧ (s1.readNum pkt.pitch (s1.mapOf pkt.pitch) pkt.addr 8 = .ok old) ∧ (s1.writeAt pkt.pitch (s1.mapOf pkt.pitch) none pkt.addr (toBytes 8 (amoResult pkt.subtype old (ofBytes pkt.body))) = .ok t) :=
  ⟨remSt, askAmo, true, (remSt.accept askAmo true).2, 0x500, theOk remSt ((remSt.accept askAmo true).2.writeAt 1 ((remSt.accept askAmo true).2.mapOf 1) none 0x40 (toBytes 8 (amoResult 0 0x500 1))), by decide +kernel, Prod.ext (by decide +kernel) rfl, by decide +kernel, notStore (by decide +kernel), gotIt (by decide +kernel), okIs (by decide +kernel)⟩

theorem witness_RequestsOfThisDeviceEnd_1_late : ∃ (s : State) (pkt : Packet) (tagOk : Bool) (s1 : State),
    (pkt.pitch < 9) ∧ (pkt.kind = kindCompletion) ∧ (pkt.dst = s.devId) ∧ (s.devId ≠ 0xFFF) ∧ (s.accept pkt tagOk = (true, s1)) ∧ ((∃ x ∈ s.fab.late, x.1 = pkt.tag)) ∧ (s.fld Reg.TWY_LATE pkt.pitch + 1 < ctrMax) ∧ (registersWf s) :=
  ⟨lateSt, answer3 0, true, (lateSt.accept (answer3 0) true).2, all4 (by decide +kernel) ⟨Prod.ext (by decide +kernel) rfl, by decide +kernel⟩⟩

theorem witness_RequestsOfThisDeviceEnd_1_busy : ∃ (s : State) (pkt : Packet) (tagOk : Bool) (s1 : State),
    (pkt.pitch < 9) ∧ (pkt.kind = kindCompletion) ∧ (pkt.dst = s.devId) ∧ (s.devId ≠ 0xFFF) ∧ (s.accept pkt tagOk = (true, s1)) ∧ ((∀ x ∈ s.fab.late, x.1 ≠ pkt.tag)) ∧ (s.fab.reqs.find? (fun r => decide (r.stage = 1 ∧ r.pkt.tag = pkt.tag ∧ r.pkt.pitch = pkt.pitch)) = some (sentReq 1)) ∧ (pkt.status = Code.FABRIC_BUSY) :=
  ⟨sentSt 1, answer3 Code.FABRIC_BUSY, true, ((sentSt 1).accept (answer3 Code.FABRIC_BUSY) true).2, all4 (by decide +kernel) ⟨Prod.ext (by decide +kernel) rfl, by decide +kernel⟩⟩

theorem witness_RequestsOfThisDeviceEnd_1_done : ∃ (s : State) (pkt : Packet) (tagOk : Bool) (s1 : State),
    (pkt.pitch < 9) ∧ (pkt.kind = kindCompletion) ∧ (pkt.dst = s.devId) ∧ (s.devId ≠ 0xFFF) ∧ (s.accept pkt tagOk = (true, s1)) ∧ ((∀ x ∈ s.fab.late, x.1 ≠ pkt.tag)) ∧ (s.fab.reqs.find? (fun r => decide (r.stage = 1 ∧ r.pkt.tag = pkt.tag ∧ r.pkt.pitch = pkt.pitch)) = some (sentReq 1)) ∧ (pkt.status = 0 ∧ s.landWaits (sentReq 1) 0 pkt.body = false ∧ (sentReq 1).origin = .flight 0 0 ∧ pkt.body = []) ∧ (Numbered s) ∧ (s.flightOf 0 = some (1, { flight copyOut with left := 2 }) ∧ rising s.slots = true ∧ (s.slot 1).aborting = false) ∧ ((∀ q ∈ s.fab.reqs, q.stage ≠ 0)) :=
  ⟨sentSt 1, answer3 0, true, ((sentSt 1).accept (answer3 0) true).2, all4 (by decide +kernel) ⟨Prod.ext (by decide +kernel) rfl, all3 (by decide +kernel) ⟨numbered (by decide +kernel), by decide +kernel⟩⟩⟩

theorem witness_RequestsOfThisDeviceEnd_2 : ∃ (s : State) (tag : BitVec 16) (r : FabReq),
    (s.fab.reqs.find? (fun r => decide (r.stage ≠ 0 ∧ r.pkt.tag = tag.toNat)) = some r) :=
  ⟨sentSt 2, 3, sentReq 2, by decide +kernel⟩

theorem witness_RequestsOfThisDeviceEnd_3 : ∃ (s : State) (pkt : Packet) (_ : BitVec 128),
    (s.devId ≠ 0xFFF) ∧ (15 ≤ pkt.hops) :=
  ⟨routed, passing 15, 0, by decide +kernel⟩

theorem witness_RequestsOfThisDeviceEnd_3_on : ∃ (s : State) (pkt : Packet) (_ : BitVec 128),
    (s.devId ≠ 0xFFF) ∧ (pkt.hops < 15 ∧ s.pickPort { pkt with hops := pkt.hops + 1 } = some 2) :=
  ⟨routed, passing 14, 0, by decide +kernel⟩

theorem witness_RequestsOfThisDeviceEnd_3_lost : ∃ (s : State) (pkt : Packet) (_ : BitVec 128),
    (s.devId ≠ 0xFFF) ∧ (pkt.hops < 15 ∧ s.pickPort { pkt with hops := pkt.hops + 1 } = none) :=
  ⟨fab1, passing 14, 0, by decide +kernel⟩

theorem witness_RequestsOfThisDeviceEnd_4 : ∃ (s : State) (pitch : Pitch) (src : DevId),
    ((∃ e ∈ s.fab.pairs, e.1 = pitch.val * 4096 + src.val)) ∧ (sget [] s.sync.beyond (pitch.val * 4096 + src.val) = []) ∧ (rising s.fab.pairs = true) ∧ (rising s.fab.floors = true) :=
  ⟨paired, 1, 9, by decide +kernel⟩

theorem witness_RequestsOfThisDeviceEnd_5 : ∃ (s : State) (tag : BitVec 16) (r : FabReq),
    (s.fab.reqs.find? (fun r => decide (r.stage = 2 ∧ r.pkt.tag = tag.toNat)) = some r) ∧ (r.pkt.pitch < 9) ∧ (registersWf s) ∧ (s.fld Reg.TWY_BUSY r.pkt.pitch + 1 < ctrMax) :=
  ⟨sentSt 2, 3, sentReq 2, by decide +kernel⟩

theorem witness_LinksReplayAndRetrain_1 : ∃ (s : State) (port : TwPort) (crcOk : Bool) (seq : Fin 4096) (_ : Fin 4096) (_ : Fin 4) (_ : Fin 2) (_ : BitVec 32) (_ : Nat),
    (s.portUp port = true) ∧ (rising s.fab.ports = true) ∧ (crcOk = true ∧ seq.val = (s.port port).expected) :=
  ⟨linkSt 2 link1, 2, true, 4095, 4095, 0, 0, 0, 0, by decide +kernel⟩

theorem witness_LinksReplayAndRetrain_1_bad : ∃ (s : State) (port : TwPort) (crcOk : Bool) (seq : Fin 4096) (_ : Fin 4096) (_ : Fin 4) (_ : Fin 2) (_ : BitVec 32) (_ : Nat),
    (s.portUp port = true) ∧ (rising s.fab.ports = true) ∧ ((crcOk = false ∨ seq.val ≠ (s.port port).expected)) ∧ ((s.port port).nakSent = false) :=
  ⟨linkSt 2 link1, 2, true, 0, 4094, 0, 0, 0, 0, by decide +kernel⟩

theorem witness_LinksReplayAndRetrain_1_badagain : ∃ (s : State) (port : TwPort) (crcOk : Bool) (seq : Fin 4096) (_ : Fin 4096) (_ : Fin 4) (_ : Fin 2) (_ : BitVec 32) (_ : Nat),
    (s.portUp port = true) ∧ (rising s.fab.ports = true) ∧ ((crcOk = false ∨ seq.val ≠ (s.port port).expected)) ∧ ((s.port port).nakSent = true) :=
  ⟨linkSt 2 { link1 with nakSent := true }, 2, false, 4095, 4095, 3, 1, 0, 1, by decide +kernel⟩

theorem witness_LinksReplayAndRetrain_2 : ∃ (s : State) (port : TwPort) (_ : Fin 4096) (_ : BitVec 32),
    (s.portUp port = true) ∧ (rising s.fab.ports = true) ∧ ((s.port port).queue = []) :=
  ⟨linkSt 2 link1, 2, 4095, 0x11111111, by decide +kernel⟩

theorem witness_LinksReplayAndRetrain_3 : ∃ (s : State) (port : TwPort),
    (s.portUp port = true) ∧ (rising s.fab.ports = true) ∧ (registersWf s) ∧ ((s.port port).buffer ≠ [] ∧ (s.port port).replays < 8 ∧ s.fld Reg.TWY_REPLAY port + 1 < ctrMax) :=
  ⟨linkSt 2 link1, 2, by decide +kernel⟩

theorem witness_LinksReplayAndRetrain_3_ninth : ∃ (s : State) (port : TwPort),
    (s.portUp port = true) ∧ (rising s.fab.ports = true) ∧ (registersWf s) ∧ ((s.port port).buffer ≠ [] ∧ 8 ≤ (s.port port).replays ∧ s.fld Reg.TWY_RETRAIN port + 1 < ctrMax) :=
  ⟨linkSt 2 { link1 with replays := 8 }, 2, by decide +kernel⟩

theorem witness_LinksReplayAndRetrain_4 : ∃ (s : State) (port : TwPort) (good : BitVec 8),
    (s.fld Reg.TWY_PORT_STATUS_STATE port = 1) ∧ (rising s.fab.ports = true) ∧ (registersWf s) ∧ ((widest good.toNat).1 ≠ 0) :=
  ⟨linkSt 1 link1, 2, 0xF7, by decide +kernel⟩

theorem witness_LinksReplayAndRetrain_4_none : ∃ (s : State) (port : TwPort) (good : BitVec 8),
    (s.fld Reg.TWY_PORT_STATUS_STATE port = 1) ∧ (rising s.fab.ports = true) ∧ (registersWf s) ∧ ((widest good.toNat).1 = 0 ∧ (s.port port).buffer = [] ∧ (s.port port).queue = []) :=
  ⟨linkSt 1 { link1 with buffer := [] }, 2, 0x55, by decide +kernel⟩

theorem witness_LinksReplayAndRetrain_5 : ∃ (s : State) (port : TwPort),
    (s.fld Reg.TWY_PORT_STATUS_STATE port = 0) ∧ (s.fld Reg.TWY_PORT_CFG_ENABLE port = 1) ∧ (s.fld Reg.TWY_FAB_CFG_RETRY_S ≠ 0) ∧ (rising s.fab.ports = true) ∧ (registersWf s) :=
  ⟨(((linkSt 0 link1).setFld Reg.TWY_PORT_CFG_ENABLE 1 2).setFld Reg.TWY_FAB_CFG_RETRY_S 5), 2, by decide +kernel⟩

theorem witness_CollectiveMessagesComplete_1 : ∃ (s : State) (pkt : Packet) (tagOk : Bool) (s1 : State),
    (s.accept pkt tagOk = (true, s1)) ∧ (pkt.job = (s.job pkt.pitch).num) ∧ (pkt.src ∈ (s.job pkt.pitch).parts) ∧ (pkt.kind = kindMessage ∧ pkt.subtype = 3) ∧ (s.coll pkt.pitch (bits (ofBytes pkt.body) 31 0) = none ∧ s.cidIssued pkt.pitch (bits (ofBytes pkt.body) 31 0) = false ∧ s.collStoreFull pkt.pitch = false) :=
  ⟨collSt [], collMsg 3 2, true, ((collSt []).accept (collMsg 3 2) true).2, Prod.ext (by decide +kernel) rfl, by decide +kernel⟩

theorem witness_CollectiveMessagesComplete_1_ended : ∃ (s : State) (pkt : Packet) (tagOk : Bool) (s1 : State),
    (s.accept pkt tagOk = (true, s1)) ∧ (pkt.job = (s.job pkt.pitch).num) ∧ (pkt.src ∈ (s.job pkt.pitch).parts) ∧ (pkt.kind = kindMessage ∧ pkt.subtype = 5) ∧ (s.coll pkt.pitch (bits (ofBytes pkt.body) 31 0) = none ∧ s.cidIssued pkt.pitch (bits (ofBytes pkt.body) 31 0) = true) :=
  ⟨endedSt, collMsg 5 2, true, (endedSt.accept (collMsg 5 2) true).2, Prod.ext (by decide +kernel) rfl, by decide +kernel⟩

theorem witness_CollectiveMessagesComplete_1_agrees : ∃ (s : State) (pkt : Packet) (tagOk : Bool) (s1 : State),
    (s.accept pkt tagOk = (true, s1)) ∧ (pkt.job = (s.job pkt.pitch).num) ∧ (pkt.src ∈ (s.job pkt.pitch).parts) ∧ (pkt.kind = kindMessage ∧ s.coll pkt.pitch (bits (ofBytes pkt.body) 31 0) = some gather1) ∧ (pkt.subtype = 3 ∧ gather1.agrees (ofBytes pkt.body) = true) :=
  ⟨collSt [gather1], collMsg 3 2, true, ((collSt [gather1]).accept (collMsg 3 2) true).2, Prod.ext (by decide +kernel) rfl, by decide +kernel⟩

theorem witness_CollectiveMessagesComplete_1_differs : ∃ (s : State) (pkt : Packet) (tagOk : Bool) (s1 : State),
    (s.accept pkt tagOk = (true, s1)) ∧ (pkt.job = (s.job pkt.pitch).num) ∧ (pkt.src ∈ (s.job pkt.pitch).parts) ∧ (pkt.kind = kindMessage ∧ s.coll pkt.pitch (bits (ofBytes pkt.body) 31 0) = some gather1) ∧ (pkt.subtype = 3 ∧ gather1.agrees (ofBytes pkt.body) = false) :=
  ⟨collSt [gather1], collMsg 3 3, true, ((collSt [gather1]).accept (collMsg 3 3) true).2, Prod.ext (by decide +kernel) rfl, by decide +kernel⟩

theorem witness_CollectiveMessagesComplete_1_abort : ∃ (s : State) (pkt : Packet) (tagOk : Bool) (s1 : State),
    (s.accept pkt tagOk = (true, s1)) ∧ (pkt.job = (s.job pkt.pitch).num) ∧ (pkt.src ∈ (s.job pkt.pitch).parts) ∧ (pkt.kind = kindMessage ∧ s.coll pkt.pitch (bits (ofBytes pkt.body) 31 0) = some gather1) ∧ (pkt.subtype = 5) :=
  ⟨collSt [gather1], collMsg 5 2, true, ((collSt [gather1]).accept (collMsg 5 2) true).2, Prod.ext (by decide +kernel) rfl, by decide +kernel⟩

theorem witness_CollectiveMessagesComplete_1_done : ∃ (s : State) (pkt : Packet) (tagOk : Bool) (s1 : State),
    (s.accept pkt tagOk = (true, s1)) ∧ (pkt.job = (s.job pkt.pitch).num) ∧ (pkt.src ∈ (s.job pkt.pitch).parts) ∧ (pkt.kind = kindMessage ∧ s.coll pkt.pitch (bits (ofBytes pkt.body) 31 0) = some gather1) ∧ (pkt.subtype = 4 ∧ pkt.src ∈ gather1.q) :=
  ⟨collSt [gather1], collMsg 4 2, true, ((collSt [gather1]).accept (collMsg 4 2) true).2, Prod.ext (by decide +kernel) rfl, by decide +kernel⟩

theorem witness_CollectiveMessagesComplete_1_pull : ∃ (s : State) (pkt : Packet) (tagOk : Bool) (s1 : State),
    (s.accept pkt tagOk = (true, s1)) ∧ (pkt.job = (s.job pkt.pitch).num) ∧ (pkt.src ∈ (s.job pkt.pitch).parts) ∧ (pkt.kind = kindPull ∧ (s.coll pkt.pitch pkt.seqn).isSome = true) ∧ (isOk (s.contribution { gather1 with ctype := 0, shards := 2 } ({ gather1 with ctype := 0, shards := 2 }.srcAddrs (bits pkt.addr 47 36) (bits pkt.addr 35 0 / 256))) = true) :=
  ⟨collSt [{ gather1 with ctype := 0, shards := 2 }], askPull, true, ((collSt [{ gather1 with ctype := 0, shards := 2 }]).accept askPull true).2, Prod.ext (by decide +kernel) rfl, by decide +kernel⟩

theorem witness_CollectiveMessagesComplete_1_none : ∃ (s : State) (pkt : Packet) (tagOk : Bool) (s1 : State),
    (s.accept pkt tagOk = (true, s1)) ∧ (pkt.job = (s.job pkt.pitch).num) ∧ (pkt.src ∈ (s.job pkt.pitch).parts) ∧ (pkt.kind = kindPull ∧ s.coll pkt.pitch pkt.seqn = none) :=
  ⟨collSt [], askPull, true, ((collSt []).accept askPull true).2, Prod.ext (by decide +kernel) rfl, by decide +kernel⟩

theorem witness_LineAccessesComplete_1 : ∃ (s : State) (pitch : Pitch) (line : Nat) (op : LineOp) (err : ReadErr) (_ : Requester),
    (memoryWf s) ∧ (line < 2 ^ 33) ∧
    let a := s.redirected (line * 64)
    let n := (s.place a).1
    let marked := s.marks n
    (region a = .hbm) ∧ (a / 2 ^ 21 ∉ (s.pitchRec pitch).joiningPages) ∧ (s.lineGate pitch (s.redirected (line * 64)) (!opReads op) = 0 ∧ op = .read ∧ err.positions = [] ∧ err.escaped = none) :=
  ⟨lineSt, 1, 1, .read, clean, .other, by decide +kernel, by decide +kernel, by decide +kernel⟩

theorem witness_LineAccessesComplete_1_write : ∃ (s : State) (pitch : Pitch) (line : Nat) (op : LineOp) (err : ReadErr) (_ : Requester),
    (memoryWf s) ∧ (line < 2 ^ 33) ∧
    let a := s.redirected (line * 64)
    let n := (s.place a).1
    let marked := s.marks n
    (region a = .hbm) ∧ (a / 2 ^ 21 ∉ (s.pitchRec pitch).joiningPages) ∧ (s.lineGate pitch (s.redirected (line * 64)) (!opReads op) = 0 ∧ op = .write 3 0x0102 ∧ err.positions = [] ∧ err.escaped = none) :=
  ⟨lineSt, 1, 1, (.write 3 0x0102), clean, .other, by decide +kernel, by decide +kernel, by decide +kernel⟩

theorem witness_LineAccessesComplete_1_held : ∃ (s : State) (pitch : Pitch) (line : Nat) (op : LineOp) (err : ReadErr) (_ : Requester),
    (memoryWf s) ∧ (line < 2 ^ 33) ∧
    let a := s.redirected (line * 64)
    let n := (s.place a).1
    let marked := s.marks n
    (region a = .hbm) ∧ (a / 2 ^ 21 ∉ (s.pitchRec pitch).joiningPages) ∧ (s.lineGate pitch (s.redirected (line * 64)) (!opReads op) = 1) :=
  ⟨lineSt.setFld Reg.HBM_PC_STATUS_STATE 1 pc1, 1, 1, .read, clean, .other, by decide +kernel, by decide +kernel, by decide +kernel⟩

theorem witness_LineAccessesComplete_1_refused : ∃ (s : State) (pitch : Pitch) (line : Nat) (op : LineOp) (err : ReadErr) (_ : Requester),
    (memoryWf s) ∧ (line < 2 ^ 33) ∧
    let a := s.redirected (line * 64)
    let n := (s.place a).1
    let marked := s.marks n
    (region a = .hbm) ∧ (a / 2 ^ 21 ∉ (s.pitchRec pitch).joiningPages) ∧ (2 ≤ s.lineGate pitch (s.redirected (line * 64)) (!opReads op)) :=
  ⟨lineSt, 2, 1, .read, clean, .other, by decide +kernel, by decide +kernel, by decide +kernel⟩

theorem witness_LineAccessesComplete_1_poisoned : ∃ (s : State) (pitch : Pitch) (line : Nat) (op : LineOp) (err : ReadErr) (_ : Requester),
    (memoryWf s) ∧ (line < 2 ^ 33) ∧
    let a := s.redirected (line * 64)
    let n := (s.place a).1
    let marked := s.marks n
    (region a = .hbm) ∧ (a / 2 ^ 21 ∉ (s.pitchRec pitch).joiningPages) ∧ (s.lineGate pitch (s.redirected (line * 64)) (!opReads op) = 0 ∧ opReads op = true ∧ err.escaped = none) ∧ (tideguardReach (s.marks (s.place 64).1).length < err.positions.eraseDups.length ∧ s.place 64 ∈ s.ras.flash ∧ s.poisonUsed (s.place 64).1 < 256) ∧ (s.fld Reg.HBM_UE (s.place 64).1 + 1 < ctrMax) ∧ (registersWf s) :=
  ⟨(ras1 fun r => { r with flash := [lineSt.place 64] }), 1, 1, .read, { clean with positions := [1, 2, 3] }, .other, by decide +kernel, by decide +kernel, by decide +kernel⟩

theorem witness_LineAccessesComplete_2 : ∃ (_ : State) (_ : Pitch) (line : Nat) (_ : LineOp) (_ : ReadErr) (_ : Requester),
    (2 ^ 33 ≤ line) :=
  ⟨lineSt, 1, (2 ^ 33), .read, clean, .other, by decide +kernel⟩

theorem witness_LineAccessesComplete_3 : ∃ (s : State) (pitch : Pitch) (line : Nat) (op : LineOp) (err : ReadErr) (_ : Requester),
    (memoryWf s) ∧ (region (line * 64) = .shelf ∧ s.lineGate pitch (line * 64) (!opReads op) = 0 ∧ (shelfWords err).1 < 2) :=
  ⟨lineSt, 1, shelfLine, .read, clean, .other, by decide +kernel⟩

theorem witness_LineAccessesComplete_3_other : ∃ (s : State) (_ : Pitch) (line : Nat) (_ : LineOp) (_ : ReadErr) (_ : Requester),
    (memoryWf s) ∧ (region (line * 64) ≠ .shelf) :=
  ⟨lineSt, 1, 5, wide, clean, .other, by decide +kernel⟩

theorem witness_LineAccessesComplete_3_refused : ∃ (s : State) (pitch : Pitch) (line : Nat) (op : LineOp) (_ : ReadErr) (_ : Requester),
    (memoryWf s) ∧ (region (line * 64) = .shelf ∧ s.lineGate pitch (line * 64) (!opReads op) ≠ 0) :=
  ⟨lineSt, 2, shelfLine, .read, clean, .other, by decide +kernel⟩

theorem witness_LineAccessesComplete_3_write : ∃ (s : State) (pitch : Pitch) (line : Nat) (op : LineOp) (_ : ReadErr) (_ : Requester),
    (memoryWf s) ∧ (region (line * 64) = .shelf ∧ s.lineGate pitch (line * 64) (!opReads op) = 0 ∧ op = wide) :=
  ⟨lineSt, 1, shelfLine, wide, { clean with positions := [1, 2] }, .other, by decide +kernel⟩

theorem witness_LineAccessesComplete_3_poisoned : ∃ (s : State) (pitch : Pitch) (line : Nat) (op : LineOp) (err : ReadErr) (_ : Requester),
    (memoryWf s) ∧ (region (line * 64) = .shelf ∧ s.lineGate pitch (line * 64) (!opReads op) = 0 ∧ opReads op = true ∧ 2 ≤ (shelfWords err).1) ∧ (sget 0 s.ras.bankUe ((s.shelfBank (line * 64)).1 * 1024 + (s.shelfBank (line * 64)).2) + 1 < max 1 (s.fld Reg.SHF_CFG_BANK_UE_FENCE (s.shelfBank (line * 64)).1)) :=
  ⟨lineSt.setFld Reg.SHF_CFG_BANK_UE_FENCE 3 0, 1, shelfLine, .read, { clean with positions := [1, 2] }, .other, by decide +kernel⟩

theorem witness_MemoryAddsComplete_1 : ∃ (s : State) (pitch : Pitch) (line : Nat) (_ : Fin 5) (_ : BitVec 32) (_ : BitVec 512) (_ : Bool) (_ : ReadErr) (_ : Requester),
    (memoryWf s) ∧ (region (line * 64) = .hbm ∧ s.lineGate pitch (s.redirected (line * 64)) false = 0) :=
  ⟨lineSt, 1, 1, 3, 5, 0x00000001000000020000000300000004, true, clean, .other, by decide +kernel⟩

theorem witness_MemoryAddsComplete_1_store : ∃ (s : State) (_ : Pitch) (line : Nat) (_ : Fin 5) (_ : BitVec 32) (_ : BitVec 512) (_ : Bool) (_ : ReadErr) (_ : Requester),
    (memoryWf s) ∧ ((∃ c, region (line * 64) = .store c)) :=
  ⟨lineSt, 1, (storeBase / 64), 0, 1, 1, false, clean, .other, by decide +kernel, ⟨0, by decide +kernel⟩⟩

theorem witness_MemoryAddsComplete_1_cove : ∃ (s : State) (_ : Pitch) (line : Nat) (_ : Fin 5) (_ : BitVec 32) (_ : BitVec 512) (_ : Bool) (_ : ReadErr) (_ : Requester),
    (memoryWf s) ∧ ((∃ c, region (line * 64) = .cove c)) :=
  ⟨lineSt, 1, (coveBase / 64), 0, 1, 1, false, clean, .other, by decide +kernel, ⟨0, by decide +kernel⟩⟩

theorem witness_MemoryAddsComplete_1_refused : ∃ (s : State) (pitch : Pitch) (line : Nat) (_ : Fin 5) (_ : BitVec 32) (_ : BitVec 512) (_ : Bool) (_ : ReadErr) (_ : Requester),
    (memoryWf s) ∧ (region (line * 64) = .hbm ∧ 2 ≤ s.lineGate pitch (s.redirected (line * 64)) false) :=
  ⟨lineSt, 2, 1, 0, 1, 1, false, clean, .other, by decide +kernel⟩

theorem witness_MemoryAddsComplete_1_waits : ∃ (s : State) (pitch : Pitch) (line : Nat) (_ : Fin 5) (_ : BitVec 32) (_ : BitVec 512) (_ : Bool) (_ : ReadErr) (_ : Requester),
    (memoryWf s) ∧ (region (line * 64) = .hbm ∧ s.lineGate pitch (s.redirected (line * 64)) false = 1) :=
  ⟨lineSt.setFld Reg.HBM_PC_STATUS_STATE 1 pc1, 1, 1, 0, 1, 1, false, clean, .other, by decide +kernel⟩

theorem witness_MemoryUpkeepCompletes_2 : ∃ (s : State) (n : PseudoCh) (err : ReadErr),
    (s.pcLive n = true) ∧ (s.hbmAsleep = false) ∧ (s.fld Reg.HBM_MAP_STATE ≠ 1) ∧ (err.positions = []) ∧ (rising s.ras.pcs = true) :=
  ⟨lineSt, 3, clean, by decide +kernel⟩

theorem witness_MemoryUpkeepCompletes_2_last : ∃ (s : State) (n : PseudoCh) (err : ReadErr),
    (s.pcLive n = true) ∧ (s.hbmAsleep = false) ∧ (s.fld Reg.HBM_MAP_STATE ≠ 1) ∧ (err.positions = []) ∧ (rising s.ras.pcs = true) ∧ (2 ^ 24 ≤ (s.pc n).scrub + 1) :=
  ⟨(ras1 fun r => { r with pcs := [(3, { fails := 0, ceLog := [(1, 1)], pins := [(2, 2)], scrub := 2 ^ 24 - 1 })] }), 3, clean, by decide +kernel⟩

theorem witness_MemoryUpkeepCompletes_3 : ∃ (s : State) (die : Die) (err : ReadErr),
    (s.fld Reg.SHF_MAP_STATE die ≠ 1) ∧ (s.fld Reg.LNT_STATUS_STATE ≠ 3) ∧ (err.positions = []) ∧ (rising s.ras.shelfScrub = true) ∧ (sget 0 s.ras.shelfScrub die + 1 < s.fld Reg.SHF_MAP_SLABS die * 2 ^ 20) :=
  ⟨lineSt, 1, clean, by decide +kernel⟩

theorem witness_MemoryUpkeepCompletes_3_last : ∃ (s : State) (die : Die) (err : ReadErr),
    (s.fld Reg.SHF_MAP_STATE die ≠ 1) ∧ (s.fld Reg.LNT_STATUS_STATE ≠ 3) ∧ (err.positions = []) ∧ (rising s.ras.shelfScrub = true) ∧ (s.fld Reg.SHF_MAP_SLABS die * 2 ^ 20 ≤ sget 0 s.ras.shelfScrub die + 1) :=
  ⟨(ras1 fun r => { r with shelfScrub := [(1, 2 ^ 25 - 1)], bankUe := [(1024, 2)] }), 1, clean, by decide +kernel⟩

theorem witness_MemoryUpkeepCompletes_4 : ∃ (s : State) (pitch : Pitch) (line : Nat) (who : Requester),
    (line < 2 ^ 33) ∧ (registersWf s) ∧ (s.hbmAsleep = false) ∧ (s.fld Reg.HBM_MAP_STATE ≠ 1) ∧
    let n := (s.place (s.redirected (line * 64))).1
    (s.pcLive n = true) :=
  ⟨lineSt, 1, 1, .other, all4 (by decide +kernel) (by decide +kernel)⟩

theorem witness_MemoryUpkeepCompletes_5 : ∃ (s : State) (n : PseudoCh),
    (s.fld Reg.HBM_PC_STATUS_STATE n = 1) ∧ (registersWf s) ∧ (rising s.ras.pcs = true) ∧ (s.ras.held = [] ∧ (s.pc n).fails < 2 ∧ s.fld Reg.HBM_RETRAIN n + 1 < ctrMax) :=
  ⟨lineSt.setFld Reg.HBM_PC_STATUS_STATE 1 3, 3, by decide +kernel⟩

theorem witness_MemoryUpkeepCompletes_5_dead : ∃ (s : State) (n : PseudoCh),
    (s.fld Reg.HBM_PC_STATUS_STATE n = 1) ∧ (registersWf s) ∧ (rising s.ras.pcs = true) ∧ (2 ≤ (s.pc n).fails ∧ s.pcLive n = true ∧ s.boot.hand = 0) :=
  ⟨(ras1 fun r => { r with pcs := [(3, { PcRec.empty with fails := 2 })] }).setFld Reg.HBM_PC_STATUS_STATE 1 3, 3, by decide +kernel⟩

theorem witness_MemoryUpkeepCompletes_5_later : ∃ (s : State) (n : PseudoCh),
    (s.fld Reg.HBM_PC_STATUS_STATE n = 1) ∧ (registersWf s) ∧ (rising s.ras.pcs = true) ∧ (2 ≤ (s.pc n).fails ∧ s.boot.hand ≠ 0) :=
  ⟨({ (ras1 fun r => { r with pcs := [(3, { PcRec.empty with fails := 2 })] }) with boot := { lineSt.boot with hand := 1 } }.setFld Reg.HBM_PC_STATUS_STATE 1 3), 3, by decide +kernel⟩

theorem witness_ReformsMovesAndZeroingComplete_1 : ∃ (s : State),
    (s.fld Reg.HBM_MAP_STATE = 1) ∧ (registersWf s) :=
  ⟨(ras1 fun r => { r with poison := [1, shelfLine] }).setFld Reg.HBM_MAP_STATE 1, by decide +kernel⟩

theorem witness_ReformsMovesAndZeroingComplete_2 : ∃ (s : State) (die : Die),
    (s.fld Reg.SHF_MAP_STATE die = 1) ∧ (registersWf s) :=
  ⟨(ras1 fun r => { r with poison := [1, shelfLine] }).setFld Reg.SHF_MAP_STATE 1 0, 0, by decide +kernel⟩

theorem witness_ReformsMovesAndZeroingComplete_3 : ∃ (s : State) (old : Nat) (new : Nat),
    (s.ras.moving = some (old, new)) ∧ (s.ras.held = []) ∧ (s.pageOwner old < 9) ∧ (old ≠ new) ∧ (memoryWf s) ∧ (registersWf s) ∧ (rising s.ras.owners = true) ∧ (rising s.sec.pitches = true) ∧ (s.fld Reg.HBM_RETIRED + 1 < s.retireMax) :=
  ⟨movingSt, 0, 5, by decide +kernel⟩

theorem witness_ReformsMovesAndZeroingComplete_4 : ∃ (s : State) (page : Nat) (new : Nat),
    (page ∈ s.ras.retry) ∧ (s.ras.moving = none) ∧ (s.pageOwner page < 9) ∧ (page ∉ s.ras.marked) ∧ (s.freePage = some new) ∧ (s.fld Reg.HBM_RETIRED < s.retireMax) ∧ (rising s.ras.owners = true) :=
  ⟨(ras1 fun r => { r with retry := [0] }), 0, 2, by decide +kernel⟩

theorem witness_ReformsMovesAndZeroingComplete_5 : ∃ (s : State) (p : Pitch) (n : Nat) (rest : List Nat),
    ((s.pitchRec p).joiningPages = n :: rest) ∧ ((s.pitchRec p).hbmKey.isSome = true) ∧ (s.hbmAsleep = false) ∧ (rising s.sec.pitches = true) :=
  ⟨joining, 1, 7, [8], by decide +kernel⟩

theorem witness_ReformsMovesAndZeroingComplete_6 : ∃ (s : State) (p : Pitch) (die : Die) (n : Nat),
    ((s.pitchRec p).joiningSlabs.find? (fun m => decide (m / 32 = die.val)) = some n) ∧ ((s.pitchRec p).hbmKey.isSome = true) ∧ (s.fld Reg.LNT_STATUS_STATE ≠ 3) ∧ (rising s.sec.pitches = true) :=
  ⟨joining, 1, 1, 33, by decide +kernel⟩

theorem witness_ReformsMovesAndZeroingComplete_7 : ∃ (s : State) (n : PseudoCh) (_ : List Nat) (_ : List (BitVec 576)),
    (s.fld Reg.HBM_TG_CFG_GO n = 1) ∧ (s.fld Reg.HBM_MAP_STATE = 2) ∧ (registersWf s) :=
  ⟨((lineSt.setFld Reg.HBM_TG_CFG_GO 1 3).setFld Reg.HBM_MAP_STATE 2).setFld Reg.HBM_TG_RANGE_COUNT 3 3, 3, [2], [5], by decide +kernel⟩

theorem witness_CoolantStopsComplete_1 : ∃ (s : State),
    (s.running = true) ∧ (s.fld Reg.LNT_STATUS_FLOW_OK = 1) ∧ (s.boot.unpowered = false) ∧ (registersWf s) :=
  ⟨up.setFld Reg.LNT_STATUS_FLOW_OK 1, by decide +kernel⟩

theorem witness_CoolantStopsComplete_2 : ∃ (s : State),
    (s.fld Reg.LNT_STATUS_FLOW_OK = 0) ∧ (registersWf s) ∧ (s.power.flowLow = false) :=
  ⟨up, by decide +kernel⟩

theorem witness_CoolantStopsComplete_2_glitch : ∃ (s : State),
    (s.fld Reg.LNT_STATUS_FLOW_OK = 0) ∧ (registersWf s) ∧ (s.power.flowLow = true ∧ s.fld Reg.LNT_FLOW_GLITCH + 1 < ctrMax) :=
  ⟨(pwr fun p => { p with flowLow := true }), by decide +kernel⟩

theorem witness_CoolantStopsComplete_3 : ∃ (s : State),
    (s.fld Reg.LNT_STATUS_FLOW_OK = 1) :=
  ⟨up.setFld Reg.LNT_STATUS_FLOW_OK 1, by decide +kernel⟩

theorem witness_CoolantStopsComplete_4 : ∃ (s : State),
    (s.power.flowLow = true) ∧ (s.running = true) ∧ (s.powerState ≤ 2) ∧ (registersWf s) :=
  ⟨inState 2 (pwr fun p => { p with flowLow := true }), by decide +kernel⟩

theorem witness_CoolantStopsComplete_5 : ∃ (s : State),
    (s.power.stop = 1) :=
  ⟨inState 4 (pwr fun p => { p with stop := 1 }), by decide +kernel⟩

theorem witness_CoolantStopsComplete_6 : ∃ (s : State),
    (s.power.stop = 2) ∧ ((s.fld Reg.LNT_STATUS_FLOW_OK = 1 ∨ s.power.package = true)) ∧ (s.coolDiodes ((List.range 1536).filter isDiode) = true) ∧ (s.ras.held = []) ∧ (registersWf s) ∧ (s.power.before < 8) :=
  ⟨((inState 4 (pwr fun p => { p with stop := 2, before := 1 })).setFld Reg.LNT_STATUS_FLOW_OK 1).setFld Reg.BRK_STATUS_STATE 3 7, by decide +kernel⟩

theorem witness_ThermalTripsComplete_1 : ∃ (s : State) (e : Engine) (_ : Fin 4) (value : BitVec 32) (_ : Nat) (_ : List (SlotKey × Bool × Fin 32)),
    (s.running = true) ∧ ((∀ t ∈ s.power.tripped, t.1 ≠ e.val)) ∧ (((256 * s.fld Reg.LNT_THERM_TRIP : Nat) : Int) < value.toInt) ∧ (noHeld s) ∧ (registersWf s) ∧ (rising s.power.trips = true) ∧ (s.fld Reg.LNT_TRIPS + 1 < ctrMax) ∧ (s.latch (.engine e) = 2) :=
  ⟨latched 2 up, 9, 3, 0x7000, 2, [], all3 (by decide +kernel) ⟨noHeldIs (by decide +kernel), by decide +kernel⟩⟩

theorem witness_ThermalTripsComplete_1_hand : ∃ (s : State) (e : Engine) (_ : Fin 4) (value : BitVec 32) (_ : Nat) (_ : List (SlotKey × Bool × Fin 32)),
    (s.running = true) ∧ ((∀ t ∈ s.power.tripped, t.1 ≠ e.val)) ∧ (((256 * s.fld Reg.LNT_THERM_TRIP : Nat) : Int) < value.toInt) ∧ (noHeld s) ∧ (registersWf s) ∧ (rising s.power.trips = true) ∧ (s.fld Reg.LNT_TRIPS + 1 < ctrMax) ∧ (s.latch (.engine e) ≤ 1 ∧ s.boot.hand ≠ 0) :=
  ⟨{ up with boot := { up.boot with hand := 1 } }, 9, 3, 0x7000, 2, [], all3 (by decide +kernel) ⟨noHeldIs (by decide +kernel), by decide +kernel⟩⟩

theorem witness_ThermalTripsComplete_1_live : ∃ (s : State) (e : Engine) (_ : Fin 4) (value : BitVec 32) (_ : Nat) (_ : List (SlotKey × Bool × Fin 32)),
    (s.running = true) ∧ ((∀ t ∈ s.power.tripped, t.1 ≠ e.val)) ∧ (((256 * s.fld Reg.LNT_THERM_TRIP : Nat) : Int) < value.toInt) ∧ (noHeld s) ∧ (registersWf s) ∧ (rising s.power.trips = true) ∧ (s.fld Reg.LNT_TRIPS + 1 < ctrMax) ∧ (s.latch (.engine e) ≤ 1 ∧ s.boot.hand = 0 ∧ s.host.waits = []) ∧ (noDeal s (e / 8)) ∧ (s.engine e = .empty ∧ rising s.eng.engs = true ∧ rising s.rel.records = true) :=
  ⟨(pwr fun p => { p with trips := [(9, 3)] }), 9, 3, 0x7000, 3, [], all3 (by decide +kernel) ⟨noHeldIs (by decide +kernel), all4 (by decide +kernel) ⟨noDeals (by decide +kernel), by decide +kernel⟩⟩⟩

theorem witness_ThermalTripsComplete_2 : ∃ (s : State) (e : Engine) (stuck : Bool),
    (s.power.tripped.find? (fun t => decide (t.1 = e.val)) = some (e.val, stuck)) ∧ (s.running = true) ∧ (s.powerState ≠ 4) ∧ (s.boot.hand = 0) ∧ (s.coolDiodes ((List.range 4).map (· + 4 * e.val)) = true) ∧ (registersWf s) ∧ ((stuck = true ∨ s.latch (.engine e) ≠ 2 ∨ s.fld Reg.FEN_STATE_ENG_CAUSE e ≠ 6)) :=
  ⟨(pwr fun p => { p with tripped := [(9, true)] }), 9, true, by decide +kernel⟩

theorem witness_ThermalTripsComplete_2_returns : ∃ (s : State) (e : Engine) (stuck : Bool),
    (s.power.tripped.find? (fun t => decide (t.1 = e.val)) = some (e.val, stuck)) ∧ (s.running = true) ∧ (s.powerState ≠ 4) ∧ (s.boot.hand = 0) ∧ (s.coolDiodes ((List.range 4).map (· + 4 * e.val)) = true) ∧ (registersWf s) ∧ (stuck = false ∧ s.latch (.engine e) = 2 ∧ s.fld Reg.FEN_STATE_ENG_CAUSE e = 6) ∧ (noDeal s (e / 8)) ∧ (rising s.eng.engs = true ∧ rising s.rel.strikes = true) :=
  ⟨((latched 2 (pwr fun p => { p with tripped := [(9, false)] })).setFld Reg.FEN_STATE_ENG_CAUSE 6 9), 9, false, all7 (by decide +kernel) ⟨noDeals (by decide +kernel), by decide +kernel⟩⟩

theorem witness_ThermalTripsComplete_3 : ∃ (s : State) (point : Fin 2048) (value : BitVec 32),
    (s.running = true) ∧ (isDiode point = true) ∧ (512 ≤ point.val) ∧ (((256 * s.fld Reg.LNT_THERM_PKG_TRIP : Nat) : Int) < value.toInt) ∧ (registersWf s) ∧ (s.fld Reg.LNT_TRIPS + 1 < ctrMax) ∧ (s.power.stop = 0) :=
  ⟨up, 1024, 0x7FFF, by decide +kernel⟩

theorem witness_ThermalTripsComplete_3_stopped : ∃ (s : State) (point : Fin 2048) (value : BitVec 32),
    (s.running = true) ∧ (isDiode point = true) ∧ (512 ≤ point.val) ∧ (((256 * s.fld Reg.LNT_THERM_PKG_TRIP : Nat) : Int) < value.toInt) ∧ (registersWf s) ∧ (s.fld Reg.LNT_TRIPS + 1 < ctrMax) ∧ (s.power.stop ≠ 0) :=
  ⟨inState 4 (pwr fun p => { p with stop := 1 }), 1024, 0x7FFF, by decide +kernel⟩

theorem witness_ClocksSuppliesAndTheModuleLimitComplete_1 : ∃ (s : State) (e : Engine) (_ : BitVec 64) (_ : Bool),
    (s.running = true) ∧ (s.powerState ≤ 1) ∧ (registersWf s) ∧ (rising s.power.steps = true) ∧ (s.engineAt e (s.fld Reg.LNT_THERM_STEP_HI) = true ∧ s.clockStep e < 5) :=
  ⟨hot 96, 3, 7, true, by decide +kernel⟩

theorem witness_ClocksSuppliesAndTheModuleLimitComplete_1_up : ∃ (s : State) (e : Engine) (_ : BitVec 64) (_ : Bool),
    (s.running = true) ∧ (s.powerState ≤ 1) ∧ (registersWf s) ∧ (rising s.power.steps = true) ∧ (s.engineAt e (s.fld Reg.LNT_THERM_STEP_LO) = false ∧ s.fld Reg.GOV_PITCH_CFG_CLK_CEIL (s.campPitch (e / 8)) < s.clockStep e) :=
  ⟨(pwr fun p => { p with steps := [(3, 2)] }).setFld Reg.GOV_PITCH_CFG_CLK_FLOOR 5 1, 3, 7, true, by decide +kernel⟩

theorem witness_ClocksSuppliesAndTheModuleLimitComplete_1_takes : ∃ (s : State) (e : Engine) (_ : BitVec 64) (_ : Bool),
    (s.running = true) ∧ (s.powerState ≤ 1) ∧ (registersWf s) ∧ (rising s.power.steps = true) ∧ (s.engineAt e (s.fld Reg.LNT_THERM_STEP_HI) = true ∧ s.clockStep e < s.fld Reg.GOV_PITCH_CFG_CLK_FLOOR (s.campPitch (e / 8))) :=
  ⟨(hot 96).setFld Reg.GOV_PITCH_CFG_CLK_FLOOR 5 1, 3, 7, true, by decide +kernel⟩

theorem witness_ClocksSuppliesAndTheModuleLimitComplete_2 : ∃ (s : State) (e : Engine) (_ : Fin 11) (_ : BitVec 64) (_ : Bool),
    (s.running = true) ∧ (s.powerState ≤ 1) ∧ (rising s.power.volts = true) ∧ (s.fld Reg.GOV_PITCH_CFG_V_PIN (s.campPitch (e / 8)) = 0 ∧ s.fld Reg.GOV_PITCH_CFG_REPEAT (s.campPitch (e / 8)) = 0) :=
  ⟨up, 3, 10, 4, false, by decide +kernel⟩

theorem witness_ClocksSuppliesAndTheModuleLimitComplete_2_pinned : ∃ (s : State) (e : Engine) (_ : Fin 11) (_ : BitVec 64) (_ : Bool),
    (s.running = true) ∧ (s.powerState ≤ 1) ∧ (rising s.power.volts = true) ∧ (s.fld Reg.GOV_PITCH_CFG_REPEAT (s.campPitch (e / 8)) = 1) :=
  ⟨((pwr fun p => { p with volts := [(3, 4)] }).setFld Reg.GOV_PITCH_CFG_REPEAT 1 1), 3, 10, 4, false, by decide +kernel⟩

theorem witness_ClocksSuppliesAndTheModuleLimitComplete_3 : ∃ (s : State) (mw : BitVec 32),
    (s.running = true) ∧ (s.power.fast = false) ∧ (scaledLimit 2800000 s.power.inputMv < mw.toNat) :=
  ⟨up, 2800001, by decide +kernel⟩

theorem witness_ClocksSuppliesAndTheModuleLimitComplete_4 : ∃ (s : State),
    (s.power.fast = true) :=
  ⟨(pwr fun p => { p with fast := true }), by decide +kernel⟩

theorem witness_ClocksSuppliesAndTheModuleLimitComplete_5 : ∃ (s : State) (mw : BitVec 32) (mv : BitVec 32),
    (s.running = true) ∧ (registersWf s) ∧ (s.fld Reg.LNT_STATUS_SCALE ≤ 256) ∧ (scaledLimit 2400000 mv.toNat < mw.toNat) :=
  ⟨(pwr fun p => { p with excess := 63 }), 3000000, 54000, by decide +kernel⟩

theorem witness_ClocksSuppliesAndTheModuleLimitComplete_5_below : ∃ (s : State) (mw : BitVec 32) (mv : BitVec 32),
    (s.running = true) ∧ (registersWf s) ∧ (s.fld Reg.LNT_STATUS_SCALE ≤ 256) ∧ (mw.toNat < scaledLimit 2300000 mv.toNat) :=
  ⟨(pwr fun p => { p with excess := 63 }), 1000, 54000, by decide +kernel⟩

theorem witness_ClocksSuppliesAndTheModuleLimitComplete_6 : ∃ (s : State) (_ : BitVec 16) (_ : List Nat) (_ : List Nat),
    (registersWf s) :=
  ⟨up, 2400, [1, 2], [], by decide +kernel⟩

theorem witness_ClocksSuppliesAndTheModuleLimitComplete_7 : ∃ (s : State) (c : Camp) (_ : List Activity) (_ : BitVec 8) (_ : List EngineRun) (_ : Bool),
    (s.campRuns c = true) ∧ (registersWf s) ∧ (rising s.power.bubbles = true) :=
  ⟨up, 0, [{ counts := [9, 9], runnel := 0, ramp := 1 }], 5, [{ first := 250, cycles := 10, special := [3] }], false, by decide +kernel⟩

theorem witness_ClocksSuppliesAndTheModuleLimitComplete_7_zero : ∃ (s : State) (c : Camp) (acts : List Activity) (_ : BitVec 8) (runs : List EngineRun) (_ : Bool),
    (s.campRuns c = true) ∧ (registersWf s) ∧ (rising s.power.bubbles = true) ∧ ((∀ x ∈ acts.take 8, estimate x = 0) ∧ (∀ r ∈ runs.take 8, r.cycles = 0)) :=
  ⟨up, 0, [], 5, [{ first := 250, cycles := 0, special := [] }], false, by decide +kernel⟩

theorem witness_ClocksSuppliesAndTheModuleLimitComplete_8 : ∃ (s : State) (p : Pitch),
    (p.val ≠ 0) ∧ (s.pitchCamps p ≠ []) ∧ (s.running = true) ∧ (s.powerState = 0) ∧ (rising s.power.demand = true) ∧ (rising s.power.lastDemand = true) ∧ (rising s.power.budgets = true) ∧ (s.lends Reg.GOV_PITCH_CFG_LEND_PITCH p = false) :=
  ⟨(pwr fun p => { p with demand := [(0, 5), (2, 7)] }).setFld Reg.GOV_PITCH_CFG_LEND_PITCH 0 1, 1, by decide +kernel⟩

theorem witness_SensorsComplete_1 : ∃ (s : State) (point : Fin 2048) (_ : BitVec 32),
    (rising s.power.sensors = true) ∧ ((s.sensor point).last = []) :=
  ⟨up, 2047, 0xFFFFFF00, by decide +kernel⟩

theorem witness_SensorsComplete_1_more : ∃ (s : State) (point : Fin 2048) (_ : BitVec 32),
    (rising s.power.sensors = true) ∧ ((s.sensor point).last ≠ [] ∧ s.fld Reg.LNT_FILT_IIR_K 0 (sensorClass point) = 0) :=
  ⟨(hot 90).setFld Reg.LNT_FILT_IIR_K 0 0 0, 12, 300, by decide +kernel⟩

theorem witness_SensorsComplete_2 : ∃ (s : State) (point : Fin 2048),
    (rising s.power.sensors = true) ∧ (registersWf s) ∧ (((s.sensor point).faulty = true ∨ (s.sensor point).bad < 2)) :=
  ⟨hot 90, 12, by decide +kernel⟩

theorem witness_SensorsComplete_2_faulty : ∃ (s : State) (point : Fin 2048),
    (rising s.power.sensors = true) ∧ (registersWf s) ∧ ((s.sensor point).faulty = false ∧ 2 ≤ (s.sensor point).bad ∧ s.fld Reg.LNT_SENSOR + 1 < ctrMax) :=
  ⟨(pwr fun p => { p with sensors := [(512, { last := [3], y := 3, bad := 2, faulty := false })] }), 512, by decide +kernel⟩

theorem witness_PowerStatesRestartsAndHandoffsComplete_1 : ∃ (s : State),
    (s.running = true) ∧ (registersWf s) ∧ (s.powerState = 0 ∧ s.allIdle = true) :=
  ⟨up, by decide +kernel⟩

theorem witness_PowerStatesRestartsAndHandoffsComplete_1_wake : ∃ (s : State),
    (s.running = true) ∧ (registersWf s) ∧ (s.powerState = 1) :=
  ⟨inState 1 up, by decide +kernel⟩

theorem witness_PowerStatesRestartsAndHandoffsComplete_1_doze : ∃ (s : State),
    (s.running = true) ∧ (registersWf s) ∧ (s.powerState = 2 ∧ s.power.waking = true ∧ s.ras.held = [] ∧ s.host.waits = []) ∧ (noHeld s) :=
  ⟨inState 2 { (pwr fun p => { p with waking := true }) with mem := [(0x41, 5), (storeBase, 3)], pegs := [(1, { regs := [(1, 5)], trap := 0, trapValue := 0, block := none, arrivals := [], outstanding := [], failed := [], waitLog := 0 })] }, all3 (by decide +kernel) (noHeldIs (by decide +kernel))⟩

theorem witness_PowerStatesRestartsAndHandoffsComplete_2 : ∃ (s : State) (pair : Fin 2) (_ : Bool) (_ : Nat),
    (s.running = true) ∧ ((∀ x ∈ s.power.restarting, x.1 ≠ pair.val)) ∧ (s.boot.hand = 0) ∧ (registersWf s) ∧ (rising s.power.restarts = true) ∧ (s.fld Reg.LNT_DZ_RESTART + 1 < ctrMax) :=
  ⟨up, 1, true, 2, by decide +kernel⟩

theorem witness_PowerStatesRestartsAndHandoffsComplete_4 : ∃ (s : State) (pair : Fin 2),
    (s.power.restarting = [(pair.val, false)]) ∧ (s.running = true) ∧ (noHeld s) ∧ (registersWf s) :=
  ⟨(pwr fun p => { p with restarting := [(1, false)] }), 1, by decide +kernel, by decide +kernel, noHeldIs (by decide +kernel), by decide +kernel⟩

theorem witness_PowerStatesRestartsAndHandoffsComplete_5 : ∃ (s : State) (_ : Bool),
    (registersWf s) ∧ (s.fld Reg.LNT_LNT_RESTART + 1 < ctrMax) :=
  ⟨up, true, by decide +kernel⟩

theorem witness_PowerStatesRestartsAndHandoffsComplete_7 : ∃ (s : State),
    (s.powerState = 3) ∧ (s.phase ≤ 1) ∧ (s.boot.unpowered = false ∧ s.sec.powered = false ∧ s.standbyWork = true) :=
  ⟨inState 3 { up with sec := { up.sec with powered := false, evSeen := 9 } }, by decide +kernel⟩

theorem witness_PowerStatesRestartsAndHandoffsComplete_7_none : ∃ (s : State),
    (s.powerState = 3) ∧ (s.phase ≤ 1) ∧ (s.standbyWork = false) :=
  ⟨inState 3 { up with sec := { up.sec with evSeen := up.evs.nextSeq } }, by decide +kernel⟩

theorem witness_PowerStatesRestartsAndHandoffsComplete_7_down : ∃ (s : State),
    (s.powerState = 3) ∧ (s.phase ≤ 1) ∧ (s.sec.powered = true ∧ s.sec.log.buffered = [] ∧ s.sec.log.ahead = [] ∧ s.sec.log.later = []) :=
  ⟨inState 3 { up with sec := { up.sec with log := { up.sec.log with buffered := [], ahead := [], later := [] } } }, by decide +kernel⟩

theorem witness_PowerStatesRestartsAndHandoffsComplete_8 : ∃ (s : State),
    (s.boot.hand = 1) ∧ ((∀ x ∈ s.host.sessions, x.2.waiting = none ∨ ∃ w ∈ s.host.waits, w.session = x.1 ∧ w.on = .handoff)) :=
  ⟨{ up with boot := { up.boot with hand := 1 } }, by decide +kernel⟩

theorem witness_PowerStatesRestartsAndHandoffsComplete_9 : ∃ (s : State),
    (s.boot.putOff = []) ∧ (s.power.restarting = []) ∧ (s.host.waits = []) ∧ (noHeld s) ∧ (registersWf s) ∧ (s.boot.handSlot < 2) ∧ (s.fld Reg.STU_STATUS_SLOT < 2) ∧ (s.boot.hand = 2 ∧ s.boot.handRaise = false) :=
  ⟨{ up with boot := { up.boot with hand := 2, handSlot := 1 } }, all3 (by decide +kernel) ⟨noHeldIs (by decide +kernel), by decide +kernel⟩⟩

theorem witness_StartPhasesComplete_1 : ∃ (s : State) (_ : BitVec 6),
    (s.phase = 1) ∧ (s.boot.waiting = false) ∧ (s.boot.opened = false) ∧ (s.boot.unpowered = false) ∧ (s.linesHigh = true) ∧ (registersWf s) ∧ (rising s.host.sessions = true) ∧ (s.fld Reg.STU_STATUS_FAILS ≤ 3) :=
  ⟨lines 1 (start 1 id), 5, by decide +kernel⟩

theorem witness_StartPhasesComplete_2 : ∃ (s : State),
    (registersWf s) ∧ (s.phase = 2) :=
  ⟨start 2 id, by decide +kernel⟩

theorem witness_StartPhasesComplete_3 : ∃ (s : State),
    (registersWf s) ∧ (s.fld Reg.STU_FAILED + 1 < ctrMax) ∧ (s.fld Reg.STU_STATUS_FAILS ≤ 3) ∧ (s.phase = 2) :=
  ⟨start 2 id, by decide +kernel⟩

theorem witness_StartPhasesComplete_3_timeout : ∃ (s : State),
    (registersWf s) ∧ (s.fld Reg.STU_FAILED + 1 < ctrMax) ∧ (s.fld Reg.STU_STATUS_FAILS ≤ 3) ∧ (s.starting = true) :=
  ⟨(start 7 id).setFld Reg.STU_STATUS_FAILS 3, by decide +kernel⟩

theorem witness_StartPhasesComplete_3_security : ∃ (s : State),
    (registersWf s) ∧ (s.fld Reg.STU_FAILED + 1 < ctrMax) ∧ (s.fld Reg.STU_STATUS_FAILS ≤ 3) ∧ (s.phase = 3) :=
  ⟨start 3 id, by decide +kernel⟩

theorem witness_StartPhasesComplete_3_rom : ∃ (s : State),
    (registersWf s) ∧ (s.fld Reg.STU_FAILED + 1 < ctrMax) ∧ (s.fld Reg.STU_STATUS_FAILS ≤ 3) ∧ (s.phase = 4) :=
  ⟨start 4 id, by decide +kernel⟩

theorem witness_StartPhasesComplete_3_stage : ∃ (s : State),
    (registersWf s) ∧ (s.fld Reg.STU_FAILED + 1 < ctrMax) ∧ (s.fld Reg.STU_STATUS_FAILS ≤ 3) ∧ (s.phase = 5) :=
  ⟨start 5 id, by decide +kernel⟩

theorem witness_StartPhasesComplete_4 : ∃ (s : State),
    (s.phase = 3) ∧ (registersWf s) ∧ (rising s.sec.pitches = true) :=
  ⟨start 3 id, by decide +kernel⟩

theorem witness_StartPhasesComplete_5 : ∃ (s : State) (_ : Bool) (_ : Bool),
    (s.phase = 4) ∧ (registersWf s) ∧ (s.fld Reg.STU_STATUS_ACTIVE ≤ 1) ∧ (s.fld Reg.STU_FAILED + 1 < ctrMax) ∧ (s.fld Reg.STU_STATUS_FAILS ≤ 3) :=
  ⟨start 4 id, true, true, by decide +kernel⟩

theorem witness_StartPhasesComplete_6 : ∃ (s : State),
    (s.phase = 5) ∧ (registersWf s) :=
  ⟨start 5 id, by decide +kernel⟩

theorem witness_StartPhasesComplete_7 : ∃ (s : State) (t : Training),
    (s.phase = 6) ∧ (registersWf s) ∧ (t.dead = []) ∧ (t.pins = []) ∧ (t.banks = []) ∧ (t.engines = []) ∧ (t.islands = []) ∧ (t.ports = []) ∧ (64 ≤ s.liveN) ∧ (32 ≤ s.fld Reg.SHF_MAP_LIVE_N 0) ∧ (32 ≤ s.fld Reg.SHF_MAP_LIVE_N 1) ∧ ((∃ c, c < 16 ∧ s.campFenced c = false)) ∧ ((∀ e, e < 128 → s.fld Reg.FEN_STATE_ENG_STATE e ≠ 2)) :=
  ⟨start 6 id, readyT, by decide +kernel⟩

theorem witness_StartPhasesComplete_8 : ∃ (s : State),
    (s.boot.waiting = true) ∧ (s.phase = 1) ∧ (s.boot.unpowered = false) ∧ (s.boot.marker = false) ∧ (registersWf s) :=
  ⟨start 1 (fun b => { b with waiting := true }), by decide +kernel⟩

theorem witness_TrayLinesAndInputPowerComplete_1 : ∃ (s : State),
    (s.fld Reg.LNT_STATUS_PWR_EN = 0) ∧ (registersWf s) ∧ (s.phase = 0 ∧ s.powerState = 3 ∧ s.boot.opened = false ∧ s.boot.unpowered = false ∧ s.boot.marker = false) :=
  ⟨(start 0 id).setFld Reg.LNT_STATUS_STATE 3, by decide +kernel⟩

theorem witness_TrayLinesAndInputPowerComplete_1_other : ∃ (s : State),
    (s.fld Reg.LNT_STATUS_PWR_EN = 0) ∧ (registersWf s) ∧ (¬ (s.phase = 0 ∧ s.powerState = 3)) :=
  ⟨up, by decide +kernel⟩

theorem witness_TrayLinesAndInputPowerComplete_2 : ∃ (s : State),
    (s.fld Reg.LNT_STATUS_PWR_EN = 1) ∧ (s.boot.unpowered = false) ∧ (registersWf s) ∧ (s.boot.prevFails ≤ 3) ∧ (s.running = true) :=
  ⟨lines 1 up, by decide +kernel⟩

theorem witness_TrayLinesAndInputPowerComplete_2_start : ∃ (s : State),
    (s.fld Reg.LNT_STATUS_PWR_EN = 1) ∧ (s.boot.unpowered = false) ∧ (registersWf s) ∧ (s.boot.prevFails ≤ 3) ∧ (s.starting = true) :=
  ⟨lines 1 (start 5 (fun b => { b with prevFails := 1 })), by decide +kernel⟩

theorem witness_TrayLinesAndInputPowerComplete_2_hold : ∃ (s : State),
    (s.fld Reg.LNT_STATUS_PWR_EN = 1) ∧ (s.boot.unpowered = false) ∧ (registersWf s) ∧ (s.boot.prevFails ≤ 3) ∧ (s.phase = 1) :=
  ⟨lines 1 (start 1 id), by decide +kernel⟩

theorem witness_TrayLinesAndInputPowerComplete_3 : ∃ (s : State),
    (s.power.flowLow = true) ∧ (s.starting = true) ∧ (registersWf s) ∧ (s.boot.prevFails ≤ 3) :=
  ⟨{ start 5 (fun b => { b with prevFails := 2 }) with power := (pwr fun p => { p with flowLow := true }).power }, by decide +kernel⟩

theorem witness_TrayLinesAndInputPowerComplete_4 : ∃ (s : State) (mv : BitVec 32) (i : Instr),
    (s.boot.opened = false) ∧ (s.boot.unpowered = false) ∧ ((i = .presentNRise ∨ i = .inputOvercurrent ∨ (i = .inputUndervoltage mv ∧ mv.toNat < 47000 ∧ (s.starting = true ∨ s.running = true)) ∨ (i = .inputOvervoltage mv ∧ 60000 < mv.toNat ∧ mv.toNat ≤ 63000))) ∧ ((s.starting = true ∨ s.running = true)) :=
  ⟨up, 46999, (.inputUndervoltage 46999), by decide +kernel, by decide +kernel, Or.inr (Or.inr (Or.inl ⟨rfl, by decide +kernel⟩)), by decide +kernel⟩

theorem witness_TrayLinesAndInputPowerComplete_4_over : ∃ (s : State) (mv : BitVec 32) (i : Instr),
    (s.boot.opened = false) ∧ (s.boot.unpowered = false) ∧ ((i = .presentNRise ∨ i = .inputOvercurrent ∨ (i = .inputUndervoltage mv ∧ mv.toNat < 47000 ∧ (s.starting = true ∨ s.running = true)) ∨ (i = .inputOvervoltage mv ∧ 60000 < mv.toNat ∧ mv.toNat ≤ 63000))) :=
  ⟨up, 63000, (.inputOvervoltage 63000), by decide +kernel, by decide +kernel, Or.inr (Or.inr (Or.inr ⟨rfl, by decide +kernel⟩))⟩

theorem witness_TrayLinesAndInputPowerComplete_4_removed : ∃ (s : State) (mv : BitVec 32) (i : Instr),
    (s.boot.opened = false) ∧ (s.boot.unpowered = false) ∧ ((i = .presentNRise ∨ i = .inputOvercurrent ∨ (i = .inputUndervoltage mv ∧ mv.toNat < 47000 ∧ (s.starting = true ∨ s.running = true)) ∨ (i = .inputOvervoltage mv ∧ 60000 < mv.toNat ∧ mv.toNat ≤ 63000))) ∧ (s.starting = false ∧ s.running = false) :=
  ⟨inState 3 up, 0, .presentNRise, by decide +kernel, by decide +kernel, Or.inl rfl, by decide +kernel⟩

theorem witness_TrayLinesAndInputPowerComplete_5 : ∃ (_ : State) (mv : BitVec 32),
    (47000 ≤ mv.toNat) :=
  ⟨up, 47000, by decide +kernel⟩

theorem witness_TrayLinesAndInputPowerComplete_6 : ∃ (_ : State) (mv : BitVec 32),
    (mv.toNat ≤ 60000) :=
  ⟨up, 60000, by decide +kernel⟩

theorem witness_TrayLinesAndInputPowerComplete_7 : ∃ (s : State),
    (s.boot.opened = true) ∧ (s.boot.unpowered = false) ∧ (s.boot.marker = false) ∧ (registersWf s) ∧ (s.phase = 0) :=
  ⟨{ inState 3 up with boot := { up.boot with opened := true } }, by decide +kernel⟩

theorem witness_TrayLinesAndInputPowerComplete_7_other : ∃ (s : State),
    (s.boot.opened = true) ∧ (s.boot.unpowered = false) ∧ (s.boot.marker = false) ∧ (registersWf s) ∧ (s.phase ≠ 0) :=
  ⟨start 1 (fun b => { b with opened := true }), by decide +kernel⟩

theorem witness_TrayLinesAndInputPowerComplete_9 : ∃ (s : State) (_ : Bool) (_ : Bool),
    (s.boot.unpowered = true) ∧ (s.boot.marker = false) ∧ (registersWf s) :=
  ⟨inState 3 { up with boot := { up.boot with unpowered := true } }, true, false, by decide +kernel⟩

theorem witness_FencesHeartbeatsAndSelfTestsComplete_1 : ∃ (s : State) (e : Engine) (_ : Caught),
    (s.running = true) ∧ (s.campsGated = false) ∧ (s.latch (.engine e) = 1) ∧ (s.atFencePoint (.engine e) = true) ∧ (noHeld s) ∧ (s.host.waits = []) ∧ (registersWf s) ∧ (noDeal s (e / 8)) ∧ (rising s.eng.engs = true) :=
  ⟨latched 1 up, 9, [], all4 (by decide +kernel) ⟨noHeldIs (by decide +kernel), by decide +kernel, by decide +kernel, noDeals (by decide +kernel), by decide +kernel⟩⟩

theorem witness_FencesHeartbeatsAndSelfTestsComplete_2 : ∃ (s : State) (e : Engine) (l : Fin 256),
    (s.running = true) ∧ (s.campsGated = false) ∧ (s.latch (.lane e l) = 1) ∧ (s.atFencePoint (.lane e l) = true) ∧ (noHeld s) ∧ (s.host.waits = []) ∧ (registersWf s) ∧ ((∀ i, i / 8 = e.val / 8 → s.lanesFenced i < 32)) :=
  ⟨up.setFld Reg.FEN_LANE_STATE 1 9 0, 9, 0, all4 (by decide +kernel) ⟨noHeldIs (by decide +kernel), by decide +kernel, by decide +kernel, fewLanes (by decide +kernel)⟩⟩

theorem witness_FencesHeartbeatsAndSelfTestsComplete_3 : ∃ (s : State) (c : Camp),
    (s.running = true) ∧ (registersWf s) ∧ (s.campRuns c = true) :=
  ⟨up.setFld Reg.HB 0xFFFFFFFF 3, 3, by decide +kernel⟩

theorem witness_FencesHeartbeatsAndSelfTestsComplete_4 : ∃ (s : State) (_ : Caught),
    (noHeld s) ∧ ((∀ r ∈ s.fab.reqs, r.stage ≠ 0)) ∧ ((∀ b ∈ s.rel.beats, b.2.2 < 2 ∨ s.fld Reg.HB b.1 ≠ b.2.1)) :=
  ⟨{ up with rel := { up.rel with beats := [(3, 5, 1)] } }, [], noHeldIs (by decide +kernel), by decide +kernel⟩

theorem witness_FencesHeartbeatsAndSelfTestsComplete_5 : ∃ (s : State) (e : Engine) (overdue : Bool),
    (s.running = true) ∧ (s.boot.hand = 0) ∧ (s.fld Reg.FEN_CFG_SELFTEST_H ≠ 0) ∧ ((∀ t ∈ s.rel.testing, t.1 / 8 ≠ e.val / 8)) ∧ ((s.fld Reg.GOV_PITCH_CFG_REPEAT (s.campPitch (e / 8)) = 0 ∨ overdue = true)) ∧ (s.latch (.engine e) = 0) ∧ (s.campFenced (e / 8) = false) ∧ (registersWf s) :=
  ⟨up, 9, true, by decide +kernel⟩

theorem witness_FencesHeartbeatsAndSelfTestsComplete_6 : ∃ (s : State) (e : Engine) (back : Bool),
    (s.running = true) ∧ (s.boot.hand = 0) ∧ (s.rel.testing.find? (fun x => decide (x.1 = e.val)) = some (e.val, back)) ∧ (s.latch (.engine e) = 2) ∧ (s.campFenced (e / 8) = false) ∧ (s.rel.due = []) ∧ (noHeld s) ∧ (s.host.waits = []) ∧ (noDeal s (e / 8)) ∧ (registersWf s) ∧ (rising s.eng.engs = true) ∧ ((∀ l, l < 256 → s.laneLatch e l = 0)) :=
  ⟨latched 2 { up with rel := { up.rel with testing := [(9, true)] } }, 9, true, all6 (by decide +kernel) ⟨noHeldIs (by decide +kernel), by decide +kernel, noDeals (by decide +kernel), by decide +kernel⟩⟩

theorem witness_FencesHeartbeatsAndSelfTestsComplete_7 : ∃ (s : State) (c : Camp) (h : Nat),
    (s.rel.moved.find? (fun m => decide (m.1 = c.val)) = some (c.val, h)) ∧ (s.latch (.camp c) = 0) ∧ (s.guestsIdle h = true) ∧ (s.boot.hand = 0) ∧ (rising s.sync.tallies = true) :=
  ⟨moved0, 0, 1, by decide +kernel⟩

theorem witness_FencesHeartbeatsAndSelfTestsComplete_8 : ∃ (s : State) (x : Crossing),
    (s.running = true) ∧ (registersWf s) ∧ (s.fld Reg.REL_CROSS + 1 < ctrMax) ∧ (x.refused.val < 3) :=
  ⟨up, crossing 2, by decide +kernel⟩

theorem witness_FencesHeartbeatsAndSelfTestsComplete_8_fourth : ∃ (s : State) (x : Crossing),
    (s.running = true) ∧ (registersWf s) ∧ (s.fld Reg.REL_CROSS + 1 < ctrMax) ∧ (3 ≤ x.refused.val ∧ crossingUnit x = none ∧ x.entry = none) :=
  ⟨up, crossing 3, by decide +kernel⟩

theorem witness_EntriesReachFlash_1 : ∃ (s : State) (n : Nat) (rest : List Nat),
    (s.sec.log.buffered = n :: rest) ∧ (s.sec.powered = true) ∧ (noHeld s) ∧ (s.sec.log.later = [] ∧ s.sec.log.refuses = false) :=
  ⟨noteSt, 3, [4], by decide +kernel, by decide +kernel, noHeldIs (by decide +kernel), by decide +kernel⟩

theorem witness_EntriesReachFlash_1_refuses : ∃ (s : State) (n : Nat) (rest : List Nat),
    (s.sec.log.buffered = n :: rest) ∧ (s.sec.powered = true) ∧ (noHeld s) ∧ (s.sec.log.refuses = true) :=
  ⟨{ noteSt with sec := { noteSt.sec with log := { noteSt.sec.log with refuses := true } } }, 3, [4], by decide +kernel, by decide +kernel, noHeldIs (by decide +kernel), by decide +kernel⟩

theorem witness_EntriesReachFlash_2 : ∃ (s : State) (a : Ahead) (rest : List Ahead),
    (s.sec.log.ahead = a :: rest) ∧ (s.sec.powered = true) ∧ (noHeld s) ∧ (registersWf s) ∧ (s.logSeq = 1) :=
  ⟨noteSt.setFld Reg.SEC_LOG_SEQ_SEQ 1, { seq := 0, change := .note, reply := none }, [], by decide +kernel, by decide +kernel, noHeldIs (by decide +kernel), by decide +kernel⟩

theorem witness_EntriesReachFlash_3 : ∃ (s : State) (_ : Bool),
    (s.sec.log.ahead = []) :=
  ⟨up, true, by decide +kernel⟩

theorem witness_CountersSaturateOnce_1 : ∃ (s : State) (c : Ctr) (inst m : Nat),
    registersWf s ∧ c ∈ Ctr.all ∧ m < c.cnt.members ∧ s.fld c.cnt inst m = 0xFFFFFFFF :=
  ⟨up.setFld Reg.TWY_LATE 0xFFFFFFFF 1, Ctr.TWY_LATE, 1, 0, by decide +kernel⟩

theorem witness_EveryCommandAnswers_1 : ∃ (c : Instr) (_ : State),
    ((∀ mv, c = .inputOvervoltage mv → mv.toNat ≤ 63000)) :=
  ⟨(.inputOvervoltage 63000), up, fun _ h => by cases h; decide⟩

theorem witness_EveryCommandAnswers_2 : ∃ (mv : BitVec 32) (_ : State),
    (63000 < mv.toNat) :=
  ⟨63001, up, by decide +kernel⟩

theorem witness_QueueFrontRunsExec_2 : ∃ s : State, s.pending = [] := ⟨up, rfl⟩

theorem refresh_steps (s : State) (h : s.pending = []) : Machine.step (s.withCommand (.hbmRefresh 0)) = .next s := by
  cases s; cases h; rfl
theorem refreshing_canonical : Canonical (up.withCommand (.hbmRefresh 0)) := by constructor <;> decide +kernel
theorem witness_CanonicalFormIsKept_1 : ∃ s t : State, Canonical s ∧ Machine.step s = .next t :=
  ⟨up.withCommand (.hbmRefresh 0), up, refreshing_canonical, refresh_steps up rfl⟩

theorem witness_FlightNumbersStayUnique_1 : ∃ s t : State, Numbered s ∧ rising s.slots = true ∧ Machine.step s = .next t :=
  ⟨(strm2 nopWord).withCommand (.hbmRefresh 0), strm2 nopWord, numbered (by decide +kernel), by decide +kernel, refresh_steps _ rfl⟩

/-! Words and addresses, from the worked examples of the spec. -/

/-- R13's example: lane 200 of engine 77. -/
theorem test_location_word_of_a_lane : locLane 77 200 = 0x41372000 := by decide

/-- R36's example: BRK_CFG of engine 77. -/
theorem test_address_of_brk_cfg : Reg.BRK_CFG_RUNNEL_EN.addr 77 0 = 0x01F0004D0070 := by decide

/-- R35's examples: byte 0x1000 of the Cove buffer of engine 77, and tally 5 of camp 9. -/
theorem test_regions_of_two_addresses : region 0x011009A01000 = .cove 77 ∧ region 0x012001200028 = .tally 9 40 := by decide

/-- R309's example: granule 1,567 with 512 and with 448 live pseudo-channels. -/
theorem test_hashed_placement : (placeGranule 0 0x9E3779B1 1 512 1567).1 = 468 ∧ (placeGranule 0 0x9E3779B1 1 448 1567).1 = 212 := by decide

/-- R328's example: offset 0x8000_1240 is bank 73 of die 1. -/
theorem test_shelf_bank : State.reset.shelfBank (shelfBase + 0x80001240) = (1, 73) := by decide +kernel

/-! Numbers, from the worked examples of chapters 2 and 5. -/

def tileA : QTile := quantTile 0 true 1 (-4) 8 8 ([0x4053, 0xBF9A, 0x3F00, 0, 0x4000, 0xBE9A, 0x3F80, 0x3E1A].map bf16.decode)
def tileB : QTile := quantTile 0 true 1 (-3) 8 8 ([0x3F66, 0x3F66, 0xBEE6, 0x3FE6, 0x3E9A, 0x4010, 0xBF40, 0x3F1A].map bf16.decode)

/-- R58: the fine scales of the example's two tiles. -/
theorem test_fine_scales : tileA.fine = 0x51 ∧ tileB.fine = 0x44 := by decide +kernel

/-- R59 and R53: the codes of the example's rows, as the words they pack into. -/
theorem test_tile_codes : ofBytes (packCodes (tileA.codes.take 8) 4) = 0x149602C7 ∧ ofBytes (packCodes (tileB.codes.take 8) 4) = 0x3C726A44 := by
  decide +kernel

/-- R62 and R63: the example's tile partial, and its accumulator from +0.0. -/
theorem test_tile_partial : tilePartial (tileA.ints 0) (tileB.ints 0) = 19 ∧ tileStep 0 tileA tileB 0 0 = 0x43004000 := by decide +kernel

/-- R70: the example's tie to BF16. -/
theorem test_output_to_bf16_ties_to_even : outConvert 0 1 0x3F008000 = (0x3F00, false, false) := by decide +kernel

def tileHi : QTile := quantTile 0 true 1 0 8 8 ([0x40A0, 0x3F90, 0x3EA0].map bf16.decode)
def tileLo : QTile := lowTile tileHi 1 0 8 8 ([0x40A0, 0x3F90, 0x3EA0].map bf16.decode)

/-- R142 and R143: the example of a Split-4 pair. -/
theorem test_split4_pair : tileHi.fine = 0x36 ∧ tileHi.codes.take 4 = [7, 3, 1, 0] ∧ tileLo.fine = 0x13 ∧ tileLo.codes.take 4 = [0xF, 0xE, 0xD, 0] := by
  decide +kernel

/-! One command on a small state. -/

/-- The field that a step leaves. -/
def after (i : Instr) (s : State) (f : State → Nat) : Option Nat :=
  match Machine.step (s.withCommand i) with
  | .next t => some (f t)
  | _ => none

/-- R475: HEARTBEAT_TICK adds 1 modulo 2^32. -/
theorem test_heartbeat_wraps : after (.heartbeatTick 3) (up.setFld Reg.HB 0xFFFFFFFF 3) (fun t => t.fld Reg.HB 3) = some 0 := by decide +kernel

/-- R14: a counter at its largest value stays there. -/
theorem test_counter_saturates :
    after (.crossingParityRefusal (crossing 0)) (up.setFld Reg.REL_CROSS 0xFFFFFFFF) (fun t => t.fld Reg.REL_CROSS) = some 0xFFFFFFFF := by decide +kernel

/-- R279: a SIGNAL adds its amount to the tally. -/
theorem test_signal_adds : after (.signal 1) (strm (sigWord 2)) (fun t => (t.tally 0 5).count) = some 5 := by decide +kernel

/-- R450: a summary clears its counts. -/
theorem test_summary_clears : after .lanternSummary (pwr fun p => { p with supplies := 3 }) (fun t => t.power.supplies) = some 0 := by decide +kernel

/-- R313: a line written reads back byte for byte, the first byte lowest. -/
theorem test_line_write : after (.hbmAccess 1 1 (.write 3 0x0102) clean .other) lineSt (fun t => ofBytes (readBytes t.mem 64 3)) = some 0x0102 := by
  decide +kernel

/-- A step on an empty queue idles (log 1). -/
theorem test_empty_queue_idles : Machine.step up = .next up := rfl

/-- R271: a word that the table of R272 does not list spells no command, nor does a word of another length. -/
theorem test_unlisted_words : decodeTableWord 32 0 = none ∧ decodeTableWord 16 0x000B = none ∧ State.reset.withFetchWord 32 0 = State.reset :=
  ⟨rfl, rfl, rfl⟩

/-- R272: pl.sig a0, a1 is opcode 0001011 with rs1 = 10, rs2 = 11 and funct3, funct7 and rd zero. -/
theorem test_pl_sig_word :
    (11 <<< 20 ||| 10 <<< 15 ||| 0b0001011 = 0x00B5000B) ∧ decodeTableWord 32 0x00B5000B = some (.plSig 0 0 0)
      ∧ decodeTableWord 32 0x00B5008B = none := ⟨rfl, rfl, rfl⟩

/-- R272: a pl.spd word has funct3 2 of custom-2 and bit 25 of funct7 is its variant; rd names the destination. -/
theorem test_pl_spd_word :
    decodeTableWord 32 0x00B522DB = some (.plSpd 0 5 false 0 0) ∧ decodeTableWord 32 0x02B522DB = some (.plSpd 0 5 true 0 0) := ⟨rfl, rfl⟩

/-- The state after reset lists nothing. -/
theorem test_reset_is_empty : State.reset.mem = [] ∧ State.reset.pending = [] ∧ State.reset.powerState = 0 := by decide +kernel

/-! WellFormed refuses an ill-formed term of each check. -/

/-- A session number, a LEN and a body byte past their widths. -/
theorem test_ill_formed_requests :
    wellFormed (.close { rq 1 with len := 2 ^ 16 }) = false ∧ wellFormed (.ping (rq 1) [256]) = false ∧ wellFormed (.memRead (rq 1) (2 ^ 64) 4 []) = false
      ∧ wellFormed (.memRead (rq 1) 0 4 [some { clean with positions := [1024] }]) = false := by
  decide +kernel

/-- An OPEN body's fields past their widths. -/
theorem test_ill_formed_open : ∀ b ∈ [({ role := 256, pitch := 0, cred := 0, hostKx := 0, nonce := 0, initSeq := 0, sigOk := true } : OpenBody),
    { role := 0, pitch := 16, cred := 0, hostKx := 0, nonce := 0, initSeq := 0, sigOk := true },
    { role := 0, pitch := 0, cred := 2 ^ 256, hostKx := 0, nonce := 0, initSeq := 0, sigOk := true },
    { role := 0, pitch := 0, cred := 0, hostKx := 2 ^ 448, nonce := 0, initSeq := 0, sigOk := true },
    { role := 0, pitch := 0, cred := 0, hostKx := 0, nonce := 2 ^ 256, initSeq := 0, sigOk := true }], wellFormed (.openSession (rq 0) b) = false := by
  decide +kernel

/-- A listed opcode is not an unlisted one, nor is a number past 16 bits. -/
theorem test_ill_formed_opcode :
    wellFormed (.unlistedOpcodeRequest (rq 1) 0x0101) = false ∧ wellFormed (.unlistedOpcodeRequest (rq 1) (2 ^ 16)) = false
      ∧ wellFormed (.stashFree (rq 1) (some (2 ^ 32))) = false := by decide +kernel

/-- A register write of an actor past its widths. -/
theorem test_ill_formed_actor : ∀ a ∈ [({ session := 2 ^ 32, tod := 0 } : Actor), { session := 0, tod := 2 ^ 64 }],
    wellFormed (.registerWrite a 0 0) = false := by decide +kernel

/-- A packet with one field past its width, or 257 bytes. -/
theorem test_ill_formed_packets : ∀ p ∈ [{ blankPacket with kind := 256 }, { blankPacket with subtype := 16 }, { blankPacket with pitch := 16 },
    { blankPacket with job := 2 ^ 16 }, { blankPacket with src := 4096 }, { blankPacket with dst := 4096 }, { blankPacket with addr := 2 ^ 48 },
    { blankPacket with seqn := 2 ^ 32 }, { blankPacket with tag := 2 ^ 16 }, { blankPacket with status := 2 ^ 16 }, { blankPacket with etype := 8 },
    { blankPacket with hops := 16 }, { blankPacket with iv := 2 ^ 72 }, { blankPacket with vl := 2 }, { blankPacket with body := [256] },
    { blankPacket with body := List.replicate 257 0 }], wellFormed (.packetForward p 0) = false := by decide +kernel

/-- An RDMA packet, a cycle report and an error report past their widths. -/
theorem test_ill_formed_reports :
    (∀ p ∈ [{ rd with qp := 2 ^ 24 }, { rd with rkey := 2 ^ 32 }, { rd with addr := 2 ^ 48 }], wellFormed (.rdmaWrite p []) = false)
      ∧ WellFormed.cyclesOk { noCyc with lanes := [(256, 1)] } = false ∧ wellFormed (.hbmScrub 0 { clean with positions := [1024] }) = false := by decide +kernel

/-- Well-formed terms pass the same checks. -/
theorem test_well_formed_terms :
    wellFormed (.close (rq 1)) = true ∧ wellFormed (.packetForward askWrite 0) = true ∧ wellFormed (.hbmScrub 0 clean) = true
      ∧ wellFormed (.unlistedOpcodeRequest (rq 1) 0x0FFF) = true := by decide +kernel

end Sys2Proof.Tests
end

section
/-! The tile partial of a cell (R62): its value as a sum, and its bounds from those of the integer forms (R43). -/
namespace Sys2Proof.Machine
open Sys2Proof

/-- The integer form of an E2M1 code is at most 12 in magnitude, the form of the value 6 (R43). -/
theorem natAbs_elemInt_zero_le (code : Nat) : (elemInt 0 code).natAbs ≤ 12 := by
  have hmag : ∀ r < 8, (([0, 1, 2, 3, 4, 6, 8, 12] : List Int).getD r 0).natAbs ≤ 12 := by decide
  have hcode := hmag (code % 8) (Nat.mod_lt _ (by decide))
  simp only [elemInt, if_true]
  split
  · rwa [Int.natAbs_neg]
  · exact hcode

/-- A 4-bit two's complement number is at most 8 in magnitude. -/
theorem natAbs_signed_four_le (n : Nat) : (signed 4 n).natAbs ≤ 8 := by
  unfold signed
  split <;> omega

/-- The integer form of a code of any format is at most 15 in magnitude, the largest U4 form (R43). -/
theorem natAbs_elemInt_le (fmt code : Nat) : (elemInt fmt code).natAbs ≤ 15 := by
  by_cases h0 : fmt = 0
  · subst h0
    exact Nat.le_trans (natAbs_elemInt_zero_le code) (by decide)
  by_cases h1 : fmt = 1
  · subst h1
    exact Nat.le_trans (natAbs_signed_four_le code) (by decide)
  · simp only [elemInt, h0, h1, if_false]
    omega

/-- The tile partial of two rows is the sum of the products of their integer forms (R62). -/
theorem tilePartial_ints (a b : QTile) (i j : Nat) : tilePartial (a.ints i) (b.ints j)
    = ((List.range 8).map fun k => elemInt a.fmt (a.codes.getD (8 * i + k) 0) * elemInt b.fmt (b.codes.getD (8 * j + k) 0)).sum := by
  rw [tilePartial, ← List.sum_eq_foldl, QTile.ints, QTile.ints, List.zipWith_map, List.zipWith_self]

/-- A sum of integers that are each at most `B` in magnitude is at most `B` times their number. -/
theorem natAbs_sum_le_length_mul (l : List Int) (B : Nat) (h : ∀ x ∈ l, x.natAbs ≤ B) : l.sum.natAbs ≤ l.length * B := by
  induction l with
  | nil => exact Nat.zero_le _
  | cons x l ih =>
    have hx : x.natAbs ≤ B := h x List.mem_cons_self
    have hl : l.sum.natAbs ≤ l.length * B := ih fun y hy => h y (List.mem_cons_of_mem x hy)
    rw [List.sum_cons, List.length_cons, Nat.succ_mul]
    omega

/-- Operands whose integer forms are at most `m` and `n` give a tile partial of at most `8 * (m * n)`. -/
theorem natAbs_tilePartial_ints_le (a b : QTile) (i j m n : Nat) (ha : ∀ c, (elemInt a.fmt c).natAbs ≤ m)
    (hb : ∀ c, (elemInt b.fmt c).natAbs ≤ n) : (tilePartial (a.ints i) (b.ints j)).natAbs ≤ 8 * (m * n) := by
  rw [tilePartial_ints]
  refine natAbs_sum_le_length_mul ((List.range 8).map _) (m * n) fun x hx => ?_
  obtain ⟨k, -, rfl⟩ := List.mem_map.mp hx
  rw [Int.natAbs_mul]
  exact Nat.mul_le_mul (ha _) (hb _)

/-- A tile of one code throughout, of element format `fmt`. -/
def uniformTile (fmt code : Nat) : QTile := { QTile.zero fmt false with codes := List.replicate 64 code }

/-- The codes of two tiles of one 4-bit code are 4-bit codes. -/
theorem uniformTile_codes_lt {fmt code : Nat} (hcode : code < 16) :
    ∀ c ∈ (uniformTile fmt code).codes ++ (uniformTile fmt code).codes, c < 16 := by
  intro c h
  have hc : c ∈ List.replicate 64 code := (List.mem_append.mp h).elim id id
  rwa [List.eq_of_mem_replicate hc]

/-- Settles O55: the sum by `tilePartial_ints`, the bounds from those of the integer forms. Rows of the U4 code 15 reach
1,800, and rows of the E2M1 code 7, the value 6, reach 1,152. -/
theorem tilePartialsAreExactAndBounded : Obligations.TilePartialsAreExactAndBounded := by
  unfold Obligations.TilePartialsAreExactAndBounded
  refine ⟨fun a b i j => ?_,
    ⟨uniformTile 2 15, uniformTile 2 15, rfl, rfl, uniformTile_codes_lt (by decide), by decide⟩,
    ⟨uniformTile 0 7, uniformTile 0 7, rfl, rfl, uniformTile_codes_lt (by decide), by decide⟩⟩
  have hle : (tilePartial (a.ints i) (b.ints j)).natAbs ≤ 1800 :=
    natAbs_tilePartial_ints_le a b i j 15 15 (natAbs_elemInt_le _) (natAbs_elemInt_le _)
  refine ⟨tilePartial_ints a b i j, hle, fun ha hb => ?_, by omega, by omega⟩
  exact natAbs_tilePartial_ints_le a b i j 12 12 (ha ▸ natAbs_elemInt_zero_le) (hb ▸ natAbs_elemInt_zero_le)

end Sys2Proof.Machine
end
